-- ==== Sys2Proof/Config.lean ====
section
/-! DEFINITION. What the installation fixes: the sizes of the tables, and two of the three values that the manual
leaves open (free values: constants without a body, so that nothing can be proved of the number they are). The layout of
the results that the manual gives by their fields stands with the results in Machine/Port.lean. -/

namespace Sys2Proof.Config

/-- Lanes of the wall (R1, R179). -/
abbrev laneCount : Nat := 4

/-- Cassette slots of the safe (R1, R179). -/
abbrev cassetteCount : Nat := 6

/-- Slots of the order table (Chapter 1, section 1.2). -/
abbrev orderCount : Nat := 12

/-- Alarm zones (R1). -/
abbrev zoneCount : Nat := 16

/-- Watch slots (R160). -/
abbrev watchCount : Nat := 4

/-- FREE VALUE (log entry 7): the seconds of entry delay that ZONE READ shows while the time left, in
milliseconds, is no whole number of seconds. R142 says "the seconds of entry delay left" and gives no rounding. -/
opaque secondsShown : Nat → Nat

/-- FREE VALUE (log entry 8): the four bytes sent for a time of the part clock that four bytes cannot hold.
Section 10.7 says "times four" bytes and bounds the clock nowhere. -/
opaque overlongTime : Nat → BitVec 32

end Sys2Proof.Config
end

