-- ==== Sys2Proof/Word.lean ====
section
/-! DEFINITION. The words of the Station Link and the numbers by which the records are named. -/

namespace Sys2Proof

/-- One byte of a frame (R169). -/
abbrev Byte := BitVec 8

/-- A cassette slot, C1 to C6 as 0 to 5. -/
abbrev CassetteId := Fin Config.cassetteCount

/-- A lane, 1 to 4 as 0 to 3. -/
abbrev LaneId := Fin Config.laneCount

/-- A zone, 1 to 16 as 0 to 15. -/
abbrev ZoneId := Fin Config.zoneCount

/-- A slot of the order table, 1 to 12 as 0 to 11. -/
abbrev OrderSlot := Fin Config.orderCount

/-- A watch slot, 1 to 4 as 0 to 3. -/
abbrev WatchId := Fin Config.watchCount

/-- A reading of the thickness gauge, 0 to 1023, where 1023 is the saturated sensor (section 5.5). -/
abbrev Reading := Fin 1024

end Sys2Proof
end

