-- ==== Sys2Proof/Syntax.lean ====
section
/-! DEFINITION. The commands of the part: one constructor for each row of spec/opcode_table.json.

A row that is a command of the Station Link carries `ps`, the bytes that followed the command code in its frame
(R169, R171), exactly as they were shifted in: the fields, the optional forms and the enumerations are read from
them by the part itself (R173, R180). A row that is an event of the field lines, of a timer or of the part's own
blocks carries what the line or sensor reports. -/

namespace Sys2Proof

/-- What the envelope sensor of a drawer reports at its return (R112). -/
inductive EnvelopeReport where
  | absent
  | present
  | oversize
deriving DecidableEq, Repr

/-- What the bundle sensor of a drawer reports at its outer limit (R107). -/
inductive BundleReport where
  | empty
  | occupied
deriving DecidableEq, Repr

/-- Where the limit switches of a drawer find it (R120). -/
inductive LimitFound where
  | inner
  | outer
  | neither
deriving DecidableEq, Repr

/-- The filtered state of a zone input (R144). -/
inductive ZoneInput where
  | active
  | quiet
deriving DecidableEq, Repr

/-- The five entries of the retract edge counter (section 5.7). -/
inductive RetractEntry where
  | transport
  | chute (lane : LaneId)
deriving DecidableEq, Repr

/-- The levels of the part's input lines, as the recovery event takes them (R22, R41, R120, R159, R186). -/
structure FieldLevels where
  /-- The retention good input. -/
  retentionGood : Bool
  /-- The six seat sensors: whether a cassette is seated. -/
  seated : Vector Bool Config.cassetteCount
  /-- Where the limit switches find each drawer. -/
  limits : Vector LimitFound Config.laneCount
  /-- The envelope sensor of each drawer. -/
  envelopes : Vector EnvelopeReport Config.laneCount
  /-- The filtered zone inputs. -/
  zones : Vector ZoneInput Config.zoneCount
  /-- The filtered key line. -/
  key : Bool
  /-- Whether the gauge reports a note standing at it for a leveling session. Recovery takes it (R41). Between power-on
  or a reset line and recovery it tells of the note that was held there; at any other time it is false, and the note
  held is the transport's own matter (log entry 4). -/
  gaugeNote : Bool
  /-- The stacker count input. -/
  stacker : Nat
deriving DecidableEq, Repr

/-- The commands: every row of spec/opcode_table.json, in the table's order. -/
inductive Instr where
  /-- NOOP (R171). A frame carrying the NOOP code is taken; it ignores its parameters and leaves the result buffer as it stands. -/
  | noop (ps : List Byte)
  /-- IDENTIFY (R179). Returns the vendor code, part code, silicon revision, lane count and cassette count. -/
  | identify (ps : List Byte)
  /-- LINK_STATUS_READ (R174). Returns the OVERRUN, FRAME and UNKNOWN link status flags as one byte. -/
  | linkStatusRead (ps : List Byte)
  /-- LINK_STATUS_CLEAR (R174). Clears each link status flag whose bit is set in the value. -/
  | linkStatusClear (ps : List Byte)
  /-- NOTICE_READ (R175). Returns the ten notice flags and the ten notice enables. -/
  | noticeRead (ps : List Byte)
  /-- NOTICE_CLEAR (R175). Clears each notice whose bit is set in the value, and the attention line follows. -/
  | noticeClear (ps : List Byte)
  /-- CONFIG_READ (R179). Returns every configuration item as it stands. -/
  | configRead (ps : List Byte)
  /-- CONFIG_SET (R178). Writes one configuration item, clamping items 1 to 5 into range and refusing items 4 and 5 while any order is non-terminal. -/
  | configSet (ps : List Byte)
  /-- LINK_RESET (R185). Resets the port, the watch slots and the refusal record, then starts the 20 ms link settle. -/
  | linkReset (ps : List Byte)
  /-- QUIET_ENTER (R183). Checks that the wall is at rest, enters ENTERING_QUIET, stops the shutter idle timer and closes every shutter. -/
  | quietEnter (ps : List Byte)
  /-- QUIET_EXIT (R184). In QUIET after the dwell, turns the rails on, enters WAKING and starts the rail settle. -/
  | quietExit (ps : List Byte)
  /-- CASSETTE_READ (R11). Returns the whole cassette record, with the leveling record in place of the tallies while LEVELING, and clears its change mark. -/
  | cassetteRead (ps : List Byte)
  /-- CASSETTE_READ_ALL (R14). Returns a summary of all six cassettes without clearing any mark. -/
  | cassetteReadAll (ps : List Byte)
  /-- CASSETTE_LOAD (R23). In service mode, sets a cassette's value and counts, zeroes its tallies and sets its state. -/
  | cassetteLoad (ps : List Byte)
  /-- CASSETTE_SET (R24). Sets a cassette's guard and low mark, clamped, and recomputes the low flag. -/
  | cassetteSet (ps : List Byte)
  /-- LEVEL_START (R36). Puts a cassette into LEVELING in phase WAITING and queues its leveling claim. -/
  | levelStart (ps : List Byte)
  /-- LEVEL_TRIAL (R38). In HOLDING, answers whether the held reading is at or above the value and restarts the leveling idle timer. -/
  | levelTrial (ps : List Byte)
  /-- LEVEL_END (R39). Ends a leveling session with a reference or with abandon, spends the test note and releases the transport. -/
  | levelEnd (ps : List Byte)
  /-- ORDER_PLACE (R58). Checks and mixes an order, then allocates a slot, reserves the notes and makes the order HELD or QUEUED. -/
  | orderPlace (ps : List Byte)
  /-- ORDER_RELEASE (R61). Moves a HELD order into QUEUED at the tail of the transport queue. -/
  | orderRelease (ps : List Byte)
  /-- ORDER_CANCEL (R63). Cancels a HELD or QUEUED order with reason STATION and releases its reservations. -/
  | orderCancel (ps : List Byte)
  /-- ORDER_READ (R72). Returns the whole order record and clears its change mark. -/
  | orderRead (ps : List Byte)
  /-- ORDER_SCAN (R12). Lists the handles of every marked order in slot order. -/
  | orderScan (ps : List Byte)
  /-- ORDER_RETIRE (R15). Removes a terminal order and frees its slot, keeping the slot's tag. -/
  | orderRetire (ps : List Byte)
  /-- ORDER_RESOLVE (R71). In service mode, moves unresolved notes of a terminal order to taken or to recovered. -/
  | orderResolve (ps : List Byte)
  /-- ENVELOPE_READ (R134). Returns the whole envelope record and clears its change mark. -/
  | envelopeRead (ps : List Byte)
  /-- ENVELOPE_SCAN (R13). Lists the first twelve marked envelopes in capture-number order, with a more flag. -/
  | envelopeScan (ps : List Byte)
  /-- ENVELOPE_ANNOTATE (R135). Sets an envelope's declared amount and reference. -/
  | envelopeAnnotate (ps : List Byte)
  /-- ENVELOPE_RETIRE (R136). In service mode, removes a STRAYED envelope record and frees its place in the capture budget. -/
  | envelopeRetire (ps : List Byte)
  /-- BIN_READ (R140). Returns the bin record, the conveyor record, the gates and the retention state. -/
  | binRead (ps : List Byte)
  /-- BIN_CLEAR (R138). In service mode with the bin door open, retires every BINNED record, zeroes the unexpected-arrival counter and makes the capture bin COUNTED. -/
  | binClear (ps : List Byte)
  /-- CONVEYOR_RESTART (R131). Sets a HALTED conveyor RUNNING again. -/
  | conveyorRestart (ps : List Byte)
  /-- SESSION_OPEN (R102). Opens a lane's session. -/
  | sessionOpen (ps : List Byte)
  /-- SESSION_CLOSE (R103). Takes an OPEN session to CLOSING and cancels, dumps or recalls the lane's work. -/
  | sessionClose (ps : List Byte)
  /-- DRAWER_SEND (R105). Sends the drawer out with the staged bundle, for a deposit, or both. -/
  | drawerSend (ps : List Byte)
  /-- DRAWER_RECALL (R109). Brings an OPEN drawer home, or sets a pending recall on an EXTENDING one. -/
  | drawerRecall (ps : List Byte)
  /-- LANE_READ (R101). Returns the whole lane record and clears its change mark. -/
  | laneRead (ps : List Byte)
  /-- LANE_READ_ALL (R14). Returns a summary of all four lanes without clearing any mark. -/
  | laneReadAll (ps : List Byte)
  /-- LANE_CLEAR (R118). In service mode, returns a JAMMED drawer to CLOSED, or drives it home, and clears a JAM lock. -/
  | laneClear (ps : List Byte)
  /-- TRANSPORT_READ (R77). Returns the transport record and the transport queue. -/
  | transportRead (ps : List Byte)
  /-- TRANSPORT_CLEAR (R93). In service mode, returns a JAMMED transport to FREE. -/
  | transportClear (ps : List Byte)
  /-- BINS_EMPTIED (R99). In service mode, zeroes the retract and reject bin counts and makes both bins COUNTED. -/
  | binsEmptied (ps : List Byte)
  /-- ZONE_READ (R142). Returns the whole zone record with its status and clears its change mark. -/
  | zoneRead (ps : List Byte)
  /-- ZONE_READ_ALL (R142). Returns a summary of all sixteen zones and the alarm status. -/
  | zoneReadAll (ps : List Byte)
  /-- ZONE_SET (R143). In service mode, writes one zone's group, response, lane and entry delay. -/
  | zoneSet (ps : List Byte)
  /-- ARM (R145). Sets the armed flag of the DAY or NIGHT group. -/
  | arm (ps : List Byte)
  /-- DISARM (R146). Clears a group's armed flag, ends its delays and clears its manual bypasses. -/
  | disarm (ps : List Byte)
  /-- BYPASS (R150). In service mode, sets a zone's manual bypass. -/
  | bypass (ps : List Byte)
  /-- ALARM_RESET (R151). Clears one zone's latch and releases its response. -/
  | alarmReset (ps : List Byte)
  /-- ALARM_SILENCE (R152). Drops the siren line. -/
  | alarmSilence (ps : List Byte)
  /-- SERVICE_ENTER (R156). Enters service mode, bypasses the service zones and closes every shutter. -/
  | serviceEnter (ps : List Byte)
  /-- SERVICE_EXIT (R157). Ends service mode, returns the service zones to NORMAL and ends the manual bypasses of ALWAYS zones. -/
  | serviceExit (ps : List Byte)
  /-- WATCH_SET (R161). Writes the configuration and enable of one watch slot. -/
  | watchSet (ps : List Byte)
  /-- WATCH_READ (R166). Returns the hit value and all four watch slots. -/
  | watchRead (ps : List Byte)
  /-- WATCH_CLEAR (R166). Clears the hit flags whose weights are set in the value. -/
  | watchClear (ps : List Byte)
  /-- REFUSAL_READ (R168). Returns the refusal record and zeroes the refusal count. -/
  | refusalRead (ps : List Byte)
  /-- UNKNOWN_COMMAND (R173). A frame whose code names no command is refused and sets the UNKNOWN flag and the LINK notice. -/
  | unknownCommand (code : Byte) (ps : List Byte)
  /-- OVERRUN (R172). A non-NOOP frame whose status byte showed BUSY is discarded and sets the OVERRUN flag and the LINK notice. -/
  | overrun
  /-- RESULT_WRITTEN (R170). Processing of a taken command ends when its result is written into the result buffer and BUSY clears. -/
  | resultWritten
  /-- POWER_ON (R182). Power-on puts the part into STARTING in phase SETTLE with the rails off and starts the part clock from 0. -/
  | powerOn
  /-- RESET_LINE (R186). Assertion of the reset line abandons any frame in progress and begins the start-up sequence from SETTLE. -/
  | resetLine
  /-- SETTLE_EXPIRY (R186). At the end of the 50 ms settle, retention good is sampled, recovery is made and start-up passes to PURGE. -/
  | settleExpiry (found : FieldLevels)
  /-- START_UP_END (R188). At the expiry of the purge phase, the holder's purge ends, the transport resets, the mode becomes ACTIVE and the notices are set. -/
  | startUpEnd
  /-- CLEARANCE_END (R139). The end of the envelope path clearance leaves the conveyor RUNNING with an empty list and the counter at 0. -/
  | clearanceEnd
  /-- LINK_SETTLE_EXPIRY (R185). At the end of the link settle, RESTART and every held notice are set. -/
  | linkSettleExpiry
  /-- RAIL_SETTLE_EXPIRY (R184). At the end of the rail settle, the mode becomes ACTIVE and the quiet dwell starts. -/
  | railSettleExpiry
  /-- QUIET_DWELL_EXPIRY (R184). The quiet dwell ends, and QUIET ENTER and QUIET EXIT are no longer refused TOO_SOON. -/
  | quietDwellExpiry
  /-- SHUTTER_TRAVEL_END (R33). After 300 ms of travel, an OPENING shutter becomes OPEN or a CLOSING one becomes SHUT. -/
  | shutterTravelEnd (cassette : CassetteId)
  /-- SHUTTER_IDLE_EXPIRY (R34). When the shutter idle timer expires, every OPEN or OPENING shutter goes CLOSING. -/
  | shutterIdleExpiry
  /-- LEVELING_IDLE_EXPIRY (R40). When the leveling idle timer expires in HOLDING, the session is abandoned as LEVEL END with abandon. -/
  | levelingIdleExpiry
  /-- CASSETTE_REMOVED (R20). The seat sensor reports the cassette removed: the cassette goes ABSENT and its orders fail or abort. -/
  | cassetteRemoved (cassette : CassetteId)
  /-- CASSETTE_SEATED (R21). The seat sensor reports a cassette seated: it goes from ABSENT to UNCOUNTED. -/
  | cassetteSeated (cassette : CassetteId)
  /-- GRANT (R81). The arbiter grants the transport to the oldest grantable claim once the grant conditions hold. -/
  | grant
  /-- NOTE_REACHES_GAUGE (R88). A picked note arrives at the gauge: it is classified for an order, or held for leveling. -/
  | noteReachesGauge (reading : Reading)
  /-- PICK_WINDOW_EXPIRY (R85). A pick window expires with no note: a miss is counted, and the third miss writes off the cassette. -/
  | pickWindowExpiry
  /-- STACKER_COUNT_REPORT (R76). The stacker count input reports and the transport's stacker notes follow it. -/
  | stackerCountReport (count : Nat)
  /-- HEAD_ARRIVAL (R90). A head arrival sensor reports a bundle: the order is STAGED or aborted and the transport is released, or a late arrival is flagged. -/
  | headArrival (lane : LaneId)
  /-- ROUTE_LIMIT_EXPIRY (R92). When the route limit expires, the order fails with TRANSPORT_JAM and the transport goes JAMMED. -/
  | routeLimitExpiry
  /-- PURGE_RUN_EXPIRY (R94). At the end of a purge run, the order's figures and final state are set and the transport is released. -/
  | purgeRunExpiry
  /-- RETRACT_EDGE (R110). The retract edge counter reports an edge at one entry, counting a note for the purging, dumping or recalled order. -/
  | retractEdge (entry : RetractEntry)
  /-- HOLD_DEADLINE_EXPIRY (R60). A HELD order's deadline passes: it goes CANCELLED with reason EXPIRED and releases its reservations. -/
  | holdDeadlineExpiry (slot : OrderSlot)
  /-- OUTER_LIMIT (R107). The outer limit switch reports: an EXTENDING drawer goes OPEN, presents its bundle or begins a pending recall. -/
  | outerLimit (lane : LaneId) (bundle : BundleReport)
  /-- INNER_LIMIT (R111). The inner limit switch reports: a RETRACTING drawer goes CLOSED, the count-back decides the order, and the envelope is handled. -/
  | innerLimit (lane : LaneId) (envelope : EnvelopeReport)
  /-- BUNDLE_SENSOR_CLEARS (R114). The bundle sensor reports an OPEN drawer empty: the PRESENTED order goes TAKEN. -/
  | bundleSensorClears (lane : LaneId)
  /-- PRESENT_DEADLINE_EXPIRY (R108). A PRESENTED order's present deadline expires and the drawer is recalled. -/
  | presentDeadlineExpiry (slot : OrderSlot)
  /-- DUMP_RUN_EXPIRY (R113). At the end of a head dump run, the order's figures and final state are set and the head empties. -/
  | dumpRunExpiry (lane : LaneId)
  /-- DRAWER_TRAVEL_LIMIT_EXPIRY (R115). When the drawer travel limit expires, the drawer goes JAMMED, its order fails with DRAWER_JAM and the lane locks JAM. -/
  | drawerTravelLimitExpiry (lane : LaneId)
  /-- ADMISSION (R125). The oldest INTAKE envelope is released onto the conveyor once the admission conditions hold. -/
  | admission
  /-- ADMISSION_SPACING_EXPIRY (R124). The 1 s admission spacing timer expires. -/
  | admissionSpacingExpiry
  /-- BIN_ARRIVAL (R128). The bin arrival sensor reports an envelope, which is matched to the head of the conveyor list and BINNED. -/
  | binArrival
  /-- TRANSIT_TIMER_EXPIRY (R130). When the head's transit timer expires, the head envelope becomes STRAYED and the conveyor HALTS. -/
  | transitTimerExpiry
  /-- ZONE_INPUT_REPORT (R144). The 50 ms filter reports a zone input at its new level, and an ACTIVE report is acted on by the zone's state. -/
  | zoneInputReport (zone : ZoneId) (level : ZoneInput)
  /-- ENTRY_DELAY_EXPIRY (R148). When a zone's entry delay expires, the zone latches. -/
  | entryDelayExpiry (zone : ZoneId)
  /-- KEY_LINE_REPORT (R158). The filtered key line reports, and a drop in service mode ends service mode without the check. -/
  | keyLineReport (asserted : Bool)
  /-- SELECT_ASSERTION (R170). At the assertion of select the port fixes the frame out: the status byte takes BUSY, the ATTENTION level and the result code as they stand, and this snapshot decides at release whether the frame is discarded as an overrun. -/
  | selectAssertion
deriving DecidableEq, Repr

end Sys2Proof
end

