-- ==== Sys2Proof/Decode.lean ====
section
/-! DEFINITION. The codes of the Station Link (section 10.7): the command that a frame in carries, and the frame in that
carries a command. The rows of the table give no bits, so no word of the table spells a command. -/

namespace Sys2Proof

/-- The command that a table word spells: none, for no row of the table gives bits (log entry 6). -/
def decodeTableWord (_nbits _w : Nat) : Option Instr := none

/-- The command that a code names, from the bytes after it: the command codes of section 10.7. -/
def commandOf (code : Nat) : Option (List Byte → Instr) :=
  match code with
  | 0x01 => some .noop
  | 0x02 => some .identify
  | 0x03 => some .linkStatusRead
  | 0x04 => some .linkStatusClear
  | 0x05 => some .noticeRead
  | 0x06 => some .noticeClear
  | 0x07 => some .configRead
  | 0x08 => some .configSet
  | 0x09 => some .linkReset
  | 0x0A => some .quietEnter
  | 0x0B => some .quietExit
  | 0x10 => some .cassetteRead
  | 0x11 => some .cassetteReadAll
  | 0x12 => some .cassetteLoad
  | 0x13 => some .cassetteSet
  | 0x14 => some .levelStart
  | 0x15 => some .levelTrial
  | 0x16 => some .levelEnd
  | 0x20 => some .orderPlace
  | 0x21 => some .orderRelease
  | 0x22 => some .orderCancel
  | 0x23 => some .orderRead
  | 0x24 => some .orderScan
  | 0x25 => some .orderRetire
  | 0x26 => some .orderResolve
  | 0x30 => some .envelopeRead
  | 0x31 => some .envelopeScan
  | 0x32 => some .envelopeAnnotate
  | 0x33 => some .envelopeRetire
  | 0x34 => some .binRead
  | 0x35 => some .binClear
  | 0x36 => some .conveyorRestart
  | 0x40 => some .sessionOpen
  | 0x41 => some .sessionClose
  | 0x42 => some .drawerSend
  | 0x43 => some .drawerRecall
  | 0x44 => some .laneRead
  | 0x45 => some .laneReadAll
  | 0x46 => some .laneClear
  | 0x50 => some .transportRead
  | 0x51 => some .transportClear
  | 0x52 => some .binsEmptied
  | 0x60 => some .zoneRead
  | 0x61 => some .zoneReadAll
  | 0x62 => some .zoneSet
  | 0x63 => some .arm
  | 0x64 => some .disarm
  | 0x65 => some .bypass
  | 0x66 => some .alarmReset
  | 0x67 => some .alarmSilence
  | 0x68 => some .serviceEnter
  | 0x69 => some .serviceExit
  | 0x70 => some .watchSet
  | 0x71 => some .watchRead
  | 0x72 => some .watchClear
  | 0x73 => some .refusalRead
  | _ => none

/-- The code names a command (R171, case 4). -/
def listedCode (code : Byte) : Bool := (commandOf code.toNat).isSome

/-- The command of a frame in (R169, R171): the code is byte 0 and at most 63 bytes are shifted in after it; a code in no
list is the unknown command; a frame of less than one byte carries none. -/
def decodeFrame : List Byte → Option Instr
  | [] => none
  | code :: rest =>
    some (match commandOf code.toNat with
      | some f => f (rest.take 63)
      | none => .unknownCommand code (rest.take 63))

/-- The bytes of the frame that carries a station command; an event of the field lines or of a timer comes in no frame
(section 10.7). -/
def encodeFrame : Instr → Option (List Byte)
  | .noop ps => some (0x01 :: ps)
  | .identify ps => some (0x02 :: ps)
  | .linkStatusRead ps => some (0x03 :: ps)
  | .linkStatusClear ps => some (0x04 :: ps)
  | .noticeRead ps => some (0x05 :: ps)
  | .noticeClear ps => some (0x06 :: ps)
  | .configRead ps => some (0x07 :: ps)
  | .configSet ps => some (0x08 :: ps)
  | .linkReset ps => some (0x09 :: ps)
  | .quietEnter ps => some (0x0A :: ps)
  | .quietExit ps => some (0x0B :: ps)
  | .cassetteRead ps => some (0x10 :: ps)
  | .cassetteReadAll ps => some (0x11 :: ps)
  | .cassetteLoad ps => some (0x12 :: ps)
  | .cassetteSet ps => some (0x13 :: ps)
  | .levelStart ps => some (0x14 :: ps)
  | .levelTrial ps => some (0x15 :: ps)
  | .levelEnd ps => some (0x16 :: ps)
  | .orderPlace ps => some (0x20 :: ps)
  | .orderRelease ps => some (0x21 :: ps)
  | .orderCancel ps => some (0x22 :: ps)
  | .orderRead ps => some (0x23 :: ps)
  | .orderScan ps => some (0x24 :: ps)
  | .orderRetire ps => some (0x25 :: ps)
  | .orderResolve ps => some (0x26 :: ps)
  | .envelopeRead ps => some (0x30 :: ps)
  | .envelopeScan ps => some (0x31 :: ps)
  | .envelopeAnnotate ps => some (0x32 :: ps)
  | .envelopeRetire ps => some (0x33 :: ps)
  | .binRead ps => some (0x34 :: ps)
  | .binClear ps => some (0x35 :: ps)
  | .conveyorRestart ps => some (0x36 :: ps)
  | .sessionOpen ps => some (0x40 :: ps)
  | .sessionClose ps => some (0x41 :: ps)
  | .drawerSend ps => some (0x42 :: ps)
  | .drawerRecall ps => some (0x43 :: ps)
  | .laneRead ps => some (0x44 :: ps)
  | .laneReadAll ps => some (0x45 :: ps)
  | .laneClear ps => some (0x46 :: ps)
  | .transportRead ps => some (0x50 :: ps)
  | .transportClear ps => some (0x51 :: ps)
  | .binsEmptied ps => some (0x52 :: ps)
  | .zoneRead ps => some (0x60 :: ps)
  | .zoneReadAll ps => some (0x61 :: ps)
  | .zoneSet ps => some (0x62 :: ps)
  | .arm ps => some (0x63 :: ps)
  | .disarm ps => some (0x64 :: ps)
  | .bypass ps => some (0x65 :: ps)
  | .alarmReset ps => some (0x66 :: ps)
  | .alarmSilence ps => some (0x67 :: ps)
  | .serviceEnter ps => some (0x68 :: ps)
  | .serviceExit ps => some (0x69 :: ps)
  | .watchSet ps => some (0x70 :: ps)
  | .watchRead ps => some (0x71 :: ps)
  | .watchClear ps => some (0x72 :: ps)
  | .refusalRead ps => some (0x73 :: ps)
  | .unknownCommand code ps => some (code :: ps)
  | .overrun => none
  | .resultWritten => none
  | .powerOn => none
  | .resetLine => none
  | .settleExpiry _ => none
  | .startUpEnd => none
  | .clearanceEnd => none
  | .linkSettleExpiry => none
  | .railSettleExpiry => none
  | .quietDwellExpiry => none
  | .shutterTravelEnd _ => none
  | .shutterIdleExpiry => none
  | .levelingIdleExpiry => none
  | .cassetteRemoved _ => none
  | .cassetteSeated _ => none
  | .grant => none
  | .noteReachesGauge _ => none
  | .pickWindowExpiry => none
  | .stackerCountReport _ => none
  | .headArrival _ => none
  | .routeLimitExpiry => none
  | .purgeRunExpiry => none
  | .retractEdge _ => none
  | .holdDeadlineExpiry _ => none
  | .outerLimit _ _ => none
  | .innerLimit _ _ => none
  | .bundleSensorClears _ => none
  | .presentDeadlineExpiry _ => none
  | .dumpRunExpiry _ => none
  | .drawerTravelLimitExpiry _ => none
  | .admission => none
  | .admissionSpacingExpiry => none
  | .binArrival => none
  | .transitTimerExpiry => none
  | .zoneInputReport _ _ => none
  | .entryDelayExpiry _ => none
  | .keyLineReport _ => none
  | .selectAssertion => none

end Sys2Proof
end

