-- ==== Sys2Proof/Machine/State.lean ====
section
/-! DEFINITION. The state of the part, block by block, as plain data: the custody records (the retained store), the
working state of every block, and the queue of waiting commands. Names are the manual's; numbers are in the units of
Conventions (notes, currency units, gauge units, milliseconds for timers, seconds for times of the part clock). -/

namespace Sys2Proof.Machine

/-- A timer: absent while it does not run, else the milliseconds left. -/
abbrev Timer := Option Nat

/-! ## Cassettes (Chapter 2) -/

/-- The state of a cassette, in the manual's order (section 2.1). -/
inductive CassetteState where
  | absent
  | uncounted
  | unleveled
  | ready
  | leveling
  | empty
deriving DecidableEq, Repr

/-- The state of an outlet shutter: SHUT, OPENING, OPEN, CLOSING (section 2.1). -/
inductive Shutter where
  | shut
  | opening
  | opened
  | closing
deriving DecidableEq, Repr

/-- The phase of a leveling session (section 2.6). -/
inductive LevelPhase where
  | waiting
  | fetching
  | holding
deriving DecidableEq, Repr

/-- The leveling record, which exists only while the cassette is LEVELING (section 2.6). -/
structure Leveling where
  phase : LevelPhase
  /-- LEVEL TRIAL commands answered, 0 to 255, saturating. -/
  trials : Nat
  /-- The value and the answer of the last trial, absent before the first. -/
  lastTrial : Option (Nat × Bool)
deriving DecidableEq, Repr

/-- A cassette record (section 2.1). Its slot is its place in the cassette table. -/
structure Cassette where
  state : CassetteState
  value : Nat
  loaded : Nat
  current : Nat
  reserved : Nat
  guard : Nat
  lowMark : Nat
  lowFlag : Bool
  /-- The thickness reference; 0 means none. -/
  reference : Nat
  accepted : Nat
  rejectNotes : Nat
  testNotes : Nat
  writtenOff : Nat
  shutter : Shutter
  leveling : Option Leveling
  mark : Bool
deriving DecidableEq, Repr

/-! ## Orders (Chapter 4) -/

/-- The state of an order, in the manual's order (section 4.2). -/
inductive OrderState where
  | held
  | queued
  | picking
  | routing
  | staged
  | presented
  | recalling
  | aborting
  | taken
  | partlyTaken
  | retracted
  | cancelled
  | failed
deriving DecidableEq, Repr

/-- Why an order left its normal course, in the manual's order (section 4.6). -/
inductive Reason where
  | station
  | expired
  | sessionClosed
  | laneLock
  | power
  | short
  | cassetteGone
  | rejects
  | lockdown
  | drawerJam
  | transportJam
deriving DecidableEq, Repr

/-- One entry of a caps list (R45). -/
structure Cap where
  value : Nat
  cap : Nat
deriving DecidableEq, Repr

/-- One entry of a mix list (R54). -/
structure MixEntry where
  slot : CassetteId
  /-- The denomination value the cassette held at placement. -/
  value : Nat
  count : Nat
  /-- The accepted so far. -/
  accepted : Nat
deriving DecidableEq, Repr

/-- An order record (section 4.1). Its handle is its place in the order table with the tag of that slot. -/
structure Order where
  lane : LaneId
  amount : Nat
  hold : Bool
  /-- The caps list as given at placement; a list without entries is an absent one (R45). -/
  caps : List Cap
  mix : List MixEntry
  state : OrderState
  reason : Option Reason
  rejectItems : Nat
  rejectNotes : Nat
  presented : Nat
  taken : Nat
  retracted : Nat
  recovered : Nat
  unresolved : Nat
  holdDeadline : Option Nat
  presentDeadline : Option Nat
  mark : Bool
deriving DecidableEq, Repr

/-! ## Envelopes (Chapter 7) -/

/-- The state of an envelope record (section 7.1). -/
inductive EnvelopeState where
  | intake
  | conveying
  | binned
  | strayed
deriving DecidableEq, Repr

/-- An envelope record (section 7.1). -/
structure Envelope where
  capture : Nat
  lane : LaneId
  state : EnvelopeState
  binPosition : Option Nat
  acceptedAt : Nat
  declared : Option Nat
  reference : Option (List Byte)
  mark : Bool
deriving DecidableEq, Repr

/-! ## Zones (Chapter 8) -/

/-- The group of a zone (section 8.1). -/
inductive Group where
  | day
  | night
  | always
deriving DecidableEq, Repr

/-- What a latch of a zone does (section 8.1). -/
inductive Response where
  | lockdown
  | laneLock
  | silent
  | report
deriving DecidableEq, Repr

/-- The state of a zone (section 8.1). -/
inductive ZoneState where
  | normal
  | delay
  | latched
  | bypassed
deriving DecidableEq, Repr

/-- What a zone input is wired to, in the order of the zones (section 8.1). -/
inductive ZoneKind where
  | safeDoor
  | captureBinDoor
  | cassetteBay
  | drawerForce
  | tellerHoldUp
  | transportCover
  | lanePanel
  | conveyorHatch
  | generalInput
deriving DecidableEq, Repr

/-- A zone record (section 8.1). Its id is its place in the zone table, and its kind follows from its id. -/
structure Zone where
  group : Group
  response : Response
  lane : Option LaneId
  /-- The configured entry delay, in seconds. -/
  entryDelay : Nat
  input : ZoneInput
  state : ZoneState
  manualBypass : Bool
  tripCount : Nat
  mark : Bool
deriving DecidableEq, Repr

/-! ## Lanes (Chapter 6) -/

/-- The cause that closes a session (section 6.1). -/
inductive CloseCause where
  | sessionClosed
  | laneLock
deriving DecidableEq, Repr

/-- The session of a lane: CLOSED, OPEN, or CLOSING with its close cause (section 6.1). -/
inductive Session where
  | closed
  | opened
  | closing (cause : CloseCause)
deriving DecidableEq, Repr

/-- The state of a drawer: CLOSED, EXTENDING, OPEN, RETRACTING, JAMMED (section 6.1). -/
inductive Drawer where
  | closed
  | extending
  | opened
  | retracting
  | jammed
deriving DecidableEq, Repr

/-- What bars a lane from new business (section 6.1). -/
inductive Lock where
  | none
  | alarm (zone : ZoneId)
  | jam
deriving DecidableEq, Repr

/-- A lane record (section 6.1). The order in the head and the order in the drawer are named by their slot of the
order table, whose tag completes the handle (log entry 12). -/
structure Lane where
  session : Session
  drawer : Drawer
  head : Option OrderSlot
  load : Option OrderSlot
  claim : Bool
  lock : Lock
  mark : Bool
deriving DecidableEq, Repr

/-- The causes of a recall that can wait for an EXTENDING drawer (R106). -/
inductive RecallCause where
  | drawerRecall
  | sessionClosed
  | laneLock
  | lockdown
deriving DecidableEq, Repr

/-- The limit switch that has reported last since a drawer jammed (section 6.1). -/
inductive LimitNote where
  | inner
  | outer
deriving DecidableEq, Repr

/-- The working state of a Lane Controller, which is not retained (section 6.1). -/
structure LaneWork where
  pendingRecall : Option RecallCause
  /-- The dump run of the head: the time it has left while it runs. -/
  dump : Timer
  jamNote : Option LimitNote
  /-- The drawer travel limit. -/
  travel : Timer
  /-- The bundle sensor showed the drawer empty as it reached its outer limit: a clearing follows (R107). -/
  clearingDue : Bool
deriving DecidableEq, Repr

/-! ## The retained store (Chapter 1) -/

/-- The retract, reject and capture bin figures (section 5.8, R137, R129). -/
structure Bins where
  retractCount : Nat
  retractCounted : Bool
  rejectCount : Nat
  rejectCounted : Bool
  captureCounted : Bool
  unexpected : Nat
deriving DecidableEq, Repr

/-- The configuration items (R178). -/
structure Settings where
  holdLimit : Nat
  presentLimit : Nat
  shutterIdleClose : Nat
  noteLimit : Nat
  maxRejects : Nat
  enables : BitVec 10
deriving DecidableEq, Repr

/-- What start-up found of the retained store (R18, R19). -/
inductive Retention where
  | kept
  | cleared
deriving DecidableEq, Repr

/-- The Custody Store: the retained records (R17). -/
structure Custody where
  cassettes : Vector Cassette Config.cassetteCount
  orders : Vector (Option Order) Config.orderCount
  tags : Vector (BitVec 4) Config.orderCount
  /-- The live orders, the one placed first at the head (R30). -/
  placement : List OrderSlot
  /-- The live envelope records in capture-number order (R7). -/
  envelopes : List Envelope
  captureCounter : Nat
  zones : Vector Zone Config.zoneCount
  dayArmed : Bool
  nightArmed : Bool
  /-- The LATCHED zones, oldest latch at the head (R149). -/
  tripList : List ZoneId
  lanes : Vector Lane Config.laneCount
  bins : Bins
  settings : Settings
  retention : Retention
deriving DecidableEq, Repr

/-! ## The Note Path Controller (Chapter 5) -/

/-- The transport states (section 5.1). -/
inductive PathState where
  | free
  | picking
  | routing
  | purging
  | leveling
  | jammed
deriving DecidableEq, Repr

/-- A transport claim (R78): an order, by its slot of the order table, or a leveling session, by its cassette. -/
inductive Claim where
  | order (slot : OrderSlot)
  | leveling (cassette : CassetteId)
deriving DecidableEq, Repr

/-- The jam record (R76). -/
structure Jam where
  lane : LaneId
  late : Bool
deriving DecidableEq, Repr

/-- A pick attempt in flight (R85). -/
structure Attempt where
  /-- The milliseconds left of the pick window. -/
  left : Nat
  /-- Lockdown has started: the attempt runs to its end and the work of its holder ends with it (R40, R86). -/
  last : Bool
  /-- SERVICE ENTER has closed the shutter: a window that expires is no miss (R37). -/
  noMiss : Bool
deriving DecidableEq, Repr

/-- Where the route diverter is set (R90, R94). -/
inductive RouteDiverter where
  | head (lane : LaneId)
  | retractBin
deriving DecidableEq, Repr

/-- The transport record and the other working state of the Note Path Controller (R76, R78, R34, R36). -/
structure NotePath where
  state : PathState
  holder : Option Claim
  /-- The position, from 0, of the mix entry being picked. -/
  entry : Option Nat
  misses : Nat
  stackerNotes : Nat
  jam : Option Jam
  rejectPause : Bool
  /-- The transport queue, oldest claim at the head. -/
  queue : List Claim
  shutterIdle : Timer
  attempt : Option Attempt
  /-- The route limit, and the purge run that lasts as long (R90, R94). -/
  run : Timer
  /-- The held reading of the leveling session in HOLDING (section 2.6). -/
  heldReading : Option Nat
  levelingIdle : Timer
  /-- The travel timers of the six shutters (section 2.5). -/
  shutterTravel : Vector Timer Config.cassetteCount
  routeDiverter : RouteDiverter
  /-- The reject diverter is set toward the reject bin (R88). -/
  rejectDiverter : Bool
deriving DecidableEq, Repr

/-! ## The Envelope Conveyor Controller (Chapter 7) -/

/-- The conveyor state (section 7.4). -/
inductive ConveyorState where
  | running
  | halted
deriving DecidableEq, Repr

/-- The conveyor record and the other working state of the Envelope Conveyor Controller (R126, R128, R139). -/
structure Conveyor where
  state : ConveyorState
  /-- The conveyor list, head first. -/
  list : List Nat
  /-- The bin list, bin position 1 first. -/
  binList : List Nat
  transit : Timer
  spacing : Timer
  /-- The envelope path clearance: the time it has left while it runs. -/
  clearance : Timer
  /-- The gates whose release was driven last (R125, R139). -/
  gatesDriven : List LaneId
deriving DecidableEq, Repr

/-! ## The Alarm Unit (Chapter 8) -/

/-- The working state of the Alarm Unit (section 8.1). -/
structure AlarmUnit where
  /-- The entry delay timers, one per zone in DELAY. -/
  delays : Vector Timer Config.zoneCount
  siren : Bool
  silent : Bool
  /-- The key line as last filtered: asserted. -/
  key : Bool
  service : Bool
deriving DecidableEq, Repr

/-! ## The Station Link Port (Chapter 10) -/

/-- The result codes, in the order of their numbers (section 10.6). -/
inductive ResultCode where
  | ok
  | clamped
  | unknownCommand
  | frameLength
  | starting
  | waking
  | quiet
  | stale
  | noSuch
  | badParam
  | wrongState
  | notService
  | lockdown
  | noMix
  | tableFull
  | retractFull
  | captureFull
  | noSession
  | laneLocked
  | expired
  | tooSoon
  | uncounted
deriving DecidableEq, Repr

/-! ## The Watch Unit (Chapter 9) -/

/-- The table a watch slot watches (section 9.1). -/
inductive RecordKind where
  | cassette
  | order
  | envelope
  | zone
  | lane
deriving DecidableEq, Repr

/-- What counts as a hit (section 9.1). -/
inductive Trigger where
  | stateChange
  | countBelow
  | retire
  | access
deriving DecidableEq, Repr

/-- A watch slot (section 9.1). The last hit handle is kept as the number of the handle. -/
structure WatchSlot where
  enable : Bool
  kind : RecordKind
  first : Nat
  span : Nat
  trigger : Trigger
  threshold : Option Nat
  /-- The lane of a LANE scope, absent for GLOBAL. -/
  scope : Option LaneId
  hit : Bool
  last : Option Nat
deriving DecidableEq, Repr

/-- The last refused command (R167). -/
structure Refused where
  code : Byte
  param : Byte
  result : ResultCode
deriving DecidableEq, Repr

/-- The working state of the Watch Unit: the slots and the refusal record (R160, R167). -/
structure WatchUnit where
  slots : Vector WatchSlot Config.watchCount
  refused : Option Refused
  refusals : Nat
deriving DecidableEq, Repr

/-! ## Results (sections 10.6 and 10.7) -/

/-- The entry of one cassette in the summary of CASSETTE READ ALL (R14). -/
structure CassetteSummary where
  slot : Nat
  state : CassetteState
  value : Nat
  current : Nat
  reserved : Nat
  lowFlag : Bool
  shutter : Shutter
  mark : Bool
deriving DecidableEq, Repr

/-- The entry of one zone in the summary of ZONE READ ALL (R14). -/
structure ZoneSummary where
  id : Nat
  state : ZoneState
  input : ZoneInput
  armed : Bool
  mark : Bool
deriving DecidableEq, Repr

/-- The entry of one lane in the summary of LANE READ ALL (R14). -/
structure LaneSummary where
  lane : Nat
  session : Session
  drawer : Drawer
  headOccupied : Bool
  loaded : Bool
  claim : Bool
  lock : Lock
  mark : Bool
deriving DecidableEq, Repr

/-- The alarm status that ZONE READ ALL returns after its summary (R142). -/
structure AlarmStatus where
  dayArmed : Bool
  nightArmed : Bool
  lockdown : Bool
  siren : Bool
  silent : Bool
  service : Bool
  key : Bool
  tripList : List Nat
deriving DecidableEq, Repr

/-- What ZONE READ returns (R142). -/
structure ZoneReport where
  id : Nat
  kind : ZoneKind
  record : Zone
  armed : Bool
  bypassedByManual : Bool
  bypassedByService : Bool
  /-- In DELAY, the seconds of entry delay left. -/
  delayLeft : Option Nat
  /-- In LATCHED, the place in the trip list, counted from 1. -/
  tripPlace : Option Nat
deriving DecidableEq, Repr

/-- What LANE READ returns (R101): the record, the handles of the orders in the head and in the drawer, and the
pending recall. -/
structure LaneReport where
  lane : Nat
  record : Lane
  headHandle : Option Byte
  loadHandle : Option Byte
  pendingRecall : Option RecallCause
deriving DecidableEq, Repr

/-- A transport claim as TRANSPORT READ shows it: an order handle or a leveling slot (R77). -/
inductive ClaimReport where
  | order (handle : Byte)
  | leveling (slot : Nat)
deriving DecidableEq, Repr

/-- What TRANSPORT READ returns (R77). -/
structure TransportReport where
  state : PathState
  holder : Option ClaimReport
  /-- The position in the mix list, from 1, of the entry being picked. -/
  entry : Option Nat
  misses : Nat
  stackerNotes : Nat
  jam : Option Jam
  rejectPause : Bool
  idleRunning : Bool
  /-- The queue, oldest first, each claim with its grantable flag. -/
  queue : List (ClaimReport × Bool)
deriving DecidableEq, Repr

/-- What BIN READ shows of one lane's gate: the envelope in it, and whether the drawer waits for it (R140). -/
structure GateReport where
  envelope : Option Nat
  drawerWaits : Bool
deriving DecidableEq, Repr

/-- What BIN READ returns (R140). -/
structure BinReport where
  retention : Retention
  retractCount : Nat
  retractCounted : Bool
  rejectCount : Nat
  rejectCounted : Bool
  rejectPause : Bool
  captureCounted : Bool
  binned : Nat
  unexpected : Nat
  records : Nat
  claims : Nat
  conveyor : ConveyorState
  list : List Nat
  gates : List GateReport
deriving DecidableEq, Repr

/-- What IDENTIFY returns (R179). -/
structure Identification where
  vendor : Nat
  part : Nat
  revision : Nat
  lanes : Nat
  cassettes : Nat
deriving DecidableEq, Repr

/-- The result bytes of a result. A result whose byte layout section 10.7 gives, or whose fields have only one
layout, is its bytes; any other is its fields (R14, R181). -/
inductive Payload where
  | empty
  | bytes (data : List Byte)
  | identification (i : Identification)
  | item (value : Nat)
  | trial (bit : Bool)
  | placed (handle : Byte) (mix : List MixEntry)
  | handles (list : List Byte)
  | captures (list : List Nat) (more : Bool)
  | settled (taken recovered unresolved : Nat)
  | cleared (retired unexpected : Nat)
  | cassettes (list : List CassetteSummary)
  | zones (list : List ZoneSummary) (status : AlarmStatus)
  | lanes (list : List LaneSummary)
  | zone (report : ZoneReport)
  | lane (report : LaneReport)
  | transport (report : TransportReport)
  | bins (report : BinReport)
  | watches (hitValue : Nat) (slots : List WatchSlot)
  | refusal (last : Option Refused) (count : Nat)
deriving DecidableEq, Repr

/-- A result: its code and its result bytes (R170). -/
structure Result where
  code : ResultCode
  payload : Payload
deriving DecidableEq, Repr

/-- The frame out as the assertion of select fixes it (R170): the status byte's three fields and the result, whose bytes
follow with filler after them (`FrameOut.byte`, Machine/Port.lean). -/
structure FrameOut where
  busy : Bool
  attention : Bool
  code : Nat
  payload : Payload
deriving DecidableEq, Repr

/-- The Station Link Port (R169 to R177). -/
structure Port where
  /-- The frame shift state: idle, or the frame whose select is asserted. -/
  frame : Option FrameOut
  /-- The result of the command being processed, not yet written into the buffer: BUSY. -/
  processing : Option Result
  /-- The result buffer. -/
  buffer : Option Result
  /-- OVERRUN, FRAME and UNKNOWN, as bits 0 to 2. -/
  linkStatus : BitVec 3
  /-- The ten notice flags. -/
  notices : BitVec 10
  /-- The notices whose causes the port holds while it starts or settles (R176). -/
  heldNotices : BitVec 10
  /-- The attention line. -/
  attention : Bool
  /-- The link settle. -/
  settle : Timer
deriving DecidableEq, Repr

/-! ## The Supervisor (Chapter 11) -/

/-- The power modes (section 11.1). -/
inductive Mode where
  | starting
  | active
  | enteringQuiet
  | quiet
  | waking
deriving DecidableEq, Repr

/-- The start-up phases (R182). -/
inductive Phase where
  | settle
  | purge
deriving DecidableEq, Repr

/-- The Supervisor (R182). The part clock is kept in milliseconds; it counts seconds (section 1, Quantities). -/
structure Supervisor where
  mode : Mode
  /-- The actuator rails are ON. -/
  rails : Bool
  phase : Option Phase
  phaseTimer : Timer
  railSettle : Timer
  quietDwell : Timer
  clockMs : Nat
deriving DecidableEq, Repr

/-! ## The whole part -/

/-- The state of the part: its blocks, the levels its input lines reported last, and the waiting commands. -/
structure State where
  /-- The commands that wait, first in, first out. -/
  pending : List Instr
  custody : Custody
  path : NotePath
  work : Vector LaneWork Config.laneCount
  conveyor : Conveyor
  alarm : AlarmUnit
  port : Port
  watch : WatchUnit
  sup : Supervisor
  levels : FieldLevels
deriving DecidableEq, Repr

/-- No step of the part faults: every rule ends in a record, a result or no effect (log entry 2). The type has no
constructor. -/
inductive Fault where
deriving DecidableEq, Repr

/-- Why a command has no meaning here. -/
inductive Refusal where
  /-- The command has no meaning in this model yet. Raised by no arm of exec (safe: the machine would stop). -/
  | notModelled (mnemonic : String)
deriving DecidableEq, Repr

/-! ## Reset -/

/-- A cassette record after retention loss, but for its state and mark (R19). -/
def Cassette.fresh (seated : Bool) : Cassette where
  state := if seated then .uncounted else .absent
  value := 0
  loaded := 0
  current := 0
  reserved := 0
  guard := 5
  lowMark := 100
  lowFlag := false
  reference := 0
  accepted := 0
  rejectNotes := 0
  testNotes := 0
  writtenOff := 0
  shutter := .shut
  leveling := none
  mark := true

/-- A zone record in a default configuration (section 8.1), NORMAL, without bypass, trip or mark (R141). -/
def Zone.fresh (group : Group) (response : Response) (lane : Option LaneId) (entryDelay : Nat) : Zone where
  group := group
  response := response
  lane := lane
  entryDelay := entryDelay
  input := .quiet
  state := .normal
  manualBypass := false
  tripCount := 0
  mark := false

/-- The default zone table, zones 1 to 16 in order (section 8.1). -/
def Zone.defaults : Vector Zone Config.zoneCount :=
  #v[.fresh .night .lockdown none 30, .fresh .night .lockdown none 30, .fresh .always .lockdown none 0,
     .fresh .always .laneLock (some 0) 0, .fresh .always .laneLock (some 1) 0,
     .fresh .always .laneLock (some 2) 0, .fresh .always .laneLock (some 3) 0,
     .fresh .always .silent none 0, .fresh .always .silent none 0, .fresh .always .lockdown none 0,
     .fresh .night .report (some 0) 0, .fresh .night .report (some 1) 0,
     .fresh .night .report (some 2) 0, .fresh .night .report (some 3) 0,
     .fresh .always .report none 0, .fresh .day .report none 0]

/-- A lane record after retention loss (R19, R100); the drawer is CLOSED until start-up finds it elsewhere. -/
def Lane.fresh : Lane where
  session := .closed
  drawer := .closed
  head := none
  load := none
  claim := false
  lock := .none
  mark := false

/-- The bin record after retention loss (R19). -/
def Bins.fresh : Bins where
  retractCount := 0
  retractCounted := false
  rejectCount := 0
  rejectCounted := false
  captureCounted := false
  unexpected := 0

/-- The configuration items at their defaults (R19, R178). -/
def Settings.fresh : Settings where
  holdLimit := 300
  presentLimit := 45
  shutterIdleClose := 10
  noteLimit := 40
  maxRejects := 8
  enables := 0x3ff#10

/-- The retained store after retention loss, with the cassettes that the seat sensors report (R19). -/
def Custody.fresh (seated : Vector Bool Config.cassetteCount) : Custody where
  cassettes := #v[.fresh (seated.get 0), .fresh (seated.get 1), .fresh (seated.get 2),
                  .fresh (seated.get 3), .fresh (seated.get 4), .fresh (seated.get 5)]
  orders := Vector.replicate _ none
  tags := Vector.replicate _ 0#4
  placement := []
  envelopes := []
  captureCounter := 1
  zones := Zone.defaults
  dayArmed := false
  nightArmed := false
  tripList := []
  lanes := Vector.replicate _ Lane.fresh
  bins := Bins.fresh
  settings := Settings.fresh
  retention := .cleared

/-- A watch slot in its cleared contents (R160). -/
def WatchSlot.fresh : WatchSlot where
  enable := false
  kind := .cassette
  first := 1
  span := 1
  trigger := .stateChange
  threshold := none
  scope := none
  hit := false
  last := none

/-- The Watch Unit after power-on, the reset line and LINK RESET (R160, R167). -/
def WatchUnit.fresh : WatchUnit where
  slots := Vector.replicate _ WatchSlot.fresh
  refused := none
  refusals := 0

/-- The port after power-on and the reset line (R177). -/
def Port.fresh : Port where
  frame := none
  processing := none
  buffer := none
  linkStatus := 0#3
  notices := 0#10
  heldNotices := 0#10
  attention := false
  settle := none

/-- The Supervisor after power-on and the reset line, its 50 ms settle begun (R182, R186). -/
def Supervisor.fresh : Supervisor where
  mode := .starting
  rails := false
  phase := some .settle
  phaseTimer := some 50
  railSettle := none
  quietDwell := none
  clockMs := 0

/-- A Lane Controller without pending recall, dump run, jam limit note or timer (section 6.1). -/
def LaneWork.fresh : LaneWork where
  pendingRecall := none
  dump := none
  jamNote := none
  travel := none
  clearingDue := false

/-- The transport record as start-up leaves it (R76), without timer, attempt or held reading. -/
def NotePath.fresh : NotePath where
  state := .free
  holder := none
  entry := none
  misses := 0
  stackerNotes := 0
  jam := none
  rejectPause := false
  queue := []
  shutterIdle := none
  attempt := none
  run := none
  heldReading := none
  levelingIdle := none
  shutterTravel := Vector.replicate _ none
  routeDiverter := .retractBin
  rejectDiverter := false

/-- The conveyor record with empty lists and no timer (R126). -/
def Conveyor.fresh : Conveyor where
  state := .running
  list := []
  binList := []
  transit := none
  spacing := none
  clearance := none
  gatesDriven := []

/-- The Alarm Unit with its lines dropped, no delay running and service mode off (R159). -/
def AlarmUnit.fresh : AlarmUnit where
  delays := Vector.replicate _ none
  siren := false
  silent := false
  key := false
  service := false

/-- The input lines before any has reported (log entry 4). -/
def FieldLevels.unreported : FieldLevels where
  retentionGood := false
  seated := Vector.replicate _ false
  limits := Vector.replicate _ .inner
  envelopes := Vector.replicate _ .absent
  zones := Vector.replicate _ .quiet
  key := false
  gaugeNote := false
  stacker := 0

/-- The part right after power-on: STARTING in phase SETTLE, every block's working state at its starting contents,
and the retained store with the contents that retention loss gives it (log entry 3). -/
def State.reset : State where
  pending := []
  custody := Custody.fresh (Vector.replicate _ false)
  path := NotePath.fresh
  work := Vector.replicate _ LaneWork.fresh
  conveyor := Conveyor.fresh
  alarm := AlarmUnit.fresh
  port := Port.fresh
  watch := WatchUnit.fresh
  sup := Supervisor.fresh
  levels := FieldLevels.unreported

end Sys2Proof.Machine
end

