-- ==== Sys2Proof/Machine/Tables.lean ====
section
/-! DEFINITION. The tables of fixed membership: reading one position, writing one, rewriting all, and going through
the positions in ascending order (R1, R159). -/

namespace Sys2Proof.Machine

/-- A table given position by position. -/
def tableOf {α : Type} {n : Nat} (f : Fin n → α) : Vector α n :=
  ⟨⟨List.ofFn f⟩, by simp⟩

/-- The table with position i holding a. -/
def tableSet {α : Type} {n : Nat} (t : Vector α n) (i : Fin n) (a : α) : Vector α n :=
  t.set i.val a i.isLt

/-- Every position of the table rewritten from its number and its contents. -/
def tableMap {α β : Type} {n : Nat} (f : Fin n → α → β) (t : Vector α n) : Vector β n :=
  tableOf fun i => f i (t.get i)

/-- The positions of a table, in ascending order. -/
def positions (n : Nat) : List (Fin n) :=
  List.ofFn id

/-- Whether some position of the table meets p. -/
def tableAny {α : Type} {n : Nat} (p : α → Bool) (t : Vector α n) : Bool :=
  (positions n).any fun i => p (t.get i)

/-- Whether every position of the table meets p. -/
def tableAll {α : Type} {n : Nat} (p : α → Bool) (t : Vector α n) : Bool :=
  (positions n).all fun i => p (t.get i)

/-- A change made for every position in ascending order, each on the outcome of the one before. -/
def forEach {σ : Type} {n : Nat} (f : Fin n → σ → σ) (s : σ) : σ :=
  (positions n).foldl (fun s i => f i s) s

/-! ### The records of the part -/

/-- The record of a cassette (R1). -/
def State.cassette (s : State) (c : CassetteId) : Cassette := s.custody.cassettes.get c

/-- The order in a slot of the order table, if the slot is allocated (R2). -/
def State.order (s : State) (i : OrderSlot) : Option Order := s.custody.orders.get i

/-- The record of a zone (R1). -/
def State.zone (s : State) (z : ZoneId) : Zone := s.custody.zones.get z

/-- The record of a lane (R1). -/
def State.lane (s : State) (l : LaneId) : Lane := s.custody.lanes.get l

/-- The working state of a Lane Controller. -/
def State.laneWork (s : State) (l : LaneId) : LaneWork := s.work.get l

/-- The record of a live capture number (R8). -/
def State.envelope (s : State) (n : Nat) : Option Envelope := s.custody.envelopes.find? (·.capture == n)

/-- One cassette record rewritten. -/
def State.modCassette (s : State) (c : CassetteId) (f : Cassette → Cassette) : State :=
  { s with custody := { s.custody with cassettes := tableSet s.custody.cassettes c (f (s.cassette c)) } }

/-- One slot of the order table rewritten. -/
def State.setOrder (s : State) (i : OrderSlot) (o : Option Order) : State :=
  { s with custody := { s.custody with orders := tableSet s.custody.orders i o } }

/-- One order record rewritten; a free slot stays free. -/
def State.modOrder (s : State) (i : OrderSlot) (f : Order → Order) : State :=
  s.setOrder i ((s.order i).map f)

/-- One zone record rewritten. -/
def State.modZone (s : State) (z : ZoneId) (f : Zone → Zone) : State :=
  { s with custody := { s.custody with zones := tableSet s.custody.zones z (f (s.zone z)) } }

/-- One lane record rewritten. -/
def State.modLane (s : State) (l : LaneId) (f : Lane → Lane) : State :=
  { s with custody := { s.custody with lanes := tableSet s.custody.lanes l (f (s.lane l)) } }

/-- The working state of one Lane Controller rewritten. -/
def State.modWork (s : State) (l : LaneId) (f : LaneWork → LaneWork) : State :=
  { s with work := tableSet s.work l (f (s.laneWork l)) }

/-- One envelope record rewritten, found by its capture number. -/
def State.modEnvelope (s : State) (n : Nat) (f : Envelope → Envelope) : State :=
  { s with custody := { s.custody with envelopes := s.custody.envelopes.map fun e => if e.capture = n then f e else e } }

/-- The bin record rewritten. -/
def State.modBins (s : State) (f : Bins → Bins) : State :=
  { s with custody := { s.custody with bins := f s.custody.bins } }

/-- The transport record rewritten. -/
def State.modPath (s : State) (f : NotePath → NotePath) : State :=
  { s with path := f s.path }

/-- The conveyor record rewritten. -/
def State.modConveyor (s : State) (f : Conveyor → Conveyor) : State :=
  { s with conveyor := f s.conveyor }

/-- The working state of the Alarm Unit rewritten. -/
def State.modAlarm (s : State) (f : AlarmUnit → AlarmUnit) : State :=
  { s with alarm := f s.alarm }

/-- The port rewritten. -/
def State.modPort (s : State) (f : Port → Port) : State :=
  { s with port := f s.port }

/-- The Watch Unit rewritten. -/
def State.modWatch (s : State) (f : WatchUnit → WatchUnit) : State :=
  { s with watch := f s.watch }

/-- The Supervisor rewritten. -/
def State.modSup (s : State) (f : Supervisor → Supervisor) : State :=
  { s with sup := f s.sup }

/-- The levels of the input lines rewritten. -/
def State.modLevels (s : State) (f : FieldLevels → FieldLevels) : State :=
  { s with levels := f s.levels }

/-- The part clock in seconds. -/
def State.clock (s : State) : Nat := s.sup.clockMs / 1000

end Sys2Proof.Machine
end

