-- ==== Sys2Proof/Machine/Constants.lean ====
section
/-! DEFINITION. The fixed durations (in milliseconds), limits and numbers of the part. -/

namespace Sys2Proof.Machine

/-- The shutter travel time (section 2.5). -/
def shutterTravelTime : Nat := 300
/-- The pick window (R85). -/
def pickWindow : Nat := 250
/-- The leveling idle timer (R37). -/
def levelingIdleTime : Nat := 60000
/-- The route limit, which is also the length of a purge run and of a head dump (R90, R94, R113). -/
def routeLimit : Nat := 3000
/-- The drawer travel limit (R106). -/
def drawerTravelLimit : Nat := 4000
/-- The admission spacing (R125). -/
def admissionSpacing : Nat := 1000
/-- The transit limit (R127), which is also the length of the envelope path clearance (R139). -/
def transitLimit : Nat := 8000
/-- The link settle (R185). -/
def linkSettleTime : Nat := 20
/-- The rail settle (R182). -/
def railSettleTime : Nat := 200
/-- The quiet dwell (R182). -/
def quietDwellTime : Nat := 1000
/-- Milliseconds in a second. -/
def second : Nat := 1000

/-- The room of the retract bin (R53). -/
def retractRoom : Nat := 300
/-- The room of the reject bin (R98). -/
def rejectRoom : Nat := 200
/-- The room of the capture budget (R133). -/
def captureRoom : Nat := 120
/-- The places of the conveyor list (R124). -/
def conveyorRoom : Nat := 8
/-- The last capture number (R6). -/
def lastCapture : Nat := 4294967295
/-- The figure at which the one-byte counters saturate (R38, R129, R147, R167). -/
def byteTop : Nat := 255

/-- One more, staying at the top of a one-byte counter. -/
def bump (n : Nat) : Nat := if n < byteTop then n + 1 else n

/-- The capture bin door zone, zone 2 (R138). -/
def captureBinDoor : ZoneId := 1
/-- The conveyor hatch zone, zone 15 (R131). -/
def conveyorHatch : ZoneId := 14

/-- The kind of a zone, fixed by its id (section 8.1). -/
def zoneKind (z : ZoneId) : ZoneKind :=
  match z.val + 1 with
  | 1 => .safeDoor
  | 2 => .captureBinDoor
  | 3 => .cassetteBay
  | 4 | 5 | 6 | 7 => .drawerForce
  | 8 | 9 => .tellerHoldUp
  | 10 => .transportCover
  | 11 | 12 | 13 | 14 => .lanePanel
  | 15 => .conveyorHatch
  | _ => .generalInput

/-- Whether a kind carries service bypass: the safe door, the capture bin door, the cassette bay, the transport cover
and the conveyor hatch (section 8.1). -/
def ZoneKind.serviceBypass : ZoneKind → Bool
  | .safeDoor | .captureBinDoor | .cassetteBay | .transportCover | .conveyorHatch => true
  | .drawerForce | .tellerHoldUp | .lanePanel | .generalInput => false

/-- Whether a kind has a lane: the drawer force and the lane panel kinds (section 8.1). -/
def ZoneKind.hasLane : ZoneKind → Bool
  | .drawerForce | .lanePanel => true
  | .safeDoor | .captureBinDoor | .cassetteBay | .tellerHoldUp | .transportCover | .conveyorHatch
  | .generalInput => false

/-- Whether the kind of a zone carries service bypass. -/
def serviceKind (z : ZoneId) : Bool := (zoneKind z).serviceBypass

/-- Whether the kind of a zone has a lane. -/
def laneKind (z : ZoneId) : Bool := (zoneKind z).hasLane

end Sys2Proof.Machine
end

