-- ==== Sys2Proof/Machine/Flags.lean ====
section
/-! DEFINITION. What every event leaves beside its own effect: the change marks (R9), the notices (R10, R175), the
watch hits (R162 to R165) and the attention line (R176). An event's own effect is written first, as a change of the
records; `finish` then compares the records before and after it. -/

namespace Sys2Proof.Machine

/-! ### Notices and the attention line -/

/-- The ten notices, in the order of their bits (section 10.7). -/
inductive Notice where
  | orders
  | envelopes
  | cassettes
  | lanes
  | zones
  | alarm
  | watch
  | link
  | bins
  | restart
deriving DecidableEq, Repr

/-- The bit of a notice in the two-byte values (section 10.7). -/
def Notice.bit : Notice → BitVec 10
  | .orders => 0x001
  | .envelopes => 0x002
  | .cassettes => 0x004
  | .lanes => 0x008
  | .zones => 0x010
  | .alarm => 0x020
  | .watch => 0x040
  | .link => 0x080
  | .bins => 0x100
  | .restart => 0x200

/-- The part is starting, or in the settle that follows LINK RESET: no command is taken and the causes of notices
are held (R171, R176). -/
def State.hushed (s : State) : Bool :=
  s.sup.mode == .starting || s.port.settle.isSome

/-- A cause of a notice: its flag is set (R175), or held by the port until the end of start-up or settle (R176). -/
def State.raise (n : Notice) (s : State) : State :=
  if s.hushed then s.modPort fun p => { p with heldNotices := p.heldNotices ||| n.bit }
  else s.modPort fun p => { p with notices := p.notices ||| n.bit }

/-- A notice raised if its cause has come. -/
def State.raiseIf (b : Bool) (n : Notice) (s : State) : State :=
  if b then s.raise n else s

/-- At least one notice flag is set whose enable is also set (R176). -/
def State.attentionDue (s : State) : Bool :=
  s.port.notices &&& s.custody.settings.enables != 0#10

/-- The attention line follows the enabled notice flags (R176). -/
def State.syncAttention (s : State) : State :=
  s.modPort fun p => { p with attention := s.attentionDue }

/-! ### Records as the commands and the watch slots name them -/

/-- A record of one of the five tables. -/
inductive RecordRef where
  | cassette (c : CassetteId)
  | order (i : OrderSlot)
  | envelope (n : Nat)
  | zone (z : ZoneId)
  | lane (l : LaneId)
deriving DecidableEq, Repr

/-- The one-byte handle of an order slot: the slot number in the low four bits, the tag in the high four
(section 1.2). -/
def State.handle (s : State) (i : OrderSlot) : Byte :=
  (s.custody.tags.get i) ++ (BitVec.ofNat 4 (i.val + 1))

/-! ### Change marks -/

/-- Whether two cassette records hold the same fields, the mark left aside (R9). -/
def Cassette.same (a b : Cassette) : Bool := { a with mark := false } == { b with mark := false }

/-- Whether two order records hold the same fields, the mark left aside (R9). -/
def Order.same (a b : Order) : Bool := { a with mark := false } == { b with mark := false }

/-- Whether two envelope records hold the same fields, the mark left aside (R9). -/
def Envelope.same (a b : Envelope) : Bool := { a with mark := false } == { b with mark := false }

/-- Whether two zone records hold the same fields, the mark left aside (R9). -/
def Zone.same (a b : Zone) : Bool := { a with mark := false } == { b with mark := false }

/-- Whether two lane records hold the same fields, the mark left aside (R9). -/
def Lane.same (a b : Lane) : Bool := { a with mark := false } == { b with mark := false }

/-- The event changes the cassette record other than as the record its command names (R9). -/
def cassetteMoved (before after : State) (named : Option RecordRef) (c : CassetteId) : Bool :=
  !(before.cassette c).same (after.cassette c) && named != some (.cassette c)

/-- The event changes the order other than as the record its command names. A new order is made by the command that
places it and is not marked (R9, R56). -/
def orderMoved (before after : State) (named : Option RecordRef) (i : OrderSlot) : Bool :=
  match before.order i, after.order i with
  | some a, some b => !a.same b && named != some (.order i)
  | _, _ => false

/-- The event makes or changes the envelope record other than as the record its command names: no record before the
event holds the same fields (R5, R9). -/
def envelopeMoved (before : State) (named : Option RecordRef) (e : Envelope) : Bool :=
  !(before.custody.envelopes.any fun a => a.same e) && named != some (.envelope e.capture)

/-- The event changes the zone record other than as the record its command names (R9). -/
def zoneMoved (before after : State) (named : Option RecordRef) (z : ZoneId) : Bool :=
  !(before.zone z).same (after.zone z) && named != some (.zone z)

/-- The event changes the lane record other than as the record its command names (R9). -/
def laneMoved (before after : State) (named : Option RecordRef) (l : LaneId) : Bool :=
  !(before.lane l).same (after.lane l) && named != some (.lane l)

/-- The change marks of the records the event moves, set (R9). -/
def markRecords (before : State) (named : Option RecordRef) (s : State) : State :=
  { s with custody := { s.custody with
      cassettes := tableMap (fun c r => if cassetteMoved before s named c then { r with mark := true } else r) s.custody.cassettes
      orders := tableMap (fun i r => if orderMoved before s named i then r.map fun o => { o with mark := true } else r) s.custody.orders
      envelopes := s.custody.envelopes.map fun e => if envelopeMoved before named e then { e with mark := true } else e
      zones := tableMap (fun z r => if zoneMoved before s named z then { r with mark := true } else r) s.custody.zones
      lanes := tableMap (fun l r => if laneMoved before s named l then { r with mark := true } else r) s.custody.lanes } }

/-- The notices of the tables in which the event sets a mark (R10). `after` is the state whose records are compared
with `before`; `s` is the state the notices are raised in. -/
def raiseTables (before after : State) (named : Option RecordRef) (s : State) : State :=
  (((((s.raiseIf ((positions _).any (cassetteMoved before after named)) .cassettes).raiseIf
      ((positions _).any (orderMoved before after named)) .orders).raiseIf
      (after.custody.envelopes.any (envelopeMoved before named)) .envelopes).raiseIf
      ((positions _).any (zoneMoved before after named)) .zones).raiseIf
      ((positions _).any (laneMoved before after named)) .lanes)

/-! ### Watch hits -/

/-- The handle number lies in the slot's range (R162). -/
def WatchSlot.inRange (w : WatchSlot) (n : Nat) : Bool :=
  w.first ≤ n && n ≤ w.first + w.span - 1

/-- The slot's scope takes in a record that belongs to no lane (R162). -/
def WatchSlot.global (w : WatchSlot) : Bool := w.scope == none

/-- The slot's scope takes in a record of the lane (R162). -/
def WatchSlot.covers (w : WatchSlot) (l : LaneId) : Bool :=
  w.scope == none || w.scope == some l

/-- The slot's trigger is met by the record: `accessed` if the command names it, `moved` if its state changes,
`fell` if its count falls below the threshold, `retired` if it is retired (R163). -/
def WatchSlot.met (w : WatchSlot) (accessed moved fell retired : Bool) : Bool :=
  match w.trigger with
  | .stateChange => moved
  | .countBelow => fell
  | .retire => retired
  | .access => accessed

/-- The handles of the cassettes that hit the slot, by slot (R162 to R164). -/
def cassetteHits (before after : State) (access : Option RecordRef) (w : WatchSlot) : List Nat :=
  ((positions _).filter fun c =>
    w.inRange (c.val + 1) && w.global &&
    w.met (access == some (.cassette c)) ((before.cassette c).state != (after.cassette c).state)
      (match w.threshold with
        | some k => k ≤ (before.cassette c).current && (after.cassette c).current < k
        | none => false)
      false).map fun c => c.val + 1

/-- The lane of the order in a slot, as it stands in one of the two states: after the event, or, for a retired order,
before it (R162). -/
def orderLane (before after : State) (i : OrderSlot) : Option LaneId :=
  match after.order i with
  | some o => some o.lane
  | none => (before.order i).map (·.lane)

/-- The handles of the orders that hit the slot, by slot; the full handle is recorded (R162 to R164, section 9.1). -/
def orderHits (before after : State) (access : Option RecordRef) (w : WatchSlot) : List Nat :=
  ((positions _).filter fun i =>
    w.inRange (i.val + 1) &&
    (match orderLane before after i with
      | some l => w.covers l
      | none => false) &&
    w.met (access == some (.order i))
      (match before.order i, after.order i with
        | some a, some b => a.state != b.state
        | none, some _ => true
        | _, none => false)
      false ((before.order i).isSome && (after.order i).isNone)).map fun i => (after.handle i).toNat

/-- The envelope records of an event in capture-number order: those before it, then those it made (R7, R164). -/
def envelopesOf (before after : State) : List Envelope :=
  before.custody.envelopes ++ after.custody.envelopes.filter fun e => (before.envelope e.capture).isNone

/-- The capture numbers of the envelopes that hit the slot, in capture-number order (R162 to R164). -/
def envelopeHits (before after : State) (access : Option RecordRef) (w : WatchSlot) : List Nat :=
  ((envelopesOf before after).filter fun e =>
    w.inRange e.capture && w.covers e.lane &&
    w.met (access == some (.envelope e.capture))
      (match before.envelope e.capture, after.envelope e.capture with
        | some a, some b => a.state != b.state
        | none, some _ => true
        | _, none => false)
      false ((before.envelope e.capture).isSome && (after.envelope e.capture).isNone)).map (·.capture)

/-- The ids of the zones that hit the slot (R162 to R164). -/
def zoneHits (before after : State) (access : Option RecordRef) (w : WatchSlot) : List Nat :=
  ((positions _).filter fun z =>
    w.inRange (z.val + 1) && w.global &&
    w.met (access == some (.zone z)) ((before.zone z).state != (after.zone z).state) false false).map fun z => z.val + 1

/-- The lanes that hit the slot: the state of a lane is its session, its drawer state and its lock (R162 to R164). -/
def laneHits (before after : State) (access : Option RecordRef) (w : WatchSlot) : List Nat :=
  ((positions _).filter fun l =>
    w.inRange (l.val + 1) && w.covers l &&
    w.met (access == some (.lane l))
      ((before.lane l).session != (after.lane l).session || (before.lane l).drawer != (after.lane l).drawer
        || (before.lane l).lock != (after.lane l).lock) false false).map fun l => l.val + 1

/-- The handles of the records that hit an enabled slot in the event, in the listing order of their table; none for a
slot whose enable is clear (R160, R164). -/
def watchHits (before after : State) (access : Option RecordRef) (w : WatchSlot) : List Nat :=
  if w.enable then
    match w.kind with
    | .cassette => cassetteHits before after access w
    | .order => orderHits before after access w
    | .envelope => envelopeHits before after access w
    | .zone => zoneHits before after access w
    | .lane => laneHits before after access w
  else []

/-- A hit sets the flag and records the handle that comes last in listing order (R164). -/
def WatchSlot.record (w : WatchSlot) (hits : List Nat) : WatchSlot :=
  match hits.getLast? with
  | some h => { w with hit := true, last := some h }
  | none => w

/-- The session of the slot's lane leaves OPEN in the event, so a slot of LANE scope is disabled (R165). -/
def WatchSlot.afterSessions (before after : State) (w : WatchSlot) : WatchSlot :=
  match w.scope with
  | some l =>
    if (before.lane l).session == .opened && (after.lane l).session != .opened then { w with enable := false } else w
  | none => w

/-- The hits of the event on the four slots, compared under the configuration that stood before it, and the slots
whose lane's session it ends (R164, R165). -/
def watchRecords (before after : State) (access : Option RecordRef) (s : State) : State :=
  (s.modWatch fun w =>
    { w with slots := tableMap (fun k slot =>
        (slot.record (watchHits before after access (before.watch.slots.get k))).afterSessions before after) w.slots }).raiseIf
    ((positions _).any fun k => !(watchHits before after access (before.watch.slots.get k)).isEmpty) .watch

/-! ### The end of an event -/

/-- What an event leaves beside its own effect. `before` and `after` are the states before and after that effect;
`named` is the record the command names, if the event is a command that was taken, and `access` the record it
resolved (R9, R10, R163, R164, R165, R176). -/
def finish (before after : State) (named access : Option RecordRef) : State :=
  (watchRecords before after access (raiseTables before after named (markRecords before named after))).syncAttention

end Sys2Proof.Machine
end

