-- ==== Sys2Proof/Machine/Ops.lean ====
section
/-! DEFINITION. The shared operations of the note store, the orders, the transport and the shutters: what several
commands and events do to the records, each written once. None of them sets a change mark: `finish` does (Flags). -/

namespace Sys2Proof.Machine

/-! ### Zones as the other blocks see them -/

/-- A zone with the LOCKDOWN response is LATCHED (R153). -/
def State.lockdown (s : State) : Bool :=
  tableAny (fun z => z.state == .latched && z.response == .lockdown) s.custody.zones

/-- A zone with the SILENT response is LATCHED (R155). -/
def State.silentLatched (s : State) : Bool :=
  tableAny (fun z => z.state == .latched && z.response == .silent) s.custody.zones

/-! ### Orders: figures and kinds of state -/

/-- The terminal states (section 4.2). -/
def OrderState.terminal : OrderState → Bool
  | .taken | .partlyTaken | .retracted | .cancelled | .failed => true
  | .held | .queued | .picking | .routing | .staged | .presented | .recalling | .aborting => false

/-- The states in which an order holds reservations (R31). -/
def OrderState.reserves : OrderState → Bool
  | .held | .queued | .picking => true
  | .routing | .staged | .presented | .recalling | .aborting | .taken | .partlyTaken | .retracted | .cancelled
  | .failed => false

/-- The states that bar service mode and quiet: live, but not HELD (R156, R183). -/
def OrderState.moving (o : OrderState) : Bool := !o.terminal && o != .held

/-- The accepted total: the sum of the accepted-so-far figures (section 4.1). -/
def Order.acceptedTotal (o : Order) : Nat := (o.mix.map (·.accepted)).sum

/-- The mix total: the sum of the mix counts (section 4.1). -/
def Order.mixTotal (o : Order) : Nat := (o.mix.map (·.count)).sum

/-- What the order still needs from a cassette: its mix count less the notes accepted there (R30, R31). -/
def Order.need (o : Order) (c : CassetteId) : Nat :=
  ((o.mix.filter fun e => e.slot == c).map fun e => e.count - e.accepted).sum

/-- Some order of the table is in a state that meets p. -/
def State.anyOrder (s : State) (p : Order → Bool) : Bool :=
  tableAny (fun r => r.any p) s.custody.orders

/-! ### Leaving the queue, releasing reservations, ending an order -/

/-- A claim leaves the transport queue; the claims behind it keep their places (R78). -/
def dropClaim (c : Claim) (s : State) : State :=
  s.modPath fun p => { p with queue := p.queue.filter (· != c) }

/-- A claim joins the transport queue at the tail (R78). -/
def joinQueue (c : Claim) (s : State) : State :=
  s.modPath fun p => { p with queue := p.queue ++ [c] }

/-- An order's reservations are released: each cassette's reserved count falls by what the order still needs there
(R30). -/
def releaseReservations (i : OrderSlot) (s : State) : State :=
  match s.order i with
  | some o =>
    { s with custody := { s.custody with
        cassettes := tableMap (fun c r => { r with reserved := r.reserved - o.need c }) s.custody.cassettes } }
  | none => s

/-- An order ends: f gives its terminal state and figures. The deadlines go, its claim leaves the queue, and it leaves
the placement order of the live orders (R30, R57, R78). -/
def endOrder (i : OrderSlot) (f : Order → Order) (s : State) : State :=
  dropClaim (.order i)
    { s.modOrder i (fun o => { f o with holdDeadline := none, presentDeadline := none }) with
      custody := { (s.modOrder i (fun o => { f o with holdDeadline := none, presentDeadline := none })).custody with
        placement := s.custody.placement.filter (· != i) } }

/-- An order that has not begun to move notes ends CANCELLED or FAILED with a reason, and its reservations are
released in that event (R30, R60, R63, R69, R103). -/
def stopOrder (i : OrderSlot) (st : OrderState) (r : Reason) (s : State) : State :=
  endOrder i (fun o => { o with state := st, reason := some r }) (releaseReservations i s)

/-- The end of a purge: the accepted total less the notes counted is unresolved, and the order goes RETRACTED if its
reason is SESSION_CLOSED or LANE_LOCK, FAILED otherwise (R65, R68). -/
def Order.endPurge (o : Order) : Order :=
  { o with
    state := if o.reason = some .sessionClosed ∨ o.reason = some .laneLock then .retracted else .failed
    unresolved := o.acceptedTotal - o.retracted }

/-! ### The transport -/

/-- The transport is released: FREE, no holder, and the shutter idle timer starts at the configured time (R34, R90). -/
def releaseTransport (s : State) : State :=
  s.modPath fun p => { p with
    state := .free, holder := none, entry := none, misses := 0, attempt := none, run := none, heldReading := none,
    levelingIdle := none, shutterIdle := some (s.custody.settings.shutterIdleClose * second) }

/-- The stacker notes are read afresh from the stacker count input (R93, R94). -/
def readStacker (s : State) : State :=
  s.modPath fun p => { p with stackerNotes := s.levels.stacker }

/-- The order that holds the transport in PICKING, with its slot. -/
def State.pickingOrder (s : State) : Option (OrderSlot × Order) :=
  match s.path.state, s.path.holder with
  | .picking, some (.order i) => (s.order i).map fun o => (i, o)
  | _, _ => none

/-- The order in PICKING goes ABORTING with a reason and releases its reservations. With notes accepted, a purge run
begins; without, it ends its ABORTING in the same event and the transport is released (R30, R68, R94). -/
def abortPicking (r : Reason) (s : State) : State :=
  match s.pickingOrder with
  | some (i, o) =>
    if o.acceptedTotal = 0 then
      releaseTransport (endOrder i (fun o => { o with state := .aborting, reason := some r }.endPurge)
        (releaseReservations i s))
    else
      ((releaseReservations i s).modOrder i fun o => { o with state := .aborting, reason := some r }).modPath fun p =>
        { p with state := .purging, entry := none, misses := 0, attempt := none, run := some routeLimit,
                 routeDiverter := .retractBin }
  | none => s

/-! ### Bins -/

/-- The reject pause is due: the reject bin is UNCOUNTED, or holds more than 200 less three times M (R82). -/
def State.pauseDue (s : State) : Bool :=
  !s.custody.bins.rejectCounted || rejectRoom - 3 * s.custody.settings.maxRejects < s.custody.bins.rejectCount

/-- The reject pause is evaluated again; at each start and end of it the BINS notice is set (R82). -/
def evalPause (s : State) : State :=
  (s.modPath fun p => { p with rejectPause := s.pauseDue }).raiseIf (s.path.rejectPause != s.pauseDue) .bins

/-- Notes go to the reject bin, counted while it is COUNTED (R98), and the pause is evaluated (R82). -/
def addRejects (n : Nat) (s : State) : State :=
  evalPause (s.modBins fun b => if b.rejectCounted then { b with rejectCount := b.rejectCount + n } else b)

/-- A note is counted into the retract bin for an order: its retracted figure and, while the bin is COUNTED, the bin
count rise by one in the one event (R96). -/
def countRetracted (i : OrderSlot) (s : State) : State :=
  (s.modOrder i fun o => { o with retracted := o.retracted + 1 }).modBins fun b =>
    if b.retractCounted then { b with retractCount := b.retractCount + 1 } else b

/-- A counted edge for an order, up to a figure of it: notes beyond are added nowhere (R66, R68, R95, R110). -/
def countEdge (i : OrderSlot) (top : Order → Nat) (s : State) : State :=
  match s.order i with
  | some o => if o.retracted < top o then countRetracted i s else s
  | none => s

/-! ### Cassette counts -/

/-- The current count falls by n. The low flag is set when the count passes the low mark, and at 0 a READY or LEVELING
cassette goes EMPTY (R28). -/
def Cassette.lower (r : Cassette) (n : Nat) : Cassette :=
  { r with
    current := r.current - n
    lowFlag := r.lowFlag || (r.lowMark ≤ r.current && r.current - n < r.lowMark)
    state := if r.current - n = 0 ∧ (r.state = .ready ∨ r.state = .leveling) then .empty else r.state }

/-- The whole current count is written off (R27). -/
def writeOff (c : CassetteId) (s : State) : State :=
  s.modCassette c fun r => { r.lower r.current with writtenOff := r.writtenOff + r.current, state := .empty }

/-- A leveling note goes to the reject bin as a test note (R39, R40, R41). Where the reject diverter stands while it
goes there those rules do not say; the model leaves it as last driven, which is its choice (log entry 22). -/
def testNote (c : CassetteId) (s : State) : State :=
  addRejects 1 (s.modCassette c fun r => { r.lower 1 with testNotes := r.testNotes + 1 })

/-- One holder of a reservation on a short cassette fails, if it is HELD or QUEUED and the reserved count still exceeds
the current count (R32, step 2). -/
def failHolder (c : CassetteId) (s : State) (i : OrderSlot) : State :=
  match s.order i with
  | some o =>
    if (s.cassette c).current < (s.cassette c).reserved ∧ (o.state = .held ∨ o.state = .queued) ∧ 0 < o.need c then
      stopOrder i .failed .short s
    else s
  | none => s

/-- The picking order goes ABORTING with reason SHORT if its remaining need on the short cassette exceeds the current
count (R32, step 1). -/
def abortShort (c : CassetteId) (s : State) : State :=
  match s.pickingOrder with
  | some (_, o) =>
    if (s.cassette c).current < (s.cassette c).reserved ∧ (s.cassette c).current < o.need c then abortPicking .short s
    else s
  | none => s

/-- The SHORT cascade: the picking order first, then the youngest holders, youngest first (R32). -/
def shortCascade (c : CassetteId) (s : State) : State :=
  (abortShort c s).custody.placement.reverse.foldl (failHolder c) (abortShort c s)

/-! ### Shutters -/

/-- A shutter that is SHUT or CLOSING goes OPENING, its 300 ms beginning now (R33). -/
def openShutter (c : CassetteId) (s : State) : State :=
  match (s.cassette c).shutter with
  | .shut | .closing =>
    (s.modCassette c fun r => { r with shutter := .opening }).modPath fun p =>
      { p with shutterTravel := tableSet p.shutterTravel c (some shutterTravelTime) }
  | .opening | .opened => s

/-- A shutter that is OPEN or OPENING goes CLOSING, its 300 ms beginning now (R34, R35). -/
def closeShutter (c : CassetteId) (s : State) : State :=
  match (s.cassette c).shutter with
  | .opened | .opening =>
    (s.modCassette c fun r => { r with shutter := .closing }).modPath fun p =>
      { p with shutterTravel := tableSet p.shutterTravel c (some shutterTravelTime) }
  | .shut | .closing => s

/-- Every shutter that is OPEN or OPENING closes (R34, R35). -/
def closeShutters (s : State) : State := forEach closeShutter s

/-- A shutter field becomes SHUT at once (R20, R22). -/
def shutNow (c : CassetteId) (s : State) : State :=
  (s.modCassette c fun r => { r with shutter := .shut }).modPath fun p =>
    { p with shutterTravel := tableSet p.shutterTravel c none }

/-- In ENTERING_QUIET with every shutter SHUT, the rails go OFF, the mode becomes QUIET and the dwell starts (R183). -/
def completeQuiet (s : State) : State :=
  if s.sup.mode = .enteringQuiet ∧ tableAll (fun r => r.shutter == .shut) s.custody.cassettes then
    s.modSup fun u => { u with mode := .quiet, rails := false, quietDwell := some quietDwellTime }
  else s

/-! ### Pick attempts -/

/-- The cassette that the holder of the transport picks from now: that of the entry being picked, or the cassette of a
leveling session in FETCHING (R37, R84). -/
def State.pickTarget (s : State) : Option CassetteId :=
  match s.path.state, s.path.holder with
  | .picking, some (.order i) =>
    match s.order i, s.path.entry with
    | some o, some k => (o.mix[k]?).map (·.slot)
    | _, _ => none
  | .leveling, some (.leveling c) =>
    match (s.cassette c).leveling with
    | some v => if v.phase = .fetching then some c else none
    | none => none
  | _, _ => none

/-- A pick attempt begins once the shutter of the cassette is OPEN, with the 250 ms pick window. None begins while one
is in flight, while lockdown stands or while the rails are OFF (R37, R84, R85, R86, R182). -/
def beginAttempt (s : State) : State :=
  match s.pickTarget with
  | some c =>
    if s.path.attempt = none ∧ (s.cassette c).shutter = .opened ∧ s.lockdown = false ∧ s.sup.rails = true then
      s.modPath fun p => { p with attempt := some { left := pickWindow, last := false, noMiss := false } }
    else s
  | none => s

/-! ### Leveling sessions -/

/-- The state a leveling session leaves its cassette in (R39, step 2). -/
def Cassette.afterLeveling (r : Cassette) : CassetteState :=
  if r.current = 0 then .empty else if r.reference ≠ 0 then .ready else .unleveled

/-- A leveling session ends: the held note is spent as a test note, the cassette returns to service, the claim leaves
the queue, and the transport is released if the claim held it (R39, R40). -/
def endLeveling (c : CassetteId) (s : State) : State :=
  let spent := if s.path.holder = some (.leveling c) ∧ s.path.heldReading.isSome then testNote c s else s
  let back := dropClaim (.leveling c) (spent.modCassette c fun r => { r with state := r.afterLeveling, leveling := none })
  if s.path.holder = some (.leveling c) then releaseTransport back else back

end Sys2Proof.Machine
end

