-- ==== Sys2Proof/Machine/EnvelopeOps.lean ====
section
/-! DEFINITION. The shared operations of the envelope table, the gates and the capture budget (R5 to R7, R121, R123,
R133). -/

namespace Sys2Proof.Machine

/-- The capture number after n: from 4,294,967,295 the counter advances to 1 (R6). -/
def nextCapture (n : Nat) : Nat := if n = lastCapture then 1 else n + 1

/-- The counter passes over every number that names a live record, in at most as many steps as there are records
(R6). -/
def passLive (s : State) : Nat → Nat → Nat
  | 0, n => n
  | fuel + 1, n => if (s.envelope n).isSome then passLive s fuel (nextCapture n) else n

/-- The number that the next envelope record is issued (R6). -/
def State.issueNumber (s : State) : Nat := passLive s s.custody.envelopes.length s.custody.captureCounter

/-- The envelope in a lane's intake gate: the lane's one record in INTAKE (R123). -/
def State.gate (s : State) (l : LaneId) : Option Envelope :=
  s.custody.envelopes.find? fun e => e.state == .intake && e.lane == l

/-- An envelope drops from a lane's drawer into its gate: its record is made in INTAKE under the next capture number,
and the record consumes the deposit claim (R5, R6, R112, R121). -/
def dropEnvelope (l : LaneId) (s : State) : State :=
  { s.modLane l (fun r => { r with claim := false }) with
    custody := { (s.modLane l (fun r => { r with claim := false })).custody with
      captureCounter := nextCapture s.issueNumber
      envelopes := s.custody.envelopes ++
        [{ capture := s.issueNumber, lane := l, state := .intake, binPosition := none, acceptedAt := s.clock,
           declared := none, reference := none, mark := true }] } }

/-- The lanes whose deposit claim is set (R133). -/
def State.claims (s : State) : Nat := ((positions _).filter fun l => (s.lane l).claim).length

/-- The capture budget in use: the live records and the deposit claims (R133). -/
def State.budget (s : State) : Nat := s.custody.envelopes.length + s.claims

/-- The record leaves the envelope table and the issue order (R16). -/
def removeEnvelope (n : Nat) (s : State) : State :=
  { s with custody := { s.custody with envelopes := s.custody.envelopes.filter (·.capture != n) } }

/-- The belt drive: on while the conveyor is RUNNING and the mode is ACTIVE (R126). -/
def State.belt (s : State) : Bool := s.conveyor.state == .running && s.sup.mode == .active

/-- The oldest record in INTAKE in capture-number order (R124). -/
def State.oldestIntake (s : State) : Option Envelope := s.custody.envelopes.find? fun e => e.state == .intake

/-- The transit timer of the head of a conveyor list: 8 s for a head, none for an empty list (R127). -/
def transitFor (list : List Nat) : Timer := if list.isEmpty then none else some transitLimit

end Sys2Proof.Machine
end

