-- ==== Sys2Proof/Machine/LaneOps.lean ====
section
/-! DEFINITION. The shared operations of the Lane Controllers: head dumps, recalls, the end of a count-back, the
closing of a session and the lane lock (Chapter 6). -/

namespace Sys2Proof.Machine

/-- The reason a recall cause leaves on the order (section 6.4). -/
def RecallCause.reason : RecallCause → Option Reason
  | .drawerRecall => none
  | .sessionClosed => some .sessionClosed
  | .laneLock => some .laneLock
  | .lockdown => some .lockdown

/-- The reason a close cause leaves on the lane's orders (R103, R116). -/
def CloseCause.reason : CloseCause → Reason
  | .sessionClosed => .sessionClosed
  | .laneLock => .laneLock

/-- The recall cause of a close (R103, R116). -/
def CloseCause.recall : CloseCause → RecallCause
  | .sessionClosed => .sessionClosed
  | .laneLock => .laneLock

/-! ### Drawers -/

/-- The drawer is driven with the travel limit running (R106, R108). -/
def driveDrawer (l : LaneId) (d : Drawer) (s : State) : State :=
  (s.modLane l fun r => { r with drawer := d }).modWork l fun w => { w with travel := some drawerTravelLimit }

/-- The drawer stands, its travel limit stopped (R107, R111, R118). -/
def standDrawer (l : LaneId) (d : Drawer) (s : State) : State :=
  (s.modLane l fun r => { r with drawer := d }).modWork l fun w => { w with travel := none }

/-- A PRESENTED order goes RECALLING, with the reason of the cause if the cause has one (R65, R108). -/
def Order.toRecalling (r : Option Reason) (o : Order) : Order :=
  if o.state = .presented then
    { o with state := .recalling, reason := r.or o.reason, presentDeadline := none }
  else o

/-- The recall of an OPEN drawer: it goes RETRACTING with its travel limit, a pending recall is cleared, and the order
it carries goes RECALLING (R107, R108). -/
def recallDrawer (l : LaneId) (r : Option Reason) (s : State) : State :=
  let driven := (driveDrawer l .retracting s).modWork l fun w =>
    { w with pendingRecall := none, clearingDue := false }
  match (s.lane l).load with
  | some i => driven.modOrder i (Order.toRecalling r)
  | none => driven

/-- A recall cause on an EXTENDING drawer is kept for its outer limit. A cause that carries a reason replaces DRAWER
RECALL; a pending cause that carries a reason stays (R106). That a pending LOCKDOWN stays when the session then goes
CLOSING is the model's choice: R106 and R107 keep it, while R104 gives the close cause to every order that the lane sends
to RECALLING while CLOSING (log entry 39). -/
def pendRecall (l : LaneId) (c : RecallCause) (s : State) : State :=
  s.modWork l fun w => { w with
    pendingRecall := match w.pendingRecall with
      | none => some c
      | some .drawerRecall => some c
      | some p => some p }

/-- A recall cause reaches a drawer: an OPEN one is recalled, an EXTENDING one carries the cause out, any other goes on
(R103, R106, R108, R117). -/
def recallCause (l : LaneId) (c : RecallCause) (s : State) : State :=
  match (s.lane l).drawer with
  | .opened => recallDrawer l c.reason s
  | .extending => pendRecall l c s
  | .closed | .retracting | .jammed => s

/-- The outcome of a recall by the notes counted back; what is still held to be in the drawer becomes taken. The reason
is kept by RETRACTED alone (R65, R66). -/
def Order.countedBack (o : Order) : Order :=
  if o.retracted = 0 then { o with state := .taken, taken := o.presented, reason := none }
  else if o.retracted < o.presented then
    { o with state := .partlyTaken, taken := o.presented - o.retracted, reason := none }
  else { o with state := .retracted, taken := 0 }

/-- The bundle of a drawer that has come home: its order leaves RECALLING by the count and the drawer load becomes
empty (R66, R111). -/
def endRecall (l : LaneId) (s : State) : State :=
  match (s.lane l).load with
  | some i => endOrder i Order.countedBack (s.modLane l fun r => { r with load := none })
  | none => s

/-- What the envelope sensor reports as a drawer comes to CLOSED, acted on by the deposit claim (R111, R112). -/
def takeEnvelope (l : LaneId) (e : EnvelopeReport) (s : State) : State :=
  if (s.lane l).claim then
    match e with
    | .absent => s.modLane l fun r => { r with claim := false }
    | .present => if (s.gate l).isSome then s else dropEnvelope l s
    | .oversize => driveDrawer l .extending s
  else
    match e with
    | .absent => s
    | .present | .oversize => driveDrawer l .extending s

/-! ### Heads -/

/-- An order in a head goes ABORTING with a reason, and the head dump begins (R113). -/
def dumpHead (l : LaneId) (i : OrderSlot) (r : Reason) (s : State) : State :=
  (s.modOrder i fun o => { o with state := .aborting, reason := some r }).modWork l fun w =>
    { w with dump := some routeLimit }

/-- A staged order in the head is dumped; any other head goes on (R103, R113, R117). -/
def dumpStaged (l : LaneId) (r : Reason) (s : State) : State :=
  match (s.lane l).head with
  | some i =>
    match s.order i with
    | some o => if o.state = .staged then dumpHead l i r s else s
    | none => s
  | none => s

/-! ### Sessions -/

/-- An order of a closing lane that has not begun to move notes is CANCELLED with the reason of the close (R103). -/
def closeOrder (l : LaneId) (r : Reason) (i : OrderSlot) (s : State) : State :=
  match s.order i with
  | some o => if o.lane = l ∧ (o.state = .held ∨ o.state = .queued) then stopOrder i .cancelled r s else s
  | none => s

/-- An OPEN session goes CLOSING and every piece of the lane's work is dealt with (R103, R116). -/
def closeSession (l : LaneId) (c : CloseCause) (s : State) : State :=
  recallCause l c.recall
    (dumpStaged l c.reason
      (forEach (closeOrder l c.reason) (s.modLane l fun r => { r with session := .closing c })))

/-- Nothing of the lane remains in flight (R104). -/
def State.laneAtRest (s : State) (l : LaneId) : Bool :=
  !s.anyOrder (fun o => o.lane == l && !o.state.terminal) && (s.lane l).head.isNone &&
  ((s.lane l).drawer == .jammed || ((s.lane l).drawer == .closed && (s.lane l).load.isNone && !(s.lane l).claim))

/-- A CLOSING session with nothing left in flight becomes CLOSED and its close cause is removed (R104). -/
def completeSession (l : LaneId) (s : State) : State :=
  match (s.lane l).session with
  | .closing _ => if s.laneAtRest l then s.modLane l fun r => { r with session := .closed } else s
  | .closed | .opened => s

/-- Every CLOSING session that can complete does (R104). -/
def completeSessions (s : State) : State := forEach completeSession s

/-! ### Locks -/

/-- A lane lock arrives from a latched zone: the lock becomes ALARM with the zone unless it is ALARM already, and an
OPEN session is closed with LANE_LOCK (R116). -/
def lockLane (l : LaneId) (z : ZoneId) (s : State) : State :=
  let locked := s.modLane l fun r => { r with
    lock := match r.lock with
      | .alarm z' => .alarm z'
      | .none | .jam => .alarm z }
  if (s.lane l).session = .opened then closeSession l .laneLock locked else locked

/-- The oldest latched LANE_LOCK zone of a lane in the trip list (R116). -/
def State.lockZone (s : State) (l : LaneId) : Option ZoneId :=
  s.custody.tripList.find? fun z =>
    (s.zone z).state == .latched && (s.zone z).response == .laneLock && (s.zone z).lane == some l

/-- The zone named by an ALARM lock has left LATCHED, and the lock moves on (R116). -/
def moveLock (l : LaneId) (z : ZoneId) (s : State) : State :=
  if (s.lane l).lock = .alarm z then
    s.modLane l fun r => { r with
      lock := match s.lockZone l with
        | some z' => .alarm z'
        | none => if r.drawer = .jammed then .jam else .none }
  else s

end Sys2Proof.Machine
end

