-- ==== Sys2Proof/Machine/AlarmOps.lean ====
section
/-! DEFINITION. The shared operations of the Alarm Unit: activation, latch, lockdown and its end, the end of bypasses
and of service mode (Chapter 8). -/

namespace Sys2Proof.Machine

/-- The zone's group is armed: ALWAYS, or the group's flag is set (section 8.1). -/
def State.groupArmed (s : State) : Group → Bool
  | .day => s.custody.dayArmed
  | .night => s.custody.nightArmed
  | .always => true

/-- The zone is bypassed: by its manual bypass, or by service mode for a kind that carries service bypass
(section 8.1). -/
def State.bypassed (s : State) (z : ZoneId) : Bool :=
  (s.zone z).manualBypass || (s.alarm.service && serviceKind z)

/-- The entry delay timer of a zone stops (R146, R156). -/
def stopDelay (z : ZoneId) (s : State) : State :=
  s.modAlarm fun a => { a with delays := tableSet a.delays z none }

/-! ### Lockdown -/

/-- Lockdown reaches the order in PICKING: an attempt in flight runs to its end as its last; without one the order goes
ABORTING at once (R81, R86). -/
def lockdownPicking (s : State) : State :=
  match s.path.state, s.path.attempt with
  | .picking, some a => s.modPath fun p => { p with attempt := some { a with last := true } }
  | .picking, none => abortPicking .lockdown s
  | _, _ => s

/-- Lockdown reaches a leveling session: in FETCHING an attempt in flight runs to its end as the last, and in every
other case the session ends at once (R40). -/
def lockdownLeveling (c : CassetteId) (s : State) : State :=
  match (s.cassette c).leveling with
  | some v =>
    match v.phase, s.path.attempt with
    | .fetching, some a => s.modPath fun p => { p with attempt := some { a with last := true } }
    | _, _ => endLeveling c s
  | none => s

/-- Lockdown reaches a lane: a staged head is dumped, an OPEN drawer recalled and an EXTENDING one marked for recall
(R117). -/
def lockdownLane (l : LaneId) (s : State) : State :=
  recallCause l .lockdown (dumpStaged l .lockdown s)

/-- The start of lockdown, in the event of its latch (R153). -/
def startLockdown (s : State) : State :=
  forEach lockdownLane (forEach lockdownLeveling (closeShutters (lockdownPicking
    ((s.modAlarm fun a => { a with siren := true }).raise .alarm))))

/-! ### Latch and activation -/

/-- The response of a latched zone acts (R149, R152, R153, R155). `stood` tells whether lockdown stood before the
latch. -/
def respond (z : ZoneId) (stood : Bool) (s : State) : State :=
  match (s.zone z).response with
  | .lockdown => if stood then s.modAlarm fun a => { a with siren := true } else startLockdown s
  | .laneLock =>
    match (s.zone z).lane with
    | some l => lockLane l z s
    | none => s
  | .silent => s.modAlarm fun a => { a with silent := true }
  | .report => s

/-- A zone latches: it goes LATCHED, its id joins the tail of the trip list, its response acts, and ALARM is set
(R149). -/
def latch (z : ZoneId) (s : State) : State :=
  let latched := stopDelay z (s.modZone z fun r => { r with state := .latched })
  (respond z s.lockdown
    { latched with custody := { latched.custody with tripList := s.custody.tripList ++ [z] } }).raise .alarm

/-- An activation: the trip is counted, and the zone enters its delay or latches (R147). -/
def activate (z : ZoneId) (s : State) : State :=
  let tripped := s.modZone z fun r => { r with tripCount := bump r.tripCount }
  if (s.zone z).entryDelay = 0 then latch z tripped
  else
    (tripped.modZone z fun r => { r with state := .delay }).modAlarm fun a =>
      { a with delays := tableSet a.delays z (some ((s.zone z).entryDelay * second)) }

/-- A zone in NORMAL whose input is ACTIVE is activated if it is armed and not bypassed (R147). -/
def activateIfOpen (z : ZoneId) (s : State) : State :=
  if (s.zone z).state = .normal ∧ (s.zone z).input = .active ∧ s.groupArmed (s.zone z).group = true ∧
      s.bypassed z = false then activate z s
  else s

/-! ### The end of bypasses and of service mode -/

/-- The service bypass of a zone ends, without what follows: a BYPASSED zone of a service bypass kind that has no manual
bypass goes NORMAL (R157, step 2). -/
def Zone.endServiceBypass (z : ZoneId) (r : Zone) : Zone :=
  { r with state := if r.state = .bypassed ∧ serviceKind z = true ∧ r.manualBypass = false then .normal else r.state }

/-- The manual bypass of an ALWAYS zone ends, without what follows: it is cleared, and the zone goes NORMAL if it was
BYPASSED (R150, R157, step 3). -/
def Zone.endManualBypass (r : Zone) : Zone :=
  { r with
    manualBypass := r.manualBypass && r.group != .always
    state := if r.state = .bypassed ∧ r.group = .always ∧ r.manualBypass = true then .normal else r.state }

/-- The bypasses of a zone that end with service mode, without what follows: the two steps one after the other. -/
def Zone.endService (z : ZoneId) (r : Zone) : Zone := (r.endServiceBypass z).endManualBypass

/-- A zone leaves a bypass by f, and is activated if it returns to NORMAL with its input ACTIVE while armed (R147). -/
def leaveBypass (f : ZoneId → Zone → Zone) (z : ZoneId) (s : State) : State :=
  if (s.zone z).state = .bypassed then activateIfOpen z (s.modZone z (f z)) else s.modZone z (f z)

/-- Service mode ends: steps 1 to 3 of R157, all service bypasses before the first manual bypass. Within a step the
zones are taken in ascending order of zone id, which is the model's choice: R157 and R158 give no order of several
zones that are activated in one step (log entry 33). -/
def endService (s : State) : State :=
  forEach (leaveBypass fun _ => Zone.endManualBypass)
    (forEach (leaveBypass Zone.endServiceBypass) (s.modAlarm fun a => { a with service := false }))

/-- A zone goes BYPASSED as service mode begins, if its kind carries service bypass and it is NORMAL or in DELAY
(R156). -/
def enterServiceZone (z : ZoneId) (s : State) : State :=
  if serviceKind z = true ∧ ((s.zone z).state = .normal ∨ (s.zone z).state = .delay) then
    stopDelay z (s.modZone z fun r => { r with state := .bypassed })
  else s

/-! ### Reset of a latch -/

/-- What a zone's latch held up is released (R116, R151, R154, R155). -/
def releaseResponse (z : ZoneId) (s : State) : State :=
  match (s.zone z).response with
  | .lockdown => if s.lockdown then s else (s.modAlarm fun a => { a with siren := false }).raise .alarm
  | .laneLock =>
    match (s.zone z).lane with
    | some l => moveLock l z s
    | none => s
  | .silent => if s.silentLatched then s else s.modAlarm fun a => { a with silent := false }
  | .report => s

/-- A latch is cleared: the zone goes BYPASSED or NORMAL, leaves the trip list, and its response is released (R151). -/
def unlatch (z : ZoneId) (s : State) : State :=
  let reset := s.modZone z fun r => { r with state := if s.bypassed z then .bypassed else .normal }
  releaseResponse z { reset with custody := { reset.custody with tripList := s.custody.tripList.filter (· != z) } }

/-- The lowest-numbered zone that meets p (R145, R157). -/
def State.firstZone (s : State) (p : ZoneId → Zone → Bool) : Option ZoneId :=
  (positions _).find? fun z => p z (s.zone z)

end Sys2Proof.Machine
end

