-- ==== Sys2Proof/Machine/Operands.lean ====
section
/-! DEFINITION. The fields of a command as its frame carries them (R173, R180, section 10.7): numbers of more than one
byte most significant byte first, enumerations numbered from 0 in the manual's order, flags 0 and 1, optional forms in
reserved values. Reading a field answers none where the field is refused BAD_PARAM. -/

namespace Sys2Proof.Machine

/-- Byte k of the parameters, counted from 0; bytes that the frame does not carry read as 0. -/
def byteAt (ps : List Byte) (k : Nat) : Nat := (ps.getD k 0#8).toNat

/-- The two-byte number at k. -/
def word2 (ps : List Byte) (k : Nat) : Nat := byteAt ps k * 256 + byteAt ps (k + 1)

/-- The three-byte number at k. -/
def word3 (ps : List Byte) (k : Nat) : Nat := word2 ps k * 256 + byteAt ps (k + 2)

/-- The four-byte number at k. -/
def word4 (ps : List Byte) (k : Nat) : Nat := word3 ps k * 256 + byteAt ps (k + 3)

/-- A number from 1 to n, as a position of a table of n records (R1). -/
def numbered (n v : Nat) : Option (Fin n) :=
  if h : 1 ≤ v ∧ v ≤ n then some ⟨v - 1, by omega⟩ else none

/-- A cassette slot, 1 to 6. -/
def cassetteOf (v : Nat) : Option CassetteId := numbered Config.cassetteCount v
/-- A lane, 1 to 4. -/
def laneOf (v : Nat) : Option LaneId := numbered Config.laneCount v
/-- A zone, 1 to 16. -/
def zoneOf (v : Nat) : Option ZoneId := numbered Config.zoneCount v
/-- A watch slot, 1 to 4. -/
def watchOf (v : Nat) : Option WatchId := numbered Config.watchCount v

/-- The slot of an order handle, 1 to 12 in its low four bits (R3). -/
def handleSlot (v : Nat) : Option OrderSlot := numbered Config.orderCount (v % 16)

/-- The tag of an order handle, its high four bits (R3). -/
def handleTag (v : Nat) : BitVec 4 := BitVec.ofNat 4 (v / 16)

/-- A flag: 0 clear, 1 set (R180). -/
def flagOf : Nat → Option Bool
  | 0 => some false
  | 1 => some true
  | _ => none

/-- The group of an enumerated parameter. -/
def groupOf : Nat → Option Group
  | 0 => some .day
  | 1 => some .night
  | 2 => some .always
  | _ => none

/-- The response of an enumerated parameter. -/
def responseOf : Nat → Option Response
  | 0 => some .lockdown
  | 1 => some .laneLock
  | 2 => some .silent
  | 3 => some .report
  | _ => none

/-- The record kind of an enumerated parameter. -/
def kindOf : Nat → Option RecordKind
  | 0 => some .cassette
  | 1 => some .order
  | 2 => some .envelope
  | 3 => some .zone
  | 4 => some .lane
  | _ => none

/-- The trigger of an enumerated parameter. -/
def triggerOf : Nat → Option Trigger
  | 0 => some .stateChange
  | 1 => some .countBelow
  | 2 => some .retire
  | 3 => some .access
  | _ => none

/-- The purposes of DRAWER SEND (section 6.3). -/
inductive SendMode where
  | present
  | deposit
  | both
deriving DecidableEq, Repr

/-- The mode of DRAWER SEND. -/
def sendModeOf : Nat → Option SendMode
  | 0 => some .present
  | 1 => some .deposit
  | 2 => some .both
  | _ => none

/-- The mode carries a bundle. -/
def SendMode.bundle : SendMode → Bool
  | .present | .both => true
  | .deposit => false

/-- The mode takes an envelope back. -/
def SendMode.envelope : SendMode → Bool
  | .deposit | .both => true
  | .present => false

/-- The dispositions of ORDER RESOLVE (R71). -/
inductive Disposition where
  | delivered
  | recovered
deriving DecidableEq, Repr

/-- The disposition of ORDER RESOLVE. -/
def dispositionOf : Nat → Option Disposition
  | 0 => some .delivered
  | 1 => some .recovered
  | _ => none

/-- A number within a range, end points included. -/
def within (lo hi v : Nat) : Bool := lo ≤ v && v ≤ hi

/-- A value brought into a range (R24, R178). -/
def clamp (lo hi v : Nat) : Nat := if v < lo then lo else if hi < v then hi else v

/-- The caps entries of ORDER PLACE: n of them from byte 5, three bytes each. -/
def capsAt (ps : List Byte) : Nat → Nat → List Cap
  | 0, _ => []
  | n + 1, k => { value := word2 ps k, cap := byteAt ps (k + 2) } :: capsAt ps n (k + 3)

/-- No two entries of a caps list carry the same value. -/
def capsDistinct : List Cap → Bool
  | [] => true
  | c :: rest => rest.all (fun d => d.value != c.value) && capsDistinct rest

/-- The caps list is one that R45 accepts. -/
def capsValid (caps : List Cap) : Bool :=
  caps.length ≤ 6 && caps.all (fun c => within 1 1000 c.value && within 0 60 c.cap) && capsDistinct caps

/-- The handle ranges of the record kinds (R161). -/
def RecordKind.top : RecordKind → Nat
  | .cassette => Config.cassetteCount
  | .order => Config.orderCount
  | .envelope => lastCapture
  | .zone => Config.zoneCount
  | .lane => Config.laneCount

/-- The resolution of an order handle whose slot is in range: NO_SUCH, STALE, or the order in the slot (R3). -/
def State.resolve (s : State) (i : OrderSlot) (tag : BitVec 4) : Except ResultCode Order :=
  match s.order i with
  | none => .error .noSuch
  | some o => if s.custody.tags.get i = tag then .ok o else .error .stale

end Sys2Proof.Machine
end

