-- ==== Sys2Proof/Machine/Port.lean ====
section
/-! DEFINITION. The Station Link Port: what becomes of a frame at its release (R171 to R173), the answer of a command
(R167, R170, R181), and the two shapes of a meaning, that of a station command and that of an event. -/

/-- FREE VALUE (log entry 24): the result bytes of a result whose byte layout the manual does not give, of which no more
than the 63 that a frame carries count (R181). Section 10.7 lays out CASSETTE READ, ORDER READ, ENVELOPE READ and CONFIG
READ, and R12 and R13 the scans; of the others their rules name the fields. -/
opaque Sys2Proof.Config.layoutOf : Sys2Proof.Machine.Payload → List Sys2Proof.Byte

namespace Sys2Proof.Machine

/-- The outcome of one command. -/
abbrev Outcome := Host.Outcome State Fault Refusal

/-! ### Results -/

/-- The number of a result code (section 10.6). -/
def ResultCode.number : ResultCode → Nat
  | .ok => 0
  | .clamped => 1
  | .unknownCommand => 2
  | .frameLength => 3
  | .starting => 4
  | .waking => 5
  | .quiet => 6
  | .stale => 7
  | .noSuch => 8
  | .badParam => 9
  | .wrongState => 10
  | .notService => 11
  | .lockdown => 12
  | .noMix => 13
  | .tableFull => 14
  | .retractFull => 15
  | .captureFull => 16
  | .noSession => 17
  | .laneLocked => 18
  | .expired => 19
  | .tooSoon => 20
  | .uncounted => 21

/-- The code of the status byte that means no result (section 10.6). -/
def noResult : Nat := 63

/-- The frame out as the assertion of select builds it (R170, R171): while the part starts or settles, the code
STARTING; while a command is processed, BUSY with no result; else the result in the buffer, if there is one. -/
def State.frameOut (s : State) : FrameOut :=
  if s.hushed then { busy := false, attention := s.port.attention, code := ResultCode.starting.number, payload := .empty }
  else match s.port.processing, s.port.buffer with
    | some _, _ => { busy := true, attention := s.port.attention, code := noResult, payload := .empty }
    | none, some r => { busy := false, attention := s.port.attention, code := r.code.number, payload := r.payload }
    | none, none => { busy := false, attention := s.port.attention, code := noResult, payload := .empty }

/-- The status byte of a frame out (section 10.7). -/
def FrameOut.status (f : FrameOut) : Byte :=
  BitVec.ofBool f.busy ++ BitVec.ofBool f.attention ++ BitVec.ofNat 6 f.code

/-- A one-byte number. -/
def byte1 (n : Nat) : List Byte := [BitVec.ofNat 8 n]
/-- A two-byte number, most significant byte first. -/
def byte2 (n : Nat) : List Byte := [BitVec.ofNat 8 (n / 256), BitVec.ofNat 8 n]
/-- A three-byte number, most significant byte first. -/
def byte3 (n : Nat) : List Byte := BitVec.ofNat 8 (n / 65536) :: byte2 n
/-- A four-byte number, most significant byte first. -/
def byte4 (n : Nat) : List Byte := BitVec.ofNat 8 (n / 16777216) :: byte3 n

/-- A flag as a bit of the given weight. -/
def weight (b : Bool) (w : Nat) : Nat := if b then w else 0

/-- The result bytes of a result: those section 10.7 or the command's rule lays out, none for a result without bytes.
ORDER SCAN sends the number of its handles and then the handles (R12), ENVELOPE SCAN the number of its capture numbers,
the more flag and then the capture numbers (R13); that the number and the flag take a byte each is read from section
10.7 (log entry 38). A result that the manual gives by its fields has the free layout of log entry 24, in at most 63
bytes (R181). -/
def Payload.data : Payload → List Byte
  | .empty => []
  | .bytes d => d
  | .handles l => byte1 l.length ++ l
  | .captures l more => byte1 l.length ++ byte1 (weight more 1) ++ l.flatMap byte4
  | p => (Config.layoutOf p).take 63

/-- The filler byte (R170). -/
def filler : Byte := 0#8

/-- Byte k of the frame out, counted from 0: the status byte; then the result bytes of the result in the buffer, none
under BUSY; then filler to the end of the frame. Beyond the 64th byte the data out line carries filler (R169, R170,
R181). -/
def FrameOut.byte (f : FrameOut) (k : Nat) : Byte :=
  if k = 0 then f.status else if k < 64 then f.payload.data.getD (k - 1) filler else filler

/-- What the data out line carries in a frame of n bytes (R169, R170). -/
def FrameOut.dataOut (f : FrameOut) (n : Nat) : List Byte := (List.range n).map f.byte

/-- The release of select ends the frame; the frame shift state is idle. -/
def State.released (s : State) : State := s.modPort fun p => { p with frame := none }

/-- The status byte of the frame that ends showed BUSY. A command row that no SELECT_ASSERTION row opened is a frame
whose status byte showed BUSY clear (log entry 5). -/
def State.sawBusy (s : State) : Bool :=
  match s.port.frame with
  | some f => f.busy
  | none => false

/-- The processing of the command before has ended: its result is written into the buffer (R170). -/
def State.written (s : State) : State :=
  match s.port.processing with
  | some r => s.modPort fun p => { p with buffer := some r, processing := none }
  | none => s

/-- A link status flag is set, and the LINK notice with it (R172, R173). -/
def State.linkFault (flag : BitVec 3) (s : State) : State :=
  ((s.modPort fun p => { p with linkStatus := p.linkStatus ||| flag }).raise .link).syncAttention

/-- OVERRUN, FRAME and UNKNOWN (section 10.7). -/
def overrunFlag : BitVec 3 := 1
def frameFlag : BitVec 3 := 2
def unknownFlag : BitVec 3 := 4

/-- The refusal record takes a refused command (R167). -/
def State.noteRefusal (code : Byte) (ps : List Byte) (c : ResultCode) (s : State) : State :=
  s.modWatch fun w => { w with
    refused := some { code := code, param := ps.getD 0 0#8, result := c }, refusals := bump w.refusals }

/-- The command is being processed and its result is on its way to the buffer (R170). -/
def State.answering (c : ResultCode) (p : Payload) (s : State) : State :=
  s.modPort fun q => { q with processing := some { code := c, payload := p } }

/-! ### Answers -/

/-- What a command's own rule makes of it. `target` is the record the command names, once it has resolved it. -/
inductive Reply where
  /-- Carried out: the state with the command's own effect, OK or CLAMPED, and the result bytes. -/
  | done (s : State) (code : ResultCode) (payload : Payload) (target : Option RecordRef)
  /-- Carried out without a result (R185). -/
  | silent (s : State)
  /-- Refused, with result bytes for the refusals that carry one (R181). -/
  | refuse (code : ResultCode) (payload : Payload) (target : Option RecordRef)
deriving DecidableEq

/-- The answer to a command that was taken: a command carried out leaves its effect and what every event leaves; a
refused command leaves every record as it was, may give an ACCESS hit, and is noted in the refusal record. RETRACT_FULL
sets the BINS notice (R9, R53, R163, R167, R170). -/
def State.answer (s : State) (code : Byte) (ps : List Byte) : Reply → State
  | .done t c p target => (finish s t target target).answering c p
  | .silent t => finish s t none none
  | .refuse c p target =>
    ((finish s (s.raiseIf (c == .retractFull) .bins) none target).noteRefusal code ps c).answering c p

/-- What becomes of a frame with a command at its release, in the order of R171: not taken while the part starts or
settles; discarded with OVERRUN when its status byte showed BUSY; refused when it is short; else taken. The port
shifts in at most 63 bytes after the code (R169). -/
def station (code : Byte) (required : List Byte → Nat) (body : List Byte → State → Reply) (ps : List Byte)
    (s : State) : Outcome :=
  if s.hushed then .next s.released
  else if s.sawBusy then .next (s.released.linkFault overrunFlag)
  else
    let shifted := ps.take 63
    let taken := s.released.written
    if shifted.length < required shifted then
      .next (((taken.noteRefusal code shifted .frameLength).linkFault frameFlag).answering .frameLength .empty)
    else .next (taken.answer code shifted (body shifted taken))

/-- The required length of a command whose parameters have a fixed length (R173). -/
def fixed (n : Nat) : List Byte → Nat := fun _ => n

/-- A state in which a frame is taken: the part neither starts nor settles, and the frame did not see BUSY. -/
def State.takes (s : State) : Bool := !s.hushed && !s.sawBusy

/-! ### Events -/

/-- An event of the field lines, of a timer or of a block. In phase SETTLE it is not acted on (R182). -/
def event (f : State → State) (s : State) : Outcome :=
  if s.sup.phase = some .settle then .next s else .next (finish s (f s) none none)

/-- A field event whose line has a level: the level is known from then on, and in phase SETTLE nothing else comes of it
(R182, log entry 4). -/
def fieldEvent (level : FieldLevels → FieldLevels) (f : State → State) (s : State) : Outcome :=
  if s.sup.phase = some .settle then .next (s.modLevels level)
  else .next (finish s (f (s.modLevels level)) none none)

/-! ### Checks -/

/-- The first check that fails gives the result (R4). -/
def firstRefusal : List (Bool × ResultCode) → Option ResultCode
  | [] => none
  | (fails, code) :: rest => if fails then some code else firstRefusal rest

/-- The refusals of a command that QUIET, ENTERING_QUIET and WAKING refuse (R4). -/
def State.quietChecks (s : State) : List (Bool × ResultCode) :=
  [(s.sup.mode == .enteringQuiet || s.sup.mode == .quiet, .quiet), (s.sup.mode == .waking, .waking)]

/-- The refusals of a command that QUIET and WAKING refuse and whose rule does not name ENTERING_QUIET (R93, R99, R118;
log entry 14). -/
def State.restChecks (s : State) : List (Bool × ResultCode) :=
  [(s.sup.mode == .quiet, .quiet), (s.sup.mode == .waking, .waking)]

/-- A command refused by a list of checks, or carried on. -/
def checked (checks : List (Bool × ResultCode)) (target : Option RecordRef) (go : Reply) : Reply :=
  match firstRefusal checks with
  | some c => .refuse c .empty target
  | none => go

/-- A parameter that must be in range (R4, step 3). -/
def param {α : Type} (p : Option α) (go : α → Reply) : Reply :=
  match p with
  | some a => go a
  | none => .refuse .badParam .empty none

/-- A command that names an order by its handle: the slot field at the parameter stage, then the resolution (R3, R4).
`more` are further parameter checks. -/
def byHandle (s : State) (v : Nat) (more : List (Bool × ResultCode)) (go : OrderSlot → Order → Reply) : Reply :=
  param (handleSlot v) fun i =>
    checked more none
      (match s.resolve i (handleTag v) with
        | .error c => .refuse c .empty none
        | .ok o => go i o)

/-- A command that names an envelope by its capture number (R8). `more` are further parameter checks. -/
def byCapture (s : State) (n : Nat) (more : List (Bool × ResultCode)) (go : Envelope → Reply) : Reply :=
  checked ((n == 0, .badParam) :: more) none
    (match s.envelope n with
      | none => .refuse .noSuch .empty none
      | some e => go e)

end Sys2Proof.Machine
end

