-- ==== Sys2Proof/Machine/Layouts.lean ====
section
/-! DEFINITION. The results of the reading commands: the byte layouts of section 10.7, and the reports and summaries
that the manual gives by their fields (R14, R77, R101, R140, R142). -/

namespace Sys2Proof.Machine

/-! ### Times -/

/-- A time of the part clock in four bytes. -/
def time4 (t : Nat) : List Byte :=
  if t < 4294967296 then byte4 t else byte4 (Config.overlongTime t).toNat

/-- A time that may be absent: every bit set when it is. -/
def optTime4 : Option Nat → List Byte
  | some t => time4 t
  | none => byte4 0xFFFFFFFF

/-! ### Enumerations, numbered from 0 in the manual's order -/

/-- The number of a cassette state. -/
def CassetteState.number : CassetteState → Nat
  | .absent => 0
  | .uncounted => 1
  | .unleveled => 2
  | .ready => 3
  | .leveling => 4
  | .empty => 5

/-- The number of a shutter state. -/
def Shutter.number : Shutter → Nat
  | .shut => 0
  | .opening => 1
  | .opened => 2
  | .closing => 3

/-- The number of a leveling phase. -/
def LevelPhase.number : LevelPhase → Nat
  | .waiting => 0
  | .fetching => 1
  | .holding => 2

/-- The number of an order state. -/
def OrderState.number : OrderState → Nat
  | .held => 0
  | .queued => 1
  | .picking => 2
  | .routing => 3
  | .staged => 4
  | .presented => 5
  | .recalling => 6
  | .aborting => 7
  | .taken => 8
  | .partlyTaken => 9
  | .retracted => 10
  | .cancelled => 11
  | .failed => 12

/-- The number of a reason. -/
def Reason.number : Reason → Nat
  | .station => 0
  | .expired => 1
  | .sessionClosed => 2
  | .laneLock => 3
  | .power => 4
  | .short => 5
  | .cassetteGone => 6
  | .rejects => 7
  | .lockdown => 8
  | .drawerJam => 9
  | .transportJam => 10

/-- The number of an envelope state. -/
def EnvelopeState.number : EnvelopeState → Nat
  | .intake => 0
  | .conveying => 1
  | .binned => 2
  | .strayed => 3

/-! ### Byte layouts -/

/-- Bytes 17 to 24 of CASSETTE READ: the four tallies, or the leveling record in their place (R42). -/
def Cassette.tallyBytes (r : Cassette) : List Byte :=
  match r.state, r.leveling with
  | .leveling, some v =>
    byte1 v.phase.number ++ byte1 v.trials ++
      (match v.lastTrial with
        | some (value, bit) => byte2 value ++ byte1 (weight bit 1)
        | none => byte2 0xFFFF ++ byte1 0xFF) ++ [0, 0, 0]
  | _, _ => byte2 r.accepted ++ byte2 r.rejectNotes ++ byte2 r.testNotes ++ byte2 r.writtenOff

/-- The CASSETTE READ result (section 10.7). -/
def Cassette.bytes (c : CassetteId) (r : Cassette) : List Byte :=
  byte1 (c.val + 1) ++ byte1 r.state.number ++ byte1 (weight r.lowFlag 1 + weight r.mark 2) ++
    byte1 r.shutter.number ++ byte2 r.value ++ byte2 r.loaded ++ byte2 r.current ++ byte2 r.reserved ++
    byte1 r.guard ++ byte2 r.lowMark ++ byte2 r.reference ++ r.tallyBytes

/-- The four bytes of a mix entry in ORDER READ (section 10.7). -/
def MixEntry.bytes (e : MixEntry) : List Byte :=
  byte2 ((e.slot.val + 1) * 8192 + e.value) ++ byte1 e.count ++ byte1 e.accepted

/-- The two bytes of a cap in ORDER READ (section 10.7). -/
def Cap.bytes (c : Cap) : List Byte := byte2 (c.cap * 1024 + c.value)

/-- The deadline that ORDER READ shows: the hold deadline in HELD, the present deadline in PRESENTED (R72). -/
def Order.shownDeadline (o : Order) : Option Nat :=
  match o.state with
  | .held => o.holdDeadline
  | .presented => o.presentDeadline
  | _ => none

/-- The ORDER READ result (section 10.7). -/
def Order.bytes (handle : Byte) (clock : Nat) (o : Order) : List Byte :=
  [handle] ++ byte1 (o.lane.val + 1) ++
    byte1 (weight o.hold 1 + weight o.mark 2 + weight (!o.caps.isEmpty) 4) ++ byte2 o.amount ++
    byte1 o.state.number ++ byte1 (match o.reason with | some r => r.number | none => 0xFF) ++
    byte1 o.rejectItems ++ byte1 o.rejectNotes ++ byte1 o.presented ++ byte1 o.taken ++ byte1 o.retracted ++
    byte1 o.recovered ++ byte1 o.unresolved ++ optTime4 o.shownDeadline ++ time4 clock ++
    byte1 o.mix.length ++ o.mix.flatMap MixEntry.bytes ++ byte1 o.caps.length ++ o.caps.flatMap Cap.bytes

/-- The place of a capture number in the conveyor list, counted from 1 at the head; 0 when it is not in it. -/
def placeIn (n : Nat) (list : List Nat) : Nat :=
  match list.idxOf? n with
  | some k => k + 1
  | none => 0

/-- The ENVELOPE READ result (section 10.7). -/
def Envelope.bytes (clock : Nat) (list : List Nat) (e : Envelope) : List Byte :=
  byte4 e.capture ++ byte1 (e.lane.val + 1) ++ byte1 e.state.number ++ byte1 (weight e.mark 1) ++
    byte1 (match e.state with
      | .binned => e.binPosition.getD 0
      | .conveying => placeIn e.capture list
      | .intake | .strayed => 0) ++
    time4 e.acceptedAt ++ time4 clock ++ byte3 (e.declared.getD 0xFFFFFF) ++
    byte1 (e.reference.getD []).length ++ e.reference.getD []

/-- The CONFIG READ result (section 10.7). -/
def Settings.bytes (c : Settings) : List Byte :=
  byte2 c.holdLimit ++ byte1 c.presentLimit ++ byte1 c.shutterIdleClose ++ byte1 c.noteLimit ++
    byte1 c.maxRejects ++ byte2 c.enables.toNat

/-! ### Summaries (R14) -/

/-- The summary of the cassette table. -/
def State.cassetteSummaries (s : State) : List CassetteSummary :=
  (positions _).map fun c =>
    { slot := c.val + 1, state := (s.cassette c).state, value := (s.cassette c).value,
      current := (s.cassette c).current, reserved := (s.cassette c).reserved, lowFlag := (s.cassette c).lowFlag,
      shutter := (s.cassette c).shutter, mark := (s.cassette c).mark }

/-- The summary of the zone table. -/
def State.zoneSummaries (s : State) : List ZoneSummary :=
  (positions _).map fun z =>
    { id := z.val + 1, state := (s.zone z).state, input := (s.zone z).input,
      armed := s.groupArmed (s.zone z).group, mark := (s.zone z).mark }

/-- The summary of the lane records. -/
def State.laneSummaries (s : State) : List LaneSummary :=
  (positions _).map fun l =>
    { lane := l.val + 1, session := (s.lane l).session, drawer := (s.lane l).drawer,
      headOccupied := (s.lane l).head.isSome, loaded := (s.lane l).load.isSome, claim := (s.lane l).claim,
      lock := (s.lane l).lock, mark := (s.lane l).mark }

/-- The alarm status after the zone summary (R142). -/
def State.alarmStatus (s : State) : AlarmStatus :=
  { dayArmed := s.custody.dayArmed, nightArmed := s.custody.nightArmed, lockdown := s.lockdown,
    siren := s.alarm.siren, silent := s.alarm.silent, service := s.alarm.service, key := s.alarm.key,
    tripList := s.custody.tripList.map fun z => z.val + 1 }

/-! ### Reports -/

/-- The seconds shown of a time left: its number of seconds when it is whole; else the manual gives no rounding
(log entry 7). -/
def secondsOf (ms : Nat) : Nat := if ms % second = 0 then ms / second else Config.secondsShown ms

/-- What ZONE READ returns of a zone (R142). -/
def State.zoneReport (s : State) (z : ZoneId) : ZoneReport :=
  { id := z.val + 1, kind := zoneKind z, record := s.zone z, armed := s.groupArmed (s.zone z).group,
    bypassedByManual := (s.zone z).manualBypass, bypassedByService := s.alarm.service && serviceKind z,
    delayLeft := if (s.zone z).state = .delay then (s.alarm.delays.get z).map secondsOf else none,
    tripPlace := if (s.zone z).state = .latched then (s.custody.tripList.idxOf? z).map (· + 1) else none }

/-- What LANE READ returns of a lane (R101). -/
def State.laneReport (s : State) (l : LaneId) : LaneReport :=
  { lane := l.val + 1, record := s.lane l, headHandle := (s.lane l).head.map s.handle,
    loadHandle := (s.lane l).load.map s.handle, pendingRecall := (s.laneWork l).pendingRecall }

/-- A claim as TRANSPORT READ shows it (R77). -/
def State.claimReport (s : State) : Claim → ClaimReport
  | .order i => .order (s.handle i)
  | .leveling c => .leveling (c.val + 1)

/-- A claim is grantable: a leveling claim always, an order claim when its lane's head is empty, its drawer holds no
bundle and its lock is NONE (R80). -/
def State.grantable (s : State) : Claim → Bool
  | .leveling _ => true
  | .order i =>
    match s.order i with
    | some o => (s.lane o.lane).head.isNone && (s.lane o.lane).load.isNone && (s.lane o.lane).lock == .none
    | none => false

/-- What TRANSPORT READ returns (R77). The miss count is shown as it stands in every state: the misses of the entry
being picked in PICKING (R76), those of the leveling session in LEVELING, and 0 elsewhere. R76 gives the field for
PICKING alone; what it shows outside is the model's choice (log entry 36). -/
def State.transportReport (s : State) : TransportReport :=
  { state := s.path.state, holder := s.path.holder.map s.claimReport, entry := s.path.entry.map (· + 1),
    misses := s.path.misses, stackerNotes := s.path.stackerNotes, jam := s.path.jam,
    rejectPause := s.path.rejectPause, idleRunning := s.path.shutterIdle.isSome,
    queue := s.path.queue.map fun c => (s.claimReport c, s.grantable c) }

/-- A drawer waits with an envelope for its gate: it is CLOSED with its claim set (R112). -/
def State.drawerWaits (s : State) (l : LaneId) : Bool := (s.lane l).drawer == .closed && (s.lane l).claim

/-- What BIN READ returns (R140). -/
def State.binReport (s : State) : BinReport :=
  { retention := s.custody.retention, retractCount := s.custody.bins.retractCount,
    retractCounted := s.custody.bins.retractCounted, rejectCount := s.custody.bins.rejectCount,
    rejectCounted := s.custody.bins.rejectCounted, rejectPause := s.path.rejectPause,
    captureCounted := s.custody.bins.captureCounted, binned := s.conveyor.binList.length,
    unexpected := s.custody.bins.unexpected, records := s.custody.envelopes.length, claims := s.claims,
    conveyor := s.conveyor.state, list := s.conveyor.list,
    gates := (positions _).map fun l =>
      { envelope := (s.gate l).map (·.capture), drawerWaits := s.drawerWaits l } }

end Sys2Proof.Machine
end

