-- ==== Sys2Proof/Machine/Link.lean ====
section
/-! DEFINITION. The commands of the port itself, the configuration commands, and the events of a frame and of the link
settle (Chapter 10, R185). -/

namespace Sys2Proof.Machine

/-- NOOP (R171): the frame ends and nothing else comes of it; the result buffer and a command in processing stand. -/
def execNoop (_ : List Byte) (s : State) : Outcome := .next s.released

/-- IDENTIFY (R179). -/
def identify (_ : List Byte) (s : State) : Reply :=
  .done s .ok (.identification { vendor := 0x0C57, part := 0x6400, revision := 1, lanes := Config.laneCount,
                                 cassettes := Config.cassetteCount }) none

/-- IDENTIFY (R179). -/
def execIdentify (ps : List Byte) (s : State) : Outcome := station 0x02 (fixed 0) identify ps s

/-! ### Link status and notices -/

/-- LINK STATUS READ (R174). -/
def linkStatusRead (_ : List Byte) (s : State) : Reply :=
  .done s .ok (.bytes (byte1 s.port.linkStatus.toNat)) none

/-- LINK_STATUS_READ (R174). -/
def execLinkStatusRead (ps : List Byte) (s : State) : Outcome := station 0x03 (fixed 0) linkStatusRead ps s

/-- LINK STATUS CLEAR value (R174). -/
def linkStatusClear (ps : List Byte) (s : State) : Reply :=
  checked [(7 < byteAt ps 0, .badParam)] none
    (.done (s.modPort fun p => { p with linkStatus := p.linkStatus &&& ~~~ BitVec.ofNat 3 (byteAt ps 0) }) .ok .empty none)

/-- LINK_STATUS_CLEAR (R174). -/
def execLinkStatusClear (ps : List Byte) (s : State) : Outcome := station 0x04 (fixed 1) linkStatusClear ps s

/-- NOTICE READ: the ten notice flags and the ten notice enables (R175). -/
def noticeRead (_ : List Byte) (s : State) : Reply :=
  .done s .ok (.bytes (byte2 s.port.notices.toNat ++ byte2 s.custody.settings.enables.toNat)) none

/-- NOTICE_READ (R175). -/
def execNoticeRead (ps : List Byte) (s : State) : Outcome := station 0x05 (fixed 0) noticeRead ps s

/-- NOTICE CLEAR value (R175). -/
def noticeClear (ps : List Byte) (s : State) : Reply :=
  checked [(1023 < word2 ps 0, .badParam)] none
    (.done (s.modPort fun p => { p with notices := p.notices &&& ~~~ BitVec.ofNat 10 (word2 ps 0) }) .ok .empty none)

/-- NOTICE_CLEAR (R175). -/
def execNoticeClear (ps : List Byte) (s : State) : Outcome := station 0x06 (fixed 2) noticeClear ps s

/-! ### Configuration -/

/-- CONFIG READ (R179). -/
def configRead (_ : List Byte) (s : State) : Reply := .done s .ok (.bytes s.custody.settings.bytes) none

/-- CONFIG_READ (R179). -/
def execConfigRead (ps : List Byte) (s : State) : Outcome := station 0x07 (fixed 0) configRead ps s

/-- The configuration items (R178). -/
inductive ConfigItem where
  | holdLimit
  | presentLimit
  | shutterIdleClose
  | noteLimit
  | maxRejects
  | enables
deriving DecidableEq, Repr

/-- The configuration item of a number. -/
def itemOf : Nat → Option ConfigItem
  | 1 => some .holdLimit
  | 2 => some .presentLimit
  | 3 => some .shutterIdleClose
  | 4 => some .noteLimit
  | 5 => some .maxRejects
  | 6 => some .enables
  | _ => none

/-- The lowest value of an item. -/
def ConfigItem.low : ConfigItem → Nat
  | .holdLimit => 10
  | .presentLimit => 10
  | .shutterIdleClose => 2
  | .noteLimit => 1
  | .maxRejects => 1
  | .enables => 0

/-- The highest value of an item. -/
def ConfigItem.high : ConfigItem → Nat
  | .holdLimit => 900
  | .presentLimit => 120
  | .shutterIdleClose => 60
  | .noteLimit => 60
  | .maxRejects => 15
  | .enables => 1023

/-- The item is refused while any order is non-terminal. -/
def ConfigItem.orderBound : ConfigItem → Bool
  | .noteLimit | .maxRejects => true
  | .holdLimit | .presentLimit | .shutterIdleClose | .enables => false

/-- The items with one of them written. -/
def Settings.write (i : ConfigItem) (v : Nat) (c : Settings) : Settings :=
  match i with
  | .holdLimit => { c with holdLimit := v }
  | .presentLimit => { c with presentLimit := v }
  | .shutterIdleClose => { c with shutterIdleClose := v }
  | .noteLimit => { c with noteLimit := v }
  | .maxRejects => { c with maxRejects := v }
  | .enables => { c with enables := BitVec.ofNat 10 v }

/-- One item written; a new max-rejects limit has the reject pause evaluated again (R82, R178). -/
def writeItem (i : ConfigItem) (v : Nat) (s : State) : State :=
  let written : State := { s with custody := { s.custody with settings := s.custody.settings.write i v } }
  if i = .maxRejects then evalPause written else written

/-- CONFIG SET item, value (R178). -/
def configSet (ps : List Byte) (s : State) : Reply :=
  param (itemOf (byteAt ps 0)) fun i =>
    checked [(i == .enables && 1023 < word2 ps 1, .badParam),
             (i.orderBound && s.anyOrder (fun o => !o.state.terminal), .wrongState)] none
      (.done (writeItem i (clamp i.low i.high (word2 ps 1)) s)
        (if clamp i.low i.high (word2 ps 1) = word2 ps 1 then .ok else .clamped)
        (.item (clamp i.low i.high (word2 ps 1))) none)

/-- CONFIG_SET (R178). -/
def execConfigSet (ps : List Byte) (s : State) : Outcome := station 0x08 (fixed 3) configSet ps s

/-! ### The link reset -/

/-- LINK RESET returns the station's side to its starting contents and starts the link settle (R160, R167, R177,
R185). -/
def resetLink (s : State) : State :=
  { s with
    port := { Port.fresh with settle := some linkSettleTime }
    watch := WatchUnit.fresh
    custody := { s.custody with settings := { s.custody.settings with enables := 0x3ff#10 } } }

/-- LINK RESET (R185). It writes no result. -/
def linkReset (_ : List Byte) (s : State) : Reply :=
  checked [(s.sup.mode == .waking, .waking)] none (.silent (resetLink s))

/-- LINK_RESET (R185). -/
def execLinkReset (ps : List Byte) (s : State) : Outcome := station 0x09 (fixed 0) linkReset ps s

/-- The link settle ends: RESTART and every held notice are set, and the attention line follows (R176, R185). -/
def endLinkSettle (s : State) : State :=
  (s.modPort fun p => { p with
    settle := none, notices := p.notices ||| p.heldNotices ||| Notice.restart.bit, heldNotices := 0#10 }).syncAttention

/-- LINK_SETTLE_EXPIRY (R185). -/
def execLinkSettleExpiry (s : State) : Outcome :=
  .next (if s.port.settle.isSome then endLinkSettle s else s)

/-! ### Frames -/

/-- UNKNOWN_COMMAND: a frame whose code names no command, at its release (R171, R173). -/
def execUnknownCommand (code : Byte) (ps : List Byte) (s : State) : Outcome :=
  if listedCode code then .next s
  else if s.hushed then .next s.released
  else if s.sawBusy then .next (s.released.linkFault overrunFlag)
  else .next (((s.released.written.noteRefusal code ps .unknownCommand).linkFault unknownFlag).answering
    .unknownCommand .empty)

/-- The frame that ends showed BUSY: it was opened by a SELECT_ASSERTION that found BUSY, or no such row opened it and a
command is being processed (log entry 5). -/
def State.overruns (s : State) : Bool :=
  match s.port.frame with
  | some f => f.busy
  | none => s.port.processing.isSome

/-- OVERRUN: a frame whose status byte showed BUSY is discarded at its release (R172). -/
def execOverrun (s : State) : Outcome :=
  if s.hushed then .next s.released
  else if s.overruns then .next (s.released.linkFault overrunFlag)
  else .next s

/-- RESULT_WRITTEN: the result of the command in processing is written into the buffer, and BUSY clears (R170). -/
def execResultWritten (s : State) : Outcome := .next s.written

/-- SELECT_ASSERTION: the frame out is fixed from the state of the port (R170). A frame that is still open then was
released before it reached one whole byte: nothing is taken, no flag is set and the result buffer stands (R169). The
table has no row for that release, so it is part of the next assertion (log entry 5). -/
def execSelectAssertion (s : State) : Outcome :=
  .next (s.released.modPort fun p => { p with frame := some s.frameOut })

end Sys2Proof.Machine
end

