-- ==== Sys2Proof/Machine/Mix.lean ====
section
/-! DEFINITION. The Mix Unit: the eligible cassettes and their availability, the position order, and the search for the
mix (Chapter 3). -/

namespace Sys2Proof.Machine

/-- One position of the mix: an eligible cassette with its value and its availability (R46 to R48). -/
structure Place where
  slot : CassetteId
  value : Nat
  available : Nat
deriving DecidableEq, Repr

/-- The availability of a cassette: the current count less the reserved count less the guard, or 0 (R47). -/
def Cassette.available (r : Cassette) : Nat := r.current - r.reserved - r.guard

/-- Position a stands before position b: by value, then by availability, highest first, then by slot (R48). -/
def Place.before (a b : Place) : Bool :=
  b.value < a.value || (a.value == b.value &&
    (b.available < a.available || (a.available == b.available && a.slot.val < b.slot.val)))

/-- A position put into a list that stands in position order. -/
def insertPlace (p : Place) : List Place → List Place
  | [] => [p]
  | q :: rest => if p.before q then p :: q :: rest else q :: insertPlace p rest

/-- Positions in position order (R48). -/
def sortPlaces : List Place → List Place
  | [] => []
  | p :: rest => insertPlace p (sortPlaces rest)

/-- The eligible cassettes, those that are READY, in position order (R46, R48). -/
def State.places (s : State) : List Place :=
  sortPlaces (((positions _).filter fun c => (s.cassette c).state == .ready).map fun c =>
    { slot := c, value := (s.cassette c).value, available := (s.cassette c).available })

/-- What is left of the cap of a value, if the caps list names it (R50). -/
def capLeft (caps : List Cap) (v : Nat) : Option Nat := (caps.find? fun c => c.value == v).map (·.cap)

/-- The caps list with n notes of a value spent (R50). -/
def spendCap (caps : List Cap) (v n : Nat) : List Cap :=
  caps.map fun c => if c.value = v then { c with cap := c.cap - n } else c

/-- The ceiling at a position: the largest count it may take given what is still to be paid, the notes left and the
caps left (R50). -/
def ceiling (p : Place) (rest left : Nat) (caps : List Cap) : Nat :=
  let top := min p.available (min (rest / p.value) left)
  match capLeft caps p.value with
  | some k => min top k
  | none => top

/-- The counts n, n - 1, … 0 at one position, tried in this order: the first that later positions complete (R50). -/
def countDown (complete : Nat → Option (List Nat)) : Nat → Option (List Nat)
  | 0 => (complete 0).map (0 :: ·)
  | n + 1 =>
    match complete (n + 1) with
    | some v => some ((n + 1) :: v)
    | none => countDown complete n

/-- The search of the mix: each position from its ceiling downwards, so that the candidates come in descending
lexicographic order; the first exact vector is the mix (R49, R50). -/
def searchMix : List Place → Nat → Nat → List Cap → Option (List Nat)
  | [], rest, _, _ => if rest = 0 then some [] else none
  | p :: later, rest, left, caps =>
    countDown (fun n => searchMix later (rest - n * p.value) (left - n) (spendCap caps p.value n))
      (ceiling p rest left caps)

/-- The mix list of a vector: one entry for each position whose count is above 0, in position order (R54). -/
def mixEntries (places : List Place) (counts : List Nat) : List MixEntry :=
  ((places.zip counts).filter fun pc => 0 < pc.2).map fun pc =>
    { slot := pc.1.slot, value := pc.1.value, count := pc.2, accepted := 0 }

/-- The mix that the Mix Unit finds for an amount under a caps list, with the note limit in force (R49). -/
def State.findMix (s : State) (amount : Nat) (caps : List Cap) : Option (List MixEntry) :=
  (searchMix s.places amount s.custody.settings.noteLimit caps).map (mixEntries s.places)

/-- The outstanding figure: over the non-terminal orders, the mix total less the retracted figure (R53). -/
def State.outstanding (s : State) : Nat :=
  ((positions _).map fun i =>
    match s.order i with
    | some o => if o.state.terminal then 0 else o.mixTotal - o.retracted
    | none => 0).sum

end Sys2Proof.Machine
end

