-- ==== Sys2Proof/Machine/Orders.lean ====
section
/-! DEFINITION. The order commands (Chapters 1, 3 and 4), the hold deadline and the present deadline. -/

namespace Sys2Proof.Machine

/-! ### ORDER PLACE -/

/-- The required length of ORDER PLACE after its code: five bytes and three for each cap announced (R173). -/
def orderPlaceLength (ps : List Byte) : Nat := 5 + 3 * byteAt ps 4

/-- The lowest-numbered free slot of the order table (R2). -/
def State.freeSlot (s : State) : Option OrderSlot := (positions _).find? fun i => (s.order i).isNone

/-- The order record that ORDER PLACE writes (R56, R59). -/
def newOrder (s : State) (l : LaneId) (amount : Nat) (hold : Bool) (caps : List Cap) (mix : List MixEntry) : Order :=
  { lane := l, amount := amount, hold := hold, caps := caps, mix := mix,
    state := if hold then .held else .queued, reason := none, rejectItems := 0, rejectNotes := 0, presented := 0,
    taken := 0, retracted := 0, recovered := 0, unresolved := 0,
    holdDeadline := if hold then some (s.clock + s.custody.settings.holdLimit) else none,
    presentDeadline := none, mark := false }

/-- The order is made in a free slot: the slot's tag advances, the record is written, the mix is reserved, the order
takes its place in the placement order and, when QUEUED, in the transport queue (R2, R30, R54, R56, R59). -/
def makeOrder (i : OrderSlot) (o : Order) (s : State) : State :=
  let made : State := { s with custody := { s.custody with
    orders := tableSet s.custody.orders i (some o)
    tags := tableSet s.custody.tags i (s.custody.tags.get i + 1#4)
    placement := s.custody.placement ++ [i]
    cassettes := tableMap (fun c r => { r with reserved := r.reserved + o.need c }) s.custody.cassettes } }
  if o.state = .queued then joinQueue (.order i) made else made

/-- ORDER PLACE lane, amount, hold flag, caps (R58). -/
def orderPlace (ps : List Byte) (s : State) : Reply :=
  checked s.quietChecks none <|
  param (laneOf (byteAt ps 0)) fun l =>
  param (flagOf (byteAt ps 3)) fun hold =>
    let amount := word2 ps 1
    let caps := capsAt ps (byteAt ps 4) 5
    checked [(!within 1 60000 amount || !capsValid caps, .badParam)] none <|
    checked [(s.alarm.service, .wrongState), (s.lockdown, .lockdown), ((s.lane l).session != .opened, .noSession),
             ((s.lane l).lock != .none, .laneLocked)] (some (.lane l)) <|
    match s.freeSlot with
    | none => .refuse .tableFull .empty (some (.lane l))
    | some i =>
      match s.findMix amount caps with
      | none => .refuse .noMix .empty (some (.lane l))
      | some mix =>
        let o := newOrder s l amount hold caps mix
        checked [(!s.custody.bins.retractCounted, .uncounted),
                 (retractRoom < s.custody.bins.retractCount + s.outstanding + o.mixTotal, .retractFull)]
          (some (.lane l))
          (.done (makeOrder i o s) .ok (.placed ((makeOrder i o s).handle i) mix) (some (.lane l)))

/-- ORDER_PLACE (R58). -/
def execOrderPlace (ps : List Byte) (s : State) : Outcome := station 0x20 orderPlaceLength orderPlace ps s

/-! ### ORDER RELEASE, ORDER CANCEL -/

/-- A HELD order goes QUEUED: its hold deadline is removed and its claim joins the tail of the queue (R61). -/
def releaseOrder (i : OrderSlot) (s : State) : State :=
  joinQueue (.order i) (s.modOrder i fun o => { o with state := .queued, holdDeadline := none })

/-- ORDER RELEASE handle (R61, R62). In service mode section 8.6 refuses it WRONG_STATE; a HELD order cannot stand then,
and were one there it would be refused so. An order CANCELLED with reason EXPIRED can stand in service mode: there R62,
which answers EXPIRED to every ORDER RELEASE that names one, and section 8.6 part, and that the answer is EXPIRED is the
model's choice (log entry 19). -/
def orderRelease (ps : List Byte) (s : State) : Reply :=
  checked s.quietChecks none <| byHandle s (byteAt ps 0) [] fun i o =>
    match o.state with
    | .held =>
      checked [(s.alarm.service, .wrongState), ((s.lane o.lane).lock != .none, .laneLocked)] (some (.order i))
        (.done (releaseOrder i s) .ok .empty (some (.order i)))
    | .cancelled =>
      .refuse (if o.reason = some .expired then .expired else .wrongState) .empty (some (.order i))
    | _ => .refuse .wrongState .empty (some (.order i))

/-- ORDER_RELEASE (R61). -/
def execOrderRelease (ps : List Byte) (s : State) : Outcome := station 0x21 (fixed 1) orderRelease ps s

/-- ORDER CANCEL handle (R62, R63). -/
def orderCancel (ps : List Byte) (s : State) : Reply :=
  byHandle s (byteAt ps 0) [] fun i o =>
    match o.state with
    | .held | .queued => .done (stopOrder i .cancelled .station s) .ok .empty (some (.order i))
    | .cancelled =>
      .refuse (if o.reason = some .expired then .expired else .wrongState) .empty (some (.order i))
    | _ => .refuse .wrongState .empty (some (.order i))

/-- ORDER_CANCEL (R63). -/
def execOrderCancel (ps : List Byte) (s : State) : Outcome := station 0x22 (fixed 1) orderCancel ps s

/-! ### Reading, scanning, retiring, resolving -/

/-- ORDER READ handle (R11, R72). -/
def orderRead (ps : List Byte) (s : State) : Reply :=
  byHandle s (byteAt ps 0) [] fun i o =>
    .done (s.modOrder i fun o => { o with mark := false }) .ok (.bytes (o.bytes (s.handle i) s.clock))
      (some (.order i))

/-- ORDER_READ (R72). -/
def execOrderRead (ps : List Byte) (s : State) : Outcome := station 0x23 (fixed 1) orderRead ps s

/-- The handles of the marked orders, in ascending slot order (R12). -/
def State.markedOrders (s : State) : List Byte :=
  ((positions _).filter fun i => (s.order i).any (·.mark)).map s.handle

/-- ORDER SCAN (R12). -/
def orderScan (_ : List Byte) (s : State) : Reply := .done s .ok (.handles s.markedOrders) none

/-- ORDER_SCAN (R12). -/
def execOrderScan (ps : List Byte) (s : State) : Outcome := station 0x24 (fixed 0) orderScan ps s

/-- ORDER RETIRE handle (R15). -/
def orderRetire (ps : List Byte) (s : State) : Reply :=
  byHandle s (byteAt ps 0) [] fun i o =>
    if o.state.terminal then .done (s.setOrder i none) .ok .empty (some (.order i))
    else .refuse .wrongState .empty (some (.order i))

/-- ORDER_RETIRE (R15). -/
def execOrderRetire (ps : List Byte) (s : State) : Outcome := station 0x25 (fixed 1) orderRetire ps s

/-- Unresolved notes settled as DELIVERED or RECOVERED (R71). -/
def Order.settle (d : Disposition) (n : Nat) (o : Order) : Order :=
  match d with
  | .delivered => { o with unresolved := o.unresolved - n, taken := o.taken + n }
  | .recovered => { o with unresolved := o.unresolved - n, recovered := o.recovered + n }

/-- ORDER RESOLVE handle, disposition, count; a count of 0 is every unresolved note (R71, R180). -/
def orderResolve (ps : List Byte) (s : State) : Reply :=
  checked [(!s.alarm.service, .notService)] none <|
  param (dispositionOf (byteAt ps 1)) fun d =>
    byHandle s (byteAt ps 0) [(60 < byteAt ps 2, .badParam)] fun i o =>
      let n := if byteAt ps 2 = 0 then o.unresolved else byteAt ps 2
      checked [(!o.state.terminal || o.unresolved == 0 || o.unresolved < n, .wrongState)] (some (.order i))
        (.done (s.modOrder i (Order.settle d n)) .ok
          (.settled (o.settle d n).taken (o.settle d n).recovered (o.settle d n).unresolved) (some (.order i)))

/-- ORDER_RESOLVE (R71). -/
def execOrderResolve (ps : List Byte) (s : State) : Outcome := station 0x26 (fixed 3) orderResolve ps s

/-! ### Deadlines -/

/-- A HELD order's deadline passes: it goes CANCELLED with reason EXPIRED (R60). -/
def holdExpiry (i : OrderSlot) (s : State) : State :=
  match s.order i with
  | some o => if o.state = .held then stopOrder i .cancelled .expired s else s
  | none => s

/-- HOLD_DEADLINE_EXPIRY (R60). -/
def execHoldDeadlineExpiry (i : OrderSlot) (s : State) : Outcome := event (holdExpiry i) s

/-- A PRESENTED order's present deadline expires: the drawer that carries it is recalled without a reason (R67,
R108). -/
def presentExpiry (i : OrderSlot) (s : State) : State :=
  match s.order i with
  | some o =>
    if o.state = .presented ∧ o.presentDeadline.isSome ∧ (s.lane o.lane).drawer = .opened ∧ (s.lane o.lane).load = some i
    then recallDrawer o.lane none s else s
  | none => s

/-- PRESENT_DEADLINE_EXPIRY (R108). -/
def execPresentDeadlineExpiry (i : OrderSlot) (s : State) : Outcome := event (presentExpiry i) s

end Sys2Proof.Machine
end

