-- ==== Sys2Proof/Machine/Cassettes.lean ====
section
/-! DEFINITION. The cassette and leveling commands, the seat sensor events, the shutter events and the leveling idle
expiry (Chapter 2). -/

namespace Sys2Proof.Machine

/-- CASSETTE READ slot (R11, R42). -/
def cassetteRead (ps : List Byte) (s : State) : Reply :=
  param (cassetteOf (byteAt ps 0)) fun c =>
    .done (s.modCassette c fun r => { r with mark := false }) .ok (.bytes ((s.cassette c).bytes c))
      (some (.cassette c))

/-- CASSETTE_READ (R11). -/
def execCassetteRead (ps : List Byte) (s : State) : Outcome := station 0x10 (fixed 1) cassetteRead ps s

/-- CASSETTE READ ALL (R14). -/
def cassetteReadAll (_ : List Byte) (s : State) : Reply := .done s .ok (.cassettes s.cassetteSummaries) none

/-- CASSETTE_READ_ALL (R14). -/
def execCassetteReadAll (ps : List Byte) (s : State) : Outcome := station 0x11 (fixed 0) cassetteReadAll ps s

/-- A cassette as CASSETTE LOAD sets it up (R23). -/
def Cassette.load (value count : Nat) (r : Cassette) : Cassette :=
  { r with
    value := value, loaded := count, current := count, accepted := 0, rejectNotes := 0, testNotes := 0, writtenOff := 0,
    lowFlag := count < r.lowMark
    state := if count = 0 then .empty else if r.reference = 0 then .unleveled else .ready }

/-- CASSETTE LOAD slot, value, count (R23). -/
def cassetteLoad (ps : List Byte) (s : State) : Reply :=
  checked [(!s.alarm.service, .notService)] none <|
  param (cassetteOf (byteAt ps 0)) fun c =>
    checked [(!within 1 1000 (word2 ps 1) || !within 0 2500 (word2 ps 3), .badParam)] none <|
    checked [((s.cassette c).state == .absent || (s.cassette c).state == .leveling || 0 < (s.cassette c).reserved,
              .wrongState)] (some (.cassette c))
      (.done (s.modCassette c (Cassette.load (word2 ps 1) (word2 ps 3))) .ok .empty (some (.cassette c)))

/-- CASSETTE_LOAD (R23). -/
def execCassetteLoad (ps : List Byte) (s : State) : Outcome := station 0x12 (fixed 5) cassetteLoad ps s

/-- CASSETTE SET slot, guard, low mark (R24). -/
def cassetteSet (ps : List Byte) (s : State) : Reply :=
  param (cassetteOf (byteAt ps 0)) fun c =>
    .done
      (s.modCassette c fun r => { r with
        guard := clamp 0 50 (byteAt ps 1), lowMark := clamp 0 2500 (word2 ps 2),
        lowFlag := r.current < clamp 0 2500 (word2 ps 2) })
      (if 50 < byteAt ps 1 ∨ 2500 < word2 ps 2 then .clamped else .ok) .empty (some (.cassette c))

/-- CASSETTE_SET (R24). -/
def execCassetteSet (ps : List Byte) (s : State) : Outcome := station 0x13 (fixed 4) cassetteSet ps s

/-! ### Leveling -/

/-- A leveling session opens in phase WAITING and its claim joins the queue (R36). -/
def startLeveling (c : CassetteId) (s : State) : State :=
  joinQueue (.leveling c) (s.modCassette c fun r => { r with
    state := .leveling, leveling := some { phase := .waiting, trials := 0, lastTrial := none } })

/-- LEVEL START slot (R36). -/
def levelStart (ps : List Byte) (s : State) : Reply :=
  checked s.quietChecks none <|
  param (cassetteOf (byteAt ps 0)) fun c =>
    checked [(s.lockdown, .lockdown),
             (((s.cassette c).state != .unleveled && (s.cassette c).state != .ready) || 0 < (s.cassette c).reserved ||
              (s.cassette c).current == 0, .wrongState)] (some (.cassette c))
      (.done (startLeveling c s) .ok .empty (some (.cassette c)))

/-- LEVEL_START (R36). -/
def execLevelStart (ps : List Byte) (s : State) : Outcome := station 0x14 (fixed 1) levelStart ps s

/-- The leveling record of a cassette that is LEVELING. -/
def Cassette.session (r : Cassette) : Option Leveling := if r.state = .leveling then r.leveling else none

/-- The leveling record after an answered trial (R38). -/
def Leveling.tried (v : Leveling) (value : Nat) (bit : Bool) : Leveling :=
  { v with trials := bump v.trials, lastTrial := some (value, bit) }

/-- LEVEL TRIAL slot, value (R38). -/
def levelTrial (ps : List Byte) (s : State) : Reply :=
  checked s.quietChecks none <|
  param (cassetteOf (byteAt ps 0)) fun c =>
    checked [(!within 0 1023 (word2 ps 1), .badParam)] none <|
    match (s.cassette c).session, s.path.heldReading with
    | some v, some g =>
      if v.phase = .holding then
        .done ((s.modCassette c fun r => { r with leveling := some (v.tried (word2 ps 1) (word2 ps 1 ≤ g)) }).modPath
            fun p => { p with levelingIdle := some levelingIdleTime })
          .ok (.trial (word2 ps 1 ≤ g)) (some (.cassette c))
      else .refuse .wrongState .empty (some (.cassette c))
    | _, _ => .refuse .wrongState .empty (some (.cassette c))

/-- LEVEL_TRIAL (R38). -/
def execLevelTrial (ps : List Byte) (s : State) : Outcome := station 0x15 (fixed 3) levelTrial ps s

/-- The thickness reference of LEVEL END committed; 0 is the abandon choice and keeps the old one (R39, R180). -/
def commitReference (c : CassetteId) (reference : Nat) (s : State) : State :=
  if reference = 0 then s else s.modCassette c fun r => { r with reference := reference }

/-- LEVEL END slot, reference (R39). -/
def levelEnd (ps : List Byte) (s : State) : Reply :=
  checked s.quietChecks none <|
  param (cassetteOf (byteAt ps 0)) fun c =>
    checked [(word2 ps 1 != 0 && !within 64 960 (word2 ps 1), .badParam)] none <|
    match (s.cassette c).session with
    | none => .refuse .wrongState .empty (some (.cassette c))
    | some v =>
      checked [(v.phase == .fetching || (v.phase == .waiting && word2 ps 1 != 0), .wrongState)] (some (.cassette c))
        (.done (endLeveling c (commitReference c (word2 ps 1) s)) .ok .empty (some (.cassette c)))

/-- LEVEL_END (R39). -/
def execLevelEnd (ps : List Byte) (s : State) : Outcome := station 0x16 (fixed 3) levelEnd ps s

/-- The leveling session in HOLDING is abandoned when its idle timer expires (R40). -/
def levelingExpiry (s : State) : State :=
  match s.path.holder, s.path.levelingIdle with
  | some (.leveling c), some _ => endLeveling c s
  | _, _ => s

/-- LEVELING_IDLE_EXPIRY (R40). -/
def execLevelingIdleExpiry (s : State) : Outcome := event levelingExpiry s

/-! ### Seat sensors -/

/-- A held or queued order that holds a reservation on the removed cassette fails (R20). -/
def failGone (c : CassetteId) (i : OrderSlot) (s : State) : State :=
  match s.order i with
  | some o =>
    if (o.state = .held ∨ o.state = .queued) ∧ 0 < o.need c then stopOrder i .failed .cassetteGone s else s
  | none => s

/-- The picking order goes ABORTING if it still needs notes from the removed cassette (R20). That its reason is
CASSETTE_GONE also when the attempt which the removal stops is the last that lockdown left the order is the model's
choice: R86 gives such an order LOCKDOWN as its attempt ends, and does not say which yields (log entry 40). -/
def abortGone (c : CassetteId) (s : State) : State :=
  match s.pickingOrder with
  | some (_, o) => if 0 < o.need c then abortPicking .cassetteGone s else s
  | none => s

/-- A pick attempt in flight on the removed cassette is stopped (R20, R85). -/
def stopAttempt (c : CassetteId) (s : State) : State :=
  if s.pickTarget = some c then s.modPath fun p => { p with attempt := none } else s

/-- A leveling session on the removed cassette ends, and a held note is spent (R40). -/
def endGone (c : CassetteId) (s : State) : State :=
  match (s.cassette c).leveling with
  | some _ => endLeveling c s
  | none => s

/-- A cassette is taken out: it goes ABSENT from whatever state it was in (R20). -/
def removeCassette (c : CassetteId) (s : State) : State :=
  (shutNow c (forEach (failGone c) (abortGone c (endGone c (stopAttempt c s))))).modCassette c fun r =>
    { r with state := .absent }

/-- The seat sensor reports the cassette removed; a session that this leaves at rest completes, and the last shutter
of a quiet entry may be shut by it (R20, R104, R183). -/
def cassetteRemoved (c : CassetteId) (s : State) : State :=
  if (s.cassette c).state = .absent then s else completeQuiet (completeSessions (removeCassette c s))

/-- CASSETTE_REMOVED (R20). -/
def execCassetteRemoved (c : CassetteId) (s : State) : Outcome :=
  fieldEvent (fun v => { v with seated := tableSet v.seated c false }) (cassetteRemoved c) s

/-- A cassette seated in an ABSENT slot goes UNCOUNTED (R21). -/
def seatCassette (c : CassetteId) (s : State) : State :=
  if (s.cassette c).state = .absent then
    (shutNow c s).modCassette c fun r => { r with state := .uncounted, value := 0 }
  else s

/-- CASSETTE_SEATED (R21). -/
def execCassetteSeated (c : CassetteId) (s : State) : Outcome :=
  fieldEvent (fun v => { v with seated := tableSet v.seated c true }) (seatCassette c) s

/-! ### Shutters -/

/-- The travel of a shutter ends: OPENING becomes OPEN, where picking may begin, and CLOSING becomes SHUT, which may
complete a quiet entry (R33, R34, R35, R84, R183). -/
def shutterTravelEnd (c : CassetteId) (s : State) : State :=
  let arrived := s.modPath fun p => { p with shutterTravel := tableSet p.shutterTravel c none }
  match (s.cassette c).shutter with
  | .opening => beginAttempt (arrived.modCassette c fun r => { r with shutter := .opened })
  | .closing => completeQuiet (arrived.modCassette c fun r => { r with shutter := .shut })
  | .shut | .opened => s

/-- SHUTTER_TRAVEL_END (R33). -/
def execShutterTravelEnd (c : CassetteId) (s : State) : Outcome := event (shutterTravelEnd c) s

/-- The shutter idle timer expires: every open shutter closes (R34). -/
def shutterIdleExpiry (s : State) : State :=
  match s.path.shutterIdle with
  | some _ => closeShutters (s.modPath fun p => { p with shutterIdle := none })
  | none => s

/-- SHUTTER_IDLE_EXPIRY (R34). -/
def execShutterIdleExpiry (s : State) : Outcome := event shutterIdleExpiry s

end Sys2Proof.Machine
end

