-- ==== Sys2Proof/Machine/Envelopes.lean ====
section
/-! DEFINITION. The envelope, bin and conveyor commands and the events of the conveyor (Chapter 7). -/

namespace Sys2Proof.Machine

/-! ### Envelope commands -/

/-- ENVELOPE READ capture number (R11, R134). -/
def envelopeRead (ps : List Byte) (s : State) : Reply :=
  byCapture s (word4 ps 0) [] fun e =>
    .done (s.modEnvelope e.capture fun r => { r with mark := false }) .ok
      (.bytes (e.bytes s.clock s.conveyor.list)) (some (.envelope e.capture))

/-- ENVELOPE_READ (R134). -/
def execEnvelopeRead (ps : List Byte) (s : State) : Outcome := station 0x30 (fixed 4) envelopeRead ps s

/-- The capture numbers of the marked envelopes, in capture-number order (R13). -/
def State.markedEnvelopes (s : State) : List Nat := (s.custody.envelopes.filter (·.mark)).map (·.capture)

/-- ENVELOPE SCAN: the first twelve marked records, and whether more stand after them (R13). -/
def envelopeScan (_ : List Byte) (s : State) : Reply :=
  .done s .ok (.captures (s.markedEnvelopes.take 12) (12 < s.markedEnvelopes.length)) none

/-- ENVELOPE_SCAN (R13). -/
def execEnvelopeScan (ps : List Byte) (s : State) : Outcome := station 0x31 (fixed 0) envelopeScan ps s

/-- The required length of ENVELOPE ANNOTATE after its code: eight bytes and the reference announced (R173). -/
def annotateLength (ps : List Byte) : Nat := 8 + byteAt ps 7

/-- The declared amount of ENVELOPE ANNOTATE: absent in its reserved value (R180). -/
def declaredOf (v : Nat) : Option Nat := if v = 0xFFFFFF then none else some v

/-- The reference of ENVELOPE ANNOTATE: absent at length 0 (R135, R180). -/
def referenceOf (ps : List Byte) : Option (List Byte) :=
  if byteAt ps 7 = 0 then none else some ((ps.drop 8).take (byteAt ps 7))

/-- ENVELOPE ANNOTATE capture number, declared amount, reference (R135). -/
def envelopeAnnotate (ps : List Byte) (s : State) : Reply :=
  byCapture s (word4 ps 0)
      [((declaredOf (word3 ps 4)).any (fun v => 999999 < v) || 16 < byteAt ps 7, .badParam)] fun e =>
    .done (s.modEnvelope e.capture fun r => { r with declared := declaredOf (word3 ps 4), reference := referenceOf ps })
      .ok .empty (some (.envelope e.capture))

/-- ENVELOPE_ANNOTATE (R135). -/
def execEnvelopeAnnotate (ps : List Byte) (s : State) : Outcome := station 0x32 annotateLength envelopeAnnotate ps s

/-- ENVELOPE RETIRE capture number (R16, R136). -/
def envelopeRetire (ps : List Byte) (s : State) : Reply :=
  checked [(!s.alarm.service, .notService)] none <|
  byCapture s (word4 ps 0) [] fun e =>
    checked [(e.state != .strayed, .wrongState)] (some (.envelope e.capture))
      (.done (removeEnvelope e.capture s) .ok .empty (some (.envelope e.capture)))

/-- ENVELOPE_RETIRE (R136). -/
def execEnvelopeRetire (ps : List Byte) (s : State) : Outcome := station 0x33 (fixed 4) envelopeRetire ps s

/-! ### Bin commands -/

/-- BIN READ (R140). -/
def binRead (_ : List Byte) (s : State) : Reply := .done s .ok (.bins s.binReport) none

/-- BIN_READ (R140). -/
def execBinRead (ps : List Byte) (s : State) : Outcome := station 0x34 (fixed 0) binRead ps s

/-- Every BINNED record is retired, the bin list and the unexpected-arrival counter start afresh, and the capture bin
is COUNTED (R16, R138). -/
def clearBin (s : State) : State :=
  ({ s with custody := { s.custody with
      envelopes := s.custody.envelopes.filter fun (e : Envelope) => e.state != EnvelopeState.binned
      bins := { s.custody.bins with unexpected := 0, captureCounted := true } } }).modConveyor fun c =>
    { c with binList := [] }

/-- The number of BINNED records. -/
def State.binnedCount (s : State) : Nat := (s.custody.envelopes.filter fun e => e.state == EnvelopeState.binned).length

/-- BIN CLEAR (R138). -/
def binClear (_ : List Byte) (s : State) : Reply :=
  checked [(!s.alarm.service, .notService), ((s.zone captureBinDoor).input == .quiet, .wrongState)] none
    (.done (clearBin s) .ok (.cleared s.binnedCount s.custody.bins.unexpected) none)

/-- BIN_CLEAR (R138). -/
def execBinClear (ps : List Byte) (s : State) : Outcome := station 0x35 (fixed 0) binClear ps s

/-! ### The conveyor -/

/-- CONVEYOR RESTART (R131). -/
def conveyorRestart (_ : List Byte) (s : State) : Reply :=
  checked [(s.sup.mode == .enteringQuiet || s.sup.mode == .quiet, .quiet), (s.conveyor.state == .running, .wrongState),
           ((s.zone conveyorHatch).input == .active, .wrongState)] none
    (.done (s.modConveyor fun c => { c with state := .running }) .ok .empty none)

/-- CONVEYOR_RESTART (R131). -/
def execConveyorRestart (ps : List Byte) (s : State) : Outcome := station 0x36 (fixed 0) conveyorRestart ps s

/-- An admission may be made now (R124). -/
def State.mayAdmit (s : State) : Bool :=
  s.oldestIntake.isSome && s.conveyor.state == .running && s.conveyor.list.length < conveyorRoom &&
    s.sup.mode == .active && s.conveyor.spacing.isNone

/-- An envelope in its gate is admitted to the conveyor; a drawer that waits for the gate drops its envelope into it
(R112, R125). -/
def admitEnvelope (e : Envelope) (s : State) : State :=
  let admitted := (s.modEnvelope e.capture fun r => { r with state := .conveying }).modConveyor fun c => { c with
    list := c.list ++ [e.capture]
    transit := if c.list.isEmpty then some transitLimit else c.transit
    spacing := some admissionSpacing
    gatesDriven := [e.lane] }
  if s.drawerWaits e.lane then dropEnvelope e.lane admitted else admitted

/-- The Envelope Conveyor Controller admits the oldest INTAKE record, if an admission may be made (R124, R125). -/
def admission (s : State) : State :=
  match s.oldestIntake with
  | some e => if s.mayAdmit then completeSessions (admitEnvelope e s) else s
  | none => s

/-- ADMISSION (R125). -/
def execAdmission (s : State) : Outcome := event admission s

/-- The admission spacing timer expires (R124). -/
def spacingExpiry (s : State) : State := s.modConveyor fun c => { c with spacing := none }

/-- ADMISSION_SPACING_EXPIRY (R124). -/
def execAdmissionSpacingExpiry (s : State) : Outcome := event spacingExpiry s

/-- A bin arrival that cannot be matched: the counter rises and the ENVELOPES notice is set (R129). -/
def unexpectedArrival (s : State) : State :=
  (s.modBins fun b => { b with unexpected := bump b.unexpected }).raise .envelopes

/-- The head of the conveyor list is BINNED at the next bin position, and the timer starts for the new head (R128). -/
def binHead (n : Nat) (rest : List Nat) (s : State) : State :=
  (s.modEnvelope n fun e => { e with state := .binned, binPosition := some (s.conveyor.binList.length + 1) }).modConveyor
    fun c => { c with list := rest, binList := c.binList ++ [n], transit := transitFor rest }

/-- The bin arrival sensor reports an envelope: matched to the head of the list, or unexpected; during the envelope
path clearance an unmatched arrival is not counted (R128, R129, R139). -/
def binArrival (s : State) : State :=
  match s.conveyor.list with
  | n :: rest =>
    if s.belt then binHead n rest s
    else if s.conveyor.clearance.isSome then s else unexpectedArrival s
  | [] => if s.conveyor.clearance.isSome then s else unexpectedArrival s

/-- BIN_ARRIVAL (R128). -/
def execBinArrival (s : State) : Outcome := event binArrival s

/-- The head of the conveyor list becomes a stray: its record goes STRAYED, the conveyor HALTED, and a new head has its
8 s suspended (R130). -/
def strayHead (n : Nat) (rest : List Nat) (s : State) : State :=
  (s.modEnvelope n fun e => { e with state := .strayed }).modConveyor fun c => { c with
    state := .halted, list := rest, transit := transitFor rest }

/-- The transit timer expires; it runs only while the belt drive is on (R127, R130). -/
def transitExpiry (s : State) : State :=
  match s.conveyor.list, s.conveyor.transit with
  | n :: rest, some _ => if s.belt then strayHead n rest s else s
  | _, _ => s

/-- TRANSIT_TIMER_EXPIRY (R130). -/
def execTransitTimerExpiry (s : State) : Outcome := event transitExpiry s

/-- The envelope path clearance ends: the conveyor is RUNNING with the counter at 0. R139 has its list
empty, because the clearance meets no recorded envelope; the model leaves the list as it is (log entries 17 and 41). -/
def clearanceEnd (s : State) : State :=
  match s.conveyor.clearance with
  | some _ =>
    (s.modConveyor fun c => { c with state := .running, clearance := none }).modBins fun b => { b with unexpected := 0 }
  | none => s

/-- CLEARANCE_END (R139). -/
def execClearanceEnd (s : State) : Outcome := event clearanceEnd s

end Sys2Proof.Machine
end

