-- ==== Sys2Proof/Machine/Lanes.lean ====
section
/-! DEFINITION. The lane commands and the events of the drawers and heads (Chapter 6). -/

namespace Sys2Proof.Machine

/-! ### Sessions -/

/-- SESSION OPEN lane (R102). -/
def sessionOpen (ps : List Byte) (s : State) : Reply :=
  checked s.quietChecks none <|
  param (laneOf (byteAt ps 0)) fun l =>
    checked [(s.alarm.service, .wrongState), (s.lockdown, .lockdown), ((s.lane l).session != .closed, .wrongState),
             ((s.lane l).lock != .none, .laneLocked),
             ((s.lane l).drawer != .closed || (s.lane l).head.isSome || (s.lane l).claim, .wrongState)]
      (some (.lane l))
      (.done (s.modLane l fun r => { r with session := .opened }) .ok .empty (some (.lane l)))

/-- SESSION_OPEN (R102). -/
def execSessionOpen (ps : List Byte) (s : State) : Outcome := station 0x40 (fixed 1) sessionOpen ps s

/-- SESSION CLOSE lane (R103, R104). -/
def sessionClose (ps : List Byte) (s : State) : Reply :=
  checked s.quietChecks none <|
  param (laneOf (byteAt ps 0)) fun l =>
    checked [((s.lane l).session != .opened, .wrongState)] (some (.lane l))
      (.done (completeSessions (closeSession l .sessionClosed s)) .ok .empty (some (.lane l)))

/-- SESSION_CLOSE (R103). -/
def execSessionClose (ps : List Byte) (s : State) : Outcome := station 0x41 (fixed 1) sessionClose ps s

/-! ### Drawer commands -/

/-- The head holds a STAGED order (R105). -/
def State.stagedIn (s : State) (l : LaneId) : Bool :=
  match (s.lane l).head with
  | some i => (s.order i).any fun o => o.state == .staged
  | none => false

/-- The staged bundle moves from the head into the drawer (R106). -/
def loadBundle (l : LaneId) (s : State) : State :=
  match (s.lane l).head with
  | some i =>
    (s.modLane l fun r => { r with head := none, load := some i }).modOrder i fun o =>
      { o with presented := o.acceptedTotal }
  | none => s

/-- The drawer is sent out: the bundle moves into it, the deposit claim is set, and it goes EXTENDING (R106). -/
def sendDrawer (l : LaneId) (m : SendMode) (s : State) : State :=
  let loaded := if m.bundle then loadBundle l s else s
  let claimed := if m.envelope then loaded.modLane l fun r => { r with claim := true } else loaded
  driveDrawer l .extending claimed

/-- DRAWER SEND lane, mode (R105). UNCOUNTED is answered by the bin state alone. That a BIN CLEAR within the envelope path
clearance therefore lets a deposit pass is the model's choice: R139 has it refused UNCOUNTED until the clearance ends,
by R137, which makes the bin COUNTED at BIN CLEAR (log entry 41). -/
def drawerSend (ps : List Byte) (s : State) : Reply :=
  checked s.quietChecks none <|
  param (laneOf (byteAt ps 0)) fun l =>
  param (sendModeOf (byteAt ps 1)) fun m =>
    checked [(s.lockdown, .lockdown), ((s.lane l).session != .opened, .noSession),
             ((s.lane l).lock != .none, .laneLocked),
             ((s.lane l).drawer != .closed || (s.lane l).claim, .wrongState),
             (m.bundle && !s.stagedIn l, .wrongState),
             (m.envelope && !s.custody.bins.captureCounted, .uncounted),
             (m.envelope && captureRoom ≤ s.budget, .captureFull)] (some (.lane l))
      (.done (sendDrawer l m s) .ok .empty (some (.lane l)))

/-- DRAWER_SEND (R105). -/
def execDrawerSend (ps : List Byte) (s : State) : Outcome := station 0x42 (fixed 2) drawerSend ps s

/-- DRAWER RECALL lane (R109). -/
def drawerRecall (ps : List Byte) (s : State) : Reply :=
  checked s.quietChecks none <|
  param (laneOf (byteAt ps 0)) fun l =>
    checked [((s.lane l).drawer == .closed || (s.lane l).drawer == .jammed, .wrongState)] (some (.lane l))
      (.done (recallCause l .drawerRecall s) .ok .empty (some (.lane l)))

/-- DRAWER_RECALL (R109). -/
def execDrawerRecall (ps : List Byte) (s : State) : Outcome := station 0x43 (fixed 1) drawerRecall ps s

/-! ### Reading and clearing -/

/-- LANE READ lane (R11, R101). -/
def laneRead (ps : List Byte) (s : State) : Reply :=
  param (laneOf (byteAt ps 0)) fun l =>
    .done (s.modLane l fun r => { r with mark := false }) .ok (.lane (s.laneReport l)) (some (.lane l))

/-- LANE_READ (R101). -/
def execLaneRead (ps : List Byte) (s : State) : Outcome := station 0x44 (fixed 1) laneRead ps s

/-- LANE READ ALL (R14). -/
def laneReadAll (_ : List Byte) (s : State) : Reply := .done s .ok (.lanes s.laneSummaries) none

/-- LANE_READ_ALL (R14). -/
def execLaneReadAll (ps : List Byte) (s : State) : Outcome := station 0x45 (fixed 0) laneReadAll ps s

/-- A jammed drawer is cleared by the limit switch that reported last: CLOSED at the inner one, driven home from the
outer one; a lock of JAM becomes NONE (R118). The jam limit note becomes none with the jam it belongs to: section 6.1
has it become none when a drawer goes JAMMED and R118 does not say what LANE CLEAR leaves in it, so this is the model's
choice (log entry 37). -/
def clearLane (l : LaneId) (n : LimitNote) (s : State) : State :=
  let moved :=
    match n with
    | .inner => standDrawer l .closed s
    | .outer => driveDrawer l .retracting s
  (moved.modLane l fun r => { r with lock := if r.lock = .jam then .none else r.lock }).modWork l fun w =>
    { w with jamNote := none }

/-- LANE CLEAR lane (R118). -/
def laneClear (ps : List Byte) (s : State) : Reply :=
  checked (s.restChecks ++ [(!s.alarm.service, .notService)]) none <|
  param (laneOf (byteAt ps 0)) fun l =>
    match (s.lane l).drawer, (s.laneWork l).jamNote with
    | .jammed, some n => .done (clearLane l n s) .ok .empty (some (.lane l))
    | _, _ => .refuse .wrongState .empty (some (.lane l))

/-- LANE_CLEAR (R118). -/
def execLaneClear (ps : List Byte) (s : State) : Outcome := station 0x46 (fixed 1) laneClear ps s

/-! ### The limit switches -/

/-- The bundle of a drawer at its outer limit is presented (R107). -/
def presentBundle (l : LaneId) (s : State) : State :=
  match (s.lane l).load with
  | some i =>
    s.modOrder i fun o =>
      if o.state = .staged then
        { o with state := .presented, presentDeadline := some (s.clock + s.custody.settings.presentLimit) }
      else o
  | none => s

/-- The outer limit switch reports (R107, R118). -/
def outerLimit (l : LaneId) (b : BundleReport) (s : State) : State :=
  match (s.lane l).drawer with
  | .extending =>
    let opened := presentBundle l (standDrawer l .opened s)
    match (s.laneWork l).pendingRecall with
    | some c => recallDrawer l c.reason opened
    | none =>
      if (s.lane l).load.isSome ∧ b = .empty then opened.modWork l fun w => { w with clearingDue := true } else opened
  | .jammed => s.modWork l fun w => { w with jamNote := some .outer }
  | .closed | .opened | .retracting => s

/-- OUTER_LIMIT (R107). -/
def execOuterLimit (l : LaneId) (b : BundleReport) (s : State) : Outcome :=
  fieldEvent (fun v => { v with limits := tableSet v.limits l .outer }) (outerLimit l b) s

/-- The inner limit switch reports: the drawer is CLOSED, its bundle ends by the count, its envelope is handled, and
the session may complete (R104, R111, R112, R118). -/
def innerLimit (l : LaneId) (e : EnvelopeReport) (s : State) : State :=
  match (s.lane l).drawer with
  | .retracting => completeSessions (takeEnvelope l e (endRecall l (standDrawer l .closed s)))
  | .jammed => s.modWork l fun w => { w with jamNote := some .inner }
  | .closed | .extending | .opened => s

/-- INNER_LIMIT (R111). -/
def execInnerLimit (l : LaneId) (e : EnvelopeReport) (s : State) : Outcome :=
  fieldEvent (fun v => { v with limits := tableSet v.limits l .inner, envelopes := tableSet v.envelopes l e })
    (innerLimit l e) s

/-! ### Taking, dumping and jamming -/

/-- A PRESENTED bundle is taken whole (R67). -/
def Order.takenWhole (o : Order) : Order := { o with state := .taken, taken := o.presented, retracted := 0 }

/-- The bundle sensor reports an OPEN drawer empty: the PRESENTED order is TAKEN, and the drawer comes home unless it
waits for an envelope (R67, R114). -/
def bundleClears (l : LaneId) (s : State) : State :=
  match (s.lane l).drawer, (s.lane l).load with
  | .opened, some i =>
    if (s.order i).any (fun o => o.state == .presented) then
      let emptied := ((endOrder i Order.takenWhole s).modLane l fun r => { r with load := none }).modWork l fun w =>
        { w with clearingDue := false }
      if (s.lane l).claim then emptied else driveDrawer l .retracting emptied
    else s
  | _, _ => s

/-- BUNDLE_SENSOR_CLEARS (R114). -/
def execBundleSensorClears (l : LaneId) (s : State) : Outcome := event (bundleClears l) s

/-- The dump run of a head expires: the order's figures and final state are set, the head becomes empty, and the
session may complete (R68, R104, R113). -/
def dumpExpiry (l : LaneId) (s : State) : State :=
  match (s.laneWork l).dump, (s.lane l).head with
  | some _, some i =>
    completeSessions (((endOrder i Order.endPurge s).modLane l fun r => { r with head := none }).modWork l fun w =>
      { w with dump := none })
  | _, _ => s

/-- DUMP_RUN_EXPIRY (R113). -/
def execDumpRunExpiry (l : LaneId) (s : State) : Outcome := event (dumpExpiry l) s

/-- An order fails with its bundle in a jammed drawer: what was presented and not counted back is unresolved (R69). -/
def Order.drawerJammed (o : Order) : Order :=
  { o with state := .failed, reason := some .drawerJam, unresolved := o.presented - o.retracted }

/-- The order in the drawer load of a drawer that jams fails, and the load becomes empty (R69, R115). -/
def jamLoad (l : LaneId) (s : State) : State :=
  match (s.lane l).load with
  | some i => endOrder i Order.drawerJammed (s.modLane l fun r => { r with load := none })
  | none => s

/-- A drawer goes JAMMED: its drive stops, its claim and its pending recall are cleared, and its lock becomes JAM if it
was NONE (R115). -/
def jamDrawer (l : LaneId) (s : State) : State :=
  ((standDrawer l .jammed (jamLoad l s)).modLane l fun r =>
      { r with claim := false, lock := if r.lock = .none then .jam else r.lock }).modWork l fun w =>
    { w with pendingRecall := none, jamNote := none }

/-- The drawer travel limit expires (R115). -/
def travelExpiry (l : LaneId) (s : State) : State :=
  match (s.lane l).drawer with
  | .extending | .retracting => completeSessions (jamDrawer l s)
  | .closed | .opened | .jammed => s

/-- DRAWER_TRAVEL_LIMIT_EXPIRY (R115). -/
def execDrawerTravelLimitExpiry (l : LaneId) (s : State) : Outcome := event (travelExpiry l) s

end Sys2Proof.Machine
end

