-- ==== Sys2Proof/Machine/NotePath.lean ====
section
/-! DEFINITION. The transport commands and the events of the note path: the grant, the gauge, the pick window, routing,
purging and the retract edge counter (Chapter 5). -/

namespace Sys2Proof.Machine

/-! ### Commands -/

/-- TRANSPORT READ (R77). -/
def transportRead (_ : List Byte) (s : State) : Reply := .done s .ok (.transport s.transportReport) none

/-- TRANSPORT_READ (R77). -/
def execTransportRead (ps : List Byte) (s : State) : Outcome := station 0x50 (fixed 0) transportRead ps s

/-- A jammed transport becomes FREE, its jam record is discarded and the stacker notes are read afresh; the shutter idle
timer is left as it is (R93). -/
def clearTransport (s : State) : State :=
  readStacker (s.modPath fun p => { p with state := .free, holder := none, jam := none })

/-- TRANSPORT CLEAR (R93). -/
def transportClear (_ : List Byte) (s : State) : Reply :=
  checked (s.restChecks ++ [(!s.alarm.service, .notService), (s.path.state != .jammed, .wrongState)]) none
    (.done (clearTransport s) .ok .empty none)

/-- TRANSPORT_CLEAR (R93). -/
def execTransportClear (ps : List Byte) (s : State) : Outcome := station 0x51 (fixed 0) transportClear ps s

/-- The retract and reject bins are empty and COUNTED, and the reject pause is evaluated again (R82, R99). -/
def emptyBins (s : State) : State :=
  evalPause (s.modBins fun b => { b with
    retractCount := 0, rejectCount := 0, retractCounted := true, rejectCounted := true })

/-- BINS EMPTIED (R99). -/
def binsEmptied (_ : List Byte) (s : State) : Reply :=
  checked (s.restChecks ++ [(!s.alarm.service, .notService)]) none (.done (emptyBins s) .ok .empty none)

/-- BINS_EMPTIED (R99). -/
def execBinsEmptied (ps : List Byte) (s : State) : Outcome := station 0x52 (fixed 0) binsEmptied ps s

/-! ### The arbiter -/

/-- A grant may be made (R79); an order claim needs the part out of service mode besides. -/
def State.mayGrant (s : State) : Bool :=
  s.path.state == .free && s.sup.mode == .active && !s.lockdown && !s.path.rejectPause

/-- The claim may be granted in the present mode of service (R79). -/
def State.serves (s : State) : Claim → Bool
  | .leveling _ => true
  | .order _ => !s.alarm.service

/-- The claim the arbiter grants: the oldest grantable one in the queue (R80). -/
def State.grantee (s : State) : Option Claim :=
  if s.mayGrant then s.path.queue.find? fun c => s.grantable c && s.serves c else none

/-- The first entry of a mix list whose accepted so far is below its count (R81, R84). -/
def Order.nextEntry (o : Order) : Option Nat := o.mix.findIdx? fun e => e.accepted < e.count

/-- The transport takes a holder: the claim leaves the queue and the shutter idle timer stops (R81). -/
def takeTransport (c : Claim) (st : PathState) (entry : Option Nat) (s : State) : State :=
  (dropClaim c s).modPath fun p => { p with
    state := st, holder := some c, entry := entry, misses := 0, shutterIdle := none }

/-- An order claim is granted: the order goes PICKING with its first entry, and the shutters of its cassettes open
(R33, R81). -/
def grantOrder (i : OrderSlot) (o : Order) (s : State) : State :=
  forEach (fun c s => if 0 < o.need c then openShutter c s else s)
    (takeTransport (.order i) .picking o.nextEntry (s.modOrder i fun o => { o with state := .picking }))

/-- A leveling claim is granted: the session goes to FETCHING and the shutter of its cassette opens (R33, R37, R81). -/
def grantLeveling (c : CassetteId) (s : State) : State :=
  openShutter c (takeTransport (.leveling c) .leveling none (s.modCassette c fun r => { r with
    leveling := r.leveling.map fun v => { v with phase := .fetching } }))

/-- The arbiter grants the oldest grantable claim, if a grant may be made (R79 to R81). -/
def grant (s : State) : State :=
  match s.grantee with
  | some (.order i) =>
    match s.order i with
    | some o => beginAttempt (grantOrder i o s)
    | none => s
  | some (.leveling c) => beginAttempt (grantLeveling c s)
  | none => s

/-- GRANT (R81). -/
def execGrant (s : State) : Outcome := event grant s

/-! ### The gauge -/

/-- The classes of a picked note (R88). -/
inductive GaugeClass where
  | thin
  | single
  | double
  | multiple
deriving DecidableEq, Repr

/-- The class of a note with reading g from a cassette with thickness reference t (R88). -/
def classify (g t : Nat) : GaugeClass :=
  if 2 * g < t then .thin
  else if g = 1023 ∨ 5 * t ≤ 2 * g then .multiple
  else if 2 * g < 3 * t then .single
  else .double

/-- The estimate of notes in a reject (R88). -/
def GaugeClass.estimate : GaugeClass → Nat
  | .thin => 1
  | .single => 0
  | .double => 2
  | .multiple => 3

/-- The attempt in flight ends with a note at the gauge: the miss count becomes 0 (R85). -/
def noteArrived (toReject : Bool) (s : State) : State :=
  s.modPath fun p => { p with attempt := none, misses := 0, rejectDiverter := toReject }

/-- A single is accepted: the cassette's counts and the accepted so far of entry k change (R25, R88). -/
def acceptNote (i : OrderSlot) (k : Nat) (c : CassetteId) (s : State) : State :=
  (s.modCassette c fun r => { r.lower 1 with accepted := r.accepted + 1, reserved := r.reserved - 1 }).modOrder i
    fun o => { o with mix := o.mix.modify k fun e => { e with accepted := e.accepted + 1 } }

/-- The order's mix is complete: it goes ROUTING, the bundle leaves the stacker and the route limit starts (R90). -/
def startRouting (i : OrderSlot) (l : LaneId) (s : State) : State :=
  (s.modOrder i fun o => { o with state := .routing }).modPath fun p => { p with
    state := .routing, entry := none, misses := 0, attempt := none, run := some routeLimit, stackerNotes := 0,
    routeDiverter := .head l }

/-- After an acceptance the order picks on, at its first incomplete entry, or routes (R84, R90). -/
def pickOn (i : OrderSlot) (s : State) : State :=
  match s.order i with
  | some o =>
    match o.nextEntry with
    | some k => beginAttempt (s.modPath fun p => { p with entry := some k, misses := 0 })
    | none => startRouting i o.lane s
  | none => s

/-- A note is rejected for an order: the debit, the reject bin, the order's reject figures, the rejects limit and the
SHORT cascade, in this order (R26, R89). -/
def rejectNote (i : OrderSlot) (c : CassetteId) (estimate : Nat) (s : State) : State :=
  let debit := min estimate (s.cassette c).current
  let debited := addRejects debit (s.modCassette c fun r => { r.lower debit with rejectNotes := r.rejectNotes + debit })
  let counted := debited.modOrder i fun o => { o with
    rejectItems := o.rejectItems + 1, rejectNotes := o.rejectNotes + debit }
  let limited :=
    match counted.order i with
    | some o => if o.rejectItems = s.custody.settings.maxRejects then abortPicking .rejects counted else counted
    | none => counted
  shortCascade c limited

/-- A note reaches the gauge for the order being picked (R86, R88, R89). -/
def gaugeOrder (i : OrderSlot) (k : Nat) (e : MixEntry) (a : Attempt) (g : Nat) (s : State) : State :=
  match classify g (s.cassette e.slot).reference with
  | .single =>
    let accepted := acceptNote i k e.slot (noteArrived false s)
    if a.last then abortPicking .lockdown accepted else pickOn i accepted
  | cls =>
    let rejected := rejectNote i e.slot cls.estimate (noteArrived true s)
    if a.last then abortPicking .lockdown rejected else beginAttempt rejected

/-- A note reaches the gauge for a leveling session and is held (R37, R40). -/
def gaugeLeveling (c : CassetteId) (a : Attempt) (g : Nat) (s : State) : State :=
  let held := (s.modCassette c fun r => { r with
    leveling := r.leveling.map fun v => { v with phase := .holding } }).modPath fun p => { p with
      attempt := none, misses := 0, heldReading := some g, levelingIdle := some levelingIdleTime }
  if a.last then endLeveling c held else held

/-- A picked note arrives at the gauge from the attempt in flight (R37, R85, R88). Without one it arrives from no
attempt and nothing comes of it (log entry 16). -/
def noteAtGauge (g : Nat) (s : State) : State :=
  match s.path.attempt with
  | none => s
  | some a =>
    match s.pickingOrder, s.path.entry with
    | some (i, o), some k =>
      match o.mix[k]? with
      | some e => completeSessions (gaugeOrder i k e a g s)
      | none => s
    | _, _ =>
      match s.path.state, s.pickTarget with
      | .leveling, some c => gaugeLeveling c a g s
      | _, _ => s

/-- NOTE_REACHES_GAUGE (R88). In phase SETTLE it is not acted on (R182), but the note stands at the gauge, and recovery
finds it there (R41; log entry 4). -/
def execNoteReachesGauge (g : Reading) (s : State) : Outcome :=
  if s.sup.phase = some .settle then .next (s.modLevels fun v => { v with gaugeNote := true })
  else event (noteAtGauge g.val) s

/-! ### The pick window -/

/-- The attempt in flight is over. -/
def attemptOver (s : State) : State := s.modPath fun p => { p with attempt := none }

/-- An attempt for the order ends as a miss: the third in a row writes the cassette off (R27, R85). -/
def missOrder (c : CassetteId) (s : State) : State :=
  if s.path.misses = 2 then shortCascade c (writeOff c (attemptOver s))
  else beginAttempt ((attemptOver s).modPath fun p => { p with misses := p.misses + 1 })

/-- An attempt of a leveling session ends as a miss: the third in a row writes the cassette off and ends the session
(R37, R40). The count of R37 is kept in the miss count of the transport, so TRANSPORT READ shows it in LEVELING (log
entry 36). -/
def missLeveling (c : CassetteId) (s : State) : State :=
  if s.path.misses = 2 then endLeveling c (writeOff c (attemptOver s))
  else beginAttempt ((attemptOver s).modPath fun p => { p with misses := p.misses + 1 })

/-- The pick window of the attempt in flight expires with no note (R37, R40, R85, R86). -/
def pickWindowExpiry (s : State) : State :=
  match s.path.attempt with
  | none => s
  | some a =>
    match s.path.state, s.pickTarget with
    | .picking, some c =>
      completeSessions (if a.last then abortPicking .lockdown (attemptOver s) else missOrder c s)
    | .leveling, some c =>
      if a.last then endLeveling c (attemptOver s)
      else if a.noMiss then beginAttempt (attemptOver s)
      else missLeveling c s
    | _, _ => s

/-- PICK_WINDOW_EXPIRY (R85). -/
def execPickWindowExpiry (s : State) : Outcome := event pickWindowExpiry s

/-! ### The stacker -/

/-- The stacker notes follow the stacker count input (R76). -/
def stackerReport (n : Nat) (s : State) : State := s.modPath fun p => { p with stackerNotes := n }

/-- STACKER_COUNT_REPORT (R76). -/
def execStackerCountReport (n : Nat) (s : State) : Outcome :=
  fieldEvent (fun v => { v with stacker := n }) (stackerReport n) s

/-! ### Routing -/

/-- Why a bundle that arrives is not staged: the cause that closed the session, or lockdown (R91). -/
def State.arrivalReason (s : State) (l : LaneId) : Option Reason :=
  match (s.lane l).session with
  | .closing c => some c.reason
  | .closed => some .sessionClosed
  | .opened => if s.lockdown then some .lockdown else none

/-- The routed bundle arrives at its lane's head: the transport is released, the head holds the order, and the order is
STAGED or dumped (R90, R91). -/
def bundleArrives (i : OrderSlot) (l : LaneId) (s : State) : State :=
  let arrived := (releaseTransport s).modLane l fun r => { r with head := some i }
  match s.arrivalReason l with
  | some r => dumpHead l i r arrived
  | none => arrived.modOrder i fun o => { o with state := .staged }

/-- A head arrival sensor reports (R90 to R92). -/
def headArrival (l : LaneId) (s : State) : State :=
  match s.path.state, s.path.holder with
  | .routing, some (.order i) =>
    match s.order i with
    | some o => if o.lane = l then bundleArrives i l s else s
    | none => s
  | .jammed, _ =>
    match s.path.jam with
    | some j => if j.lane = l then s.modPath fun p => { p with jam := some { j with late := true } } else s
    | none => s
  | _, _ => s

/-- HEAD_ARRIVAL (R90). -/
def execHeadArrival (l : LaneId) (s : State) : Outcome := event (headArrival l) s

/-- The route limit expires: the order fails with TRANSPORT_JAM and the transport goes JAMMED (R69, R92). -/
def routeExpiry (s : State) : State :=
  match s.path.state, s.path.holder with
  | .routing, some (.order i) =>
    match s.order i with
    | some o =>
      completeSessions ((releaseTransport (endOrder i (fun o => { o with
        state := .failed, reason := some .transportJam, unresolved := o.acceptedTotal }) s)).modPath fun p => { p with
          state := .jammed, jam := some { lane := o.lane, late := false } })
    | none => s
  | _, _ => s

/-- ROUTE_LIMIT_EXPIRY (R92). -/
def execRouteLimitExpiry (s : State) : Outcome := event routeExpiry s

/-! ### Purging -/

/-- The purge run of an aborted order expires: its figures and final state are set and the transport is released with
the stacker notes read afresh (R68, R94). The start-up purge ends with start-up instead (R188). -/
def purgeExpiry (s : State) : State :=
  match s.path.state, s.path.holder, s.path.run with
  | .purging, some (.order i), some _ =>
    completeSessions (readStacker (releaseTransport (endOrder i Order.endPurge s)))
  | _, _, _ => s

/-- PURGE_RUN_EXPIRY (R94). -/
def execPurgeRunExpiry (s : State) : Outcome := event purgeExpiry s

/-- An edge at the transport entry counts for the order being purged, up to its accepted total (R94, R95, R188). -/
def transportEdge (s : State) : State :=
  match s.path.state, s.path.holder with
  | .purging, some (.order i) => countEdge i Order.acceptedTotal s
  | _, _ => s

/-- An edge at a lane's chute counts for the order whose head is being dumped, up to its accepted total; else for the
order a returning drawer carries, up to its presented figure (R110, R113). -/
def chuteEdge (l : LaneId) (s : State) : State :=
  match (s.laneWork l).dump, (s.lane l).head with
  | some _, some i => countEdge i Order.acceptedTotal s
  | _, _ =>
    match (s.lane l).drawer, (s.lane l).load with
    | .retracting, some i => countEdge i Order.presented s
    | _, _ => s

/-- The retract edge counter reports an edge at one of its entries (R94, R110, R113). -/
def retractEdge (e : RetractEntry) (s : State) : State :=
  match e with
  | .transport => transportEdge s
  | .chute l => chuteEdge l s

/-- RETRACT_EDGE (R110). -/
def execRetractEdge (e : RetractEntry) (s : State) : Outcome := event (retractEdge e) s

end Sys2Proof.Machine
end

