-- ==== Sys2Proof/Machine/Zones.lean ====
section
/-! DEFINITION. The zone, alarm and service commands and the events of the zone inputs and the key line (Chapter 8). -/

namespace Sys2Proof.Machine

/-! ### Reading and configuring -/

/-- ZONE READ zone (R11, R142). -/
def zoneRead (ps : List Byte) (s : State) : Reply :=
  param (zoneOf (byteAt ps 0)) fun z =>
    .done (s.modZone z fun r => { r with mark := false }) .ok (.zone (s.zoneReport z)) (some (.zone z))

/-- ZONE_READ (R142). -/
def execZoneRead (ps : List Byte) (s : State) : Outcome := station 0x60 (fixed 1) zoneRead ps s

/-- ZONE READ ALL (R14, R142). -/
def zoneReadAll (_ : List Byte) (s : State) : Reply := .done s .ok (.zones s.zoneSummaries s.alarmStatus) none

/-- ZONE_READ_ALL (R142). -/
def execZoneReadAll (ps : List Byte) (s : State) : Outcome := station 0x61 (fixed 0) zoneReadAll ps s

/-- The lane of ZONE SET: 1 to 4 on a kind that has a lane, no lane (0) on any other (R143, R180). -/
def zoneLaneOf (z : ZoneId) (v : Nat) : Option (Option LaneId) :=
  if laneKind z then (laneOf v).map some else if v = 0 then some none else none

/-- The configuration of a zone, written by ZONE SET; its state is set afresh from its bypass (R143). -/
def Zone.configure (g : Group) (r : Response) (l : Option LaneId) (delay : Nat) (bypassed : Bool) (x : Zone) : Zone :=
  { x with group := g, response := r, lane := l, entryDelay := delay, state := if bypassed then .bypassed else .normal }

/-- ZONE SET zone, group, response, lane, delay (R143). -/
def zoneSet (ps : List Byte) (s : State) : Reply :=
  checked [(!s.alarm.service, .notService)] none <|
  param (zoneOf (byteAt ps 0)) fun z =>
  param (groupOf (byteAt ps 1)) fun g =>
  param (responseOf (byteAt ps 2)) fun r =>
  param (zoneLaneOf z (byteAt ps 3)) fun l =>
    checked [(r == .laneLock && l.isNone, .badParam)] none <|
    checked [((s.zone z).state == .delay || (s.zone z).state == .latched, .wrongState),
             (s.groupArmed g && !s.bypassed z && (s.zone z).input == .active, .wrongState)] (some (.zone z))
      (.done (s.modZone z (Zone.configure g r l (clamp 0 60 (byteAt ps 4)) (s.bypassed z)))
        (if 60 < byteAt ps 4 then .clamped else .ok) .empty (some (.zone z)))

/-- ZONE_SET (R143). -/
def execZoneSet (ps : List Byte) (s : State) : Outcome := station 0x62 (fixed 5) zoneSet ps s

/-! ### Arming -/

/-- The DAY or NIGHT group of ARM and DISARM; ALWAYS has no flag (R145, R146). -/
def armGroupOf (v : Nat) : Option Group :=
  match groupOf v with
  | some .day => some .day
  | some .night => some .night
  | some .always => none
  | none => none

/-- The armed flag of a group. -/
def setArmed (g : Group) (b : Bool) (s : State) : State :=
  match g with
  | .day => { s with custody := { s.custody with dayArmed := b } }
  | .night => { s with custody := { s.custody with nightArmed := b } }
  | .always => s

/-- ARM group (R145). -/
def armCommand (ps : List Byte) (s : State) : Reply :=
  param (armGroupOf (byteAt ps 0)) fun g =>
    match s.firstZone fun z r => r.group == g && !s.bypassed z && r.input == .active with
    | some z => .refuse .wrongState (.bytes (byte1 (z.val + 1))) none
    | none => .done (setArmed g true s) .ok .empty none

/-- ARM (R145). -/
def execArm (ps : List Byte) (s : State) : Outcome := station 0x63 (fixed 1) armCommand ps s

/-- A zone of a group that is disarmed: a delay ends, and a manual bypass is cleared (R146). -/
def disarmZone (g : Group) (z : ZoneId) (s : State) : State :=
  if (s.zone z).group = g then
    (if (s.zone z).state = .delay then stopDelay z s else s).modZone z fun r => { r with
      manualBypass := false
      state :=
        if r.state = .delay then .normal
        else if r.state = .bypassed ∧ r.manualBypass = true ∧ (s.alarm.service && serviceKind z) = false then .normal
        else r.state }
  else s

/-- DISARM group (R146). -/
def disarmCommand (ps : List Byte) (s : State) : Reply :=
  param (armGroupOf (byteAt ps 0)) fun g =>
    .done (forEach (disarmZone g) (setArmed g false s)) .ok .empty none

/-- DISARM (R146). -/
def execDisarm (ps : List Byte) (s : State) : Outcome := station 0x64 (fixed 1) disarmCommand ps s

/-- BYPASS zone (R150). -/
def bypassCommand (ps : List Byte) (s : State) : Reply :=
  checked [(!s.alarm.service, .notService)] none <|
  param (zoneOf (byteAt ps 0)) fun z =>
    checked [((s.zone z).state == .delay || (s.zone z).state == .latched, .wrongState)] (some (.zone z))
      (.done (s.modZone z fun r => { r with manualBypass := true, state := .bypassed }) .ok .empty (some (.zone z)))

/-- BYPASS (R150). -/
def execBypass (ps : List Byte) (s : State) : Outcome := station 0x65 (fixed 1) bypassCommand ps s

/-! ### Reset and silence -/

/-- ALARM RESET zone, checked in the sequence of R151. A refusal NOT_SERVICE is no ACCESS (log entry 18). A refusal
WRONG_STATE because the zone is not LATCHED gives ACCESS, out of service mode too: R151 makes that check before the
service requirement, and R163 does not say which side of it such a refusal stands on (log entry 18). -/
def alarmReset (ps : List Byte) (s : State) : Reply :=
  param (zoneOf (byteAt ps 0)) fun z =>
    checked [((s.zone z).state != .latched, .wrongState)] (some (.zone z)) <|
    checked [(((s.zone z).response == .lockdown || (s.zone z).group == .always) && !s.alarm.service, .notService)] none <|
    checked [((s.zone z).input == .active, .wrongState),
             ((s.zone z).group != .always && s.groupArmed (s.zone z).group, .wrongState)] (some (.zone z))
      (.done (unlatch z s) .ok .empty (some (.zone z)))

/-- ALARM_RESET (R151). -/
def execAlarmReset (ps : List Byte) (s : State) : Outcome := station 0x66 (fixed 1) alarmReset ps s

/-- ALARM SILENCE (R152). -/
def alarmSilence (_ : List Byte) (s : State) : Reply :=
  .done (s.modAlarm fun a => { a with siren := false }) .ok .empty none

/-- ALARM_SILENCE (R152). -/
def execAlarmSilence (ps : List Byte) (s : State) : Outcome := station 0x67 (fixed 0) alarmSilence ps s

/-! ### Service mode -/

/-- The shutter of the leveling claim that holds the transport, in FETCHING or in HOLDING, is reopened if SERVICE ENTER
has closed it, and the window of an attempt in flight counts no miss (R33, R37, R84). `before` is the state SERVICE ENTER
found: a shutter that was CLOSING or SHUT in it, as lockdown leaves one, was not closed by SERVICE ENTER and is left
(R35). The reopening in the same event is the model's reading (log entry 26). -/
def reopenLeveling (before s : State) : State :=
  match before.path.state, before.path.holder with
  | .leveling, some (.leveling c) =>
    if (before.cassette c).shutter = .opened ∨ (before.cassette c).shutter = .opening then
      openShutter c (s.modPath fun p => { p with attempt := p.attempt.map fun a => { a with noMiss := true } })
    else s
  | _, _ => s

/-- The part enters service mode (R35, R84, R156). -/
def enterService (s : State) : State :=
  reopenLeveling s (closeShutters (forEach enterServiceZone (s.modAlarm fun a => { a with service := true })))

/-- SERVICE ENTER (R156). -/
def serviceEnter (_ : List Byte) (s : State) : Reply :=
  checked (s.quietChecks ++
      [(s.alarm.service, .wrongState), (!s.alarm.key, .wrongState),
       (tableAny (fun r => r.session != .closed) s.custody.lanes, .wrongState),
       (s.anyOrder (fun o => o.state.moving), .wrongState)]) none
    (.done (enterService s) .ok .empty none)

/-- SERVICE_ENTER (R156). -/
def execServiceEnter (ps : List Byte) (s : State) : Outcome := station 0x68 (fixed 0) serviceEnter ps s

/-- SERVICE EXIT (R157). -/
def serviceExit (_ : List Byte) (s : State) : Reply :=
  checked [(!s.alarm.service, .notService)] none <|
    match s.firstZone fun z r => serviceKind z && r.input == .active with
    | some z => .refuse .wrongState (.bytes (byte1 (z.val + 1))) none
    | none => .done (completeSessions (endService s)) .ok .empty none

/-- SERVICE_EXIT (R157). -/
def execServiceExit (ps : List Byte) (s : State) : Outcome := station 0x69 (fixed 0) serviceExit ps s

/-! ### Events -/

/-- The filter reports a zone input: the input field is set, and an ACTIVE report to an armed zone in NORMAL that is not
bypassed is an activation (R144, R147). -/
def zoneReported (z : ZoneId) (level : ZoneInput) (s : State) : State :=
  let reported := s.modZone z fun r => { r with input := level }
  if level = .active then completeSessions (activateIfOpen z reported) else reported

/-- ZONE_INPUT_REPORT (R144). -/
def execZoneInputReport (z : ZoneId) (level : ZoneInput) (s : State) : Outcome :=
  fieldEvent (fun v => { v with zones := tableSet v.zones z level }) (zoneReported z level) s

/-- The entry delay of a zone expires and the zone latches (R148). -/
def delayExpiry (z : ZoneId) (s : State) : State :=
  if (s.zone z).state = .delay then completeSessions (latch z s) else s

/-- ENTRY_DELAY_EXPIRY (R148). -/
def execEntryDelayExpiry (z : ZoneId) (s : State) : Outcome := event (delayExpiry z) s

/-- The filter reports the key line: a drop in service mode ends service mode without the check (R158). -/
def keyReported (asserted : Bool) (s : State) : State :=
  let reported := s.modAlarm fun a => { a with key := asserted }
  if asserted = false ∧ s.alarm.service = true then completeSessions (endService reported) else reported

/-- KEY_LINE_REPORT (R158). -/
def execKeyLineReport (asserted : Bool) (s : State) : Outcome :=
  fieldEvent (fun v => { v with key := asserted }) (keyReported asserted) s

end Sys2Proof.Machine
end

