-- ==== Sys2Proof/Machine/Power.lean ====
section
/-! DEFINITION. The Supervisor: quiet entry and exit, power-on and the reset line, the recovery event and the end of
start-up (Chapter 11). -/

namespace Sys2Proof.Machine

/-! ### Quiet -/

/-- The checks of QUIET ENTER after those of the mode, in the sequence of R183. -/
def State.restingChecks (s : State) : List (Bool × ResultCode) :=
  [(s.sup.quietDwell.isSome, .tooSoon),
   (s.alarm.service, .wrongState),
   (tableAny (fun r => r.session != .closed) s.custody.lanes, .wrongState),
   (s.anyOrder (fun o => o.state.moving), .wrongState),
   (tableAny (fun r => (r.drawer != .closed && r.drawer != .jammed) || r.claim) s.custody.lanes, .wrongState),
   (s.custody.envelopes.any (fun e => e.state == .intake || e.state == .conveying), .wrongState),
   (s.conveyor.clearance.isSome, .wrongState),
   (s.path.state != .free || !s.path.queue.isEmpty ||
      tableAny (fun r => r.state == .leveling) s.custody.cassettes, .wrongState)]

/-- Quiet entry begins: the shutter idle timer stops and every shutter closes; with every shutter SHUT already it ends
in the same event (R35, R183). -/
def enterQuiet (s : State) : State :=
  completeQuiet (closeShutters ((s.modSup fun u => { u with mode := .enteringQuiet }).modPath fun p =>
    { p with shutterIdle := none }))

/-- QUIET ENTER (R183). -/
def quietEnter (_ : List Byte) (s : State) : Reply :=
  match s.sup.mode with
  | .enteringQuiet | .quiet => .done s .ok .empty none
  | .waking => .refuse .waking .empty none
  | .starting | .active => checked s.restingChecks none (.done (enterQuiet s) .ok .empty none)

/-- QUIET_ENTER (R183). -/
def execQuietEnter (ps : List Byte) (s : State) : Outcome := station 0x0A (fixed 0) quietEnter ps s

/-- The part wakes: the rails go ON and the rail settle starts (R184). -/
def wake (s : State) : State :=
  s.modSup fun u => { u with mode := .waking, rails := true, railSettle := some railSettleTime }

/-- QUIET EXIT (R184). -/
def quietExit (_ : List Byte) (s : State) : Reply :=
  match s.sup.mode with
  | .starting | .active | .waking => .done s .ok .empty none
  | .enteringQuiet => .refuse .tooSoon .empty none
  | .quiet => checked [(s.sup.quietDwell.isSome, .tooSoon)] none (.done (wake s) .ok .empty none)

/-- QUIET_EXIT (R184). -/
def execQuietExit (ps : List Byte) (s : State) : Outcome := station 0x0B (fixed 0) quietExit ps s

/-- The rail settle expires: the mode becomes ACTIVE and the quiet dwell starts again (R184). -/
def railExpiry (s : State) : State :=
  if s.sup.mode = .waking ∧ s.sup.railSettle.isSome then
    s.modSup fun u => { u with mode := .active, railSettle := none, quietDwell := some quietDwellTime }
  else s

/-- RAIL_SETTLE_EXPIRY (R184). -/
def execRailSettleExpiry (s : State) : Outcome := event railExpiry s

/-- The quiet dwell ends (R184). -/
def dwellExpiry (s : State) : State := s.modSup fun u => { u with quietDwell := none }

/-- QUIET_DWELL_EXPIRY (R184). -/
def execQuietDwellExpiry (s : State) : Outcome := event dwellExpiry s

/-! ### Power-on and the reset line -/

/-- The part starts afresh: STARTING in phase SETTLE with the rails OFF, the part clock at 0 and every timer stopped;
the port, the watch slots, the refusal record and the working state of every block start anew. The retained store, the
conveyor list, the bin list and the transport queue, which are kept as records, stand until the recovery event (R17,
R160, R167, R177, R182, R186; log entries 9 and 10). A note held for leveling still stands at the gauge, where recovery
finds it (R41; log entry 4). Notices that the port holds, in a start-up or in a settle after LINK RESET that the reset
line or power-on cuts short, are dropped with the port's other working state: whether they survive, R176, R177, R185
and R186 do not say (log entry 34). -/
def restart (s : State) : State :=
  { s with
    levels := { s.levels with gaugeNote := s.levels.gaugeNote || s.path.heldReading.isSome }
    path := { NotePath.fresh with
      queue := s.path.queue, stackerNotes := s.levels.stacker, routeDiverter := s.path.routeDiverter,
      rejectDiverter := s.path.rejectDiverter }
    work := Vector.replicate _ LaneWork.fresh
    conveyor := { s.conveyor with transit := none, spacing := none, clearance := none }
    alarm := { AlarmUnit.fresh with key := s.alarm.key, service := s.alarm.service }
    port := Port.fresh
    watch := WatchUnit.fresh
    sup := Supervisor.fresh }

/-- POWER_ON (R182, R186). -/
def execPowerOn (s : State) : Outcome := .next (restart s)

/-- RESET_LINE (R182, R186): in any mode, and a frame in progress is abandoned (R177). -/
def execResetLine (s : State) : Outcome := .next (restart s)

/-! ### The recovery event (R187) -/

/-- The store is lost: it takes the contents of R19, and the lists that name its records are empty. A lockdown that
stood ends with it, and at its end the ALARM notice is set, which the port holds until start-up ends (R154, R175,
R176). -/
def loseRetention (found : FieldLevels) (s : State) : State :=
  { s with
    custody := Custody.fresh found.seated
    path := { s.path with queue := [] }
    conveyor := { s.conveyor with list := [], binList := [] } }.raiseIf s.lockdown .alarm

/-- The retained store as the sampling of retention good leaves it: kept (R18), or lost (R19). -/
def sampleRetention (found : FieldLevels) (s : State) : State :=
  { if found.retentionGood then { s with custody := { s.custody with retention := .kept } } else loseRetention found s with
    levels := found }

/-- Step 1: service mode is off, and the rails go ON. -/
def recoverSupervisor (s : State) : State :=
  (s.modAlarm fun a => { a with service := false }).modSup fun u => { u with rails := true }

/-- The order's notes stand in the head of its lane. -/
def State.inHead (s : State) (i : OrderSlot) : Bool := tableAny (fun r => r.head == some i) s.custody.lanes

/-- An order whose notes are on the transport goes ABORTING with reason POWER and holds the start-up purge; one that has
accepted no note ends FAILED at once (R68). -/
def abortPower (i : OrderSlot) (o : Order) (s : State) : State :=
  if o.acceptedTotal = 0 then
    endOrder i (fun o => { o with state := .aborting, reason := some .power }.endPurge) s
  else
    (s.modOrder i fun o => { o with state := .aborting, reason := some .power }).modPath fun p =>
      { p with holder := some (.order i) }

/-- Step 2 for one order (R75). An order in a head and one in a drawer are left to its lane, in step 5. -/
def recoverOrder (i : OrderSlot) (s : State) : State :=
  match s.order i with
  | some o =>
    match o.state with
    | .held | .queued => stopOrder i .cancelled .power s
    | .picking => abortPower i o (releaseReservations i s)
    | .routing => abortPower i o s
    | .aborting => if s.inHead i then s else abortPower i o s
    | .staged | .presented | .recalling | .taken | .partlyTaken | .retracted | .cancelled | .failed => s
  | none => s

/-- Step 3 for one cassette: a leveling session ends, and a note standing at the gauge for it is spent (R41). -/
def recoverLeveling (found : FieldLevels) (c : CassetteId) (s : State) : State :=
  match (s.cassette c).leveling with
  | some v =>
    (if found.gaugeNote = true ∧ v.phase ≠ .waiting then testNote c s else s).modCassette c fun r =>
      { r with state := r.afterLeveling, leveling := none }
  | none => s

/-- Step 4 for one cassette: its record is checked against its seat sensor, and its shutter is SHUT (R22). -/
def recoverCassette (found : FieldLevels) (c : CassetteId) (s : State) : State :=
  shutNow c
    (if found.seated.get c then seatCassette c s
     else if (s.cassette c).state = .absent then s
     else removeCassette c s)

/-- An order in a drawer that is driven home at start-up goes RECALLING with no reason (R120, R187 step 7); a STAGED order
passes through PRESENTED. An order that was RECALLING for a reason loses it, for R187 has the order of every drawer left
RETRACTING keep no reason: the reading of R65 beside it is log entry 25. -/
def Order.driveHome (o : Order) : Order := { o with state := .recalling, reason := none, presentDeadline := none }

/-- A drawer that start-up finds away from its inner limit is driven home (R108, R120). -/
def bringHome (l : LaneId) (s : State) : State :=
  match (s.lane l).load with
  | some i => (driveDrawer l .retracting s).modOrder i Order.driveHome
  | none => driveDrawer l .retracting s

/-- The limit switch that reports on a jammed drawer as start-up finds it (R120). -/
def limitNote : LimitFound → Option LimitNote
  | .inner => some .inner
  | .outer => some .outer
  | .neither => none

/-- A drawer is set from its limit switches. At the inner limit its recall ends by the count, and a deposit claim is
decided by the envelope sensor at once (R112, R120). -/
def recoverDrawer (found : FieldLevels) (l : LaneId) (s : State) : State :=
  match (s.lane l).drawer, found.limits.get l with
  | .jammed, limit => s.modWork l fun w => { w with jamNote := limitNote limit }
  | _, .inner =>
    let home := endRecall l (standDrawer l .closed s)
    if (s.lane l).claim then takeEnvelope l (found.envelopes.get l) home else home
  | _, _ => bringHome l s

/-- The head dump of a lane begins: the order in the head goes ABORTING with reason POWER (R113, R120). -/
def recoverHead (l : LaneId) (s : State) : State :=
  match (s.lane l).head with
  | some i => dumpHead l i .power s
  | none => s

/-- Step 5 for one lane: its session is CLOSED, its head dump begins, and its drawer is set (R120). -/
def recoverLane (found : FieldLevels) (l : LaneId) (s : State) : State :=
  recoverDrawer found l (recoverHead l
    ((s.modLane l fun r => { r with session := .closed }).modWork l fun _ => LaneWork.fresh))

/-- The capture numbers of the records in a state, in capture-number order. -/
def State.captured (s : State) (st : EnvelopeState) : List Nat :=
  (s.custody.envelopes.filter fun e => e.state == st).map (·.capture)

/-- Step 6: the conveyor list and the bin list are rebuilt from the records, and the timers are reset (R17, R126,
R127). -/
def recoverConveyor (s : State) : State :=
  s.modConveyor fun c => { c with
    state := .running, list := s.captured .conveying, binList := s.captured .binned,
    transit := transitFor (s.captured .conveying), spacing := none, clearance := none }

/-- A zone that was in DELAY as power was lost latches (R149, R159). -/
def latchDelayed (z : ZoneId) (s : State) : State :=
  if (s.zone z).state = .delay then latch z s else s

/-- Step 7: the bypasses of service mode end, the first reports stand, every zone in DELAY latches in ascending order of
zone id, and then every open armed NORMAL zone is activated (R159). That these too are taken in ascending order is the
model's choice: R159 orders the zones in DELAY alone (log entry 33). -/
def recoverZones (found : FieldLevels) (s : State) : State :=
  forEach activateIfOpen (forEach latchDelayed
    (forEach (fun z s => s.modZone z fun r => { (Zone.endService z r) with input := found.zones.get z })
      (s.modAlarm fun a => { a with key := found.key })))

/-- Step 8: the start-up purge begins toward the retract bin, with the holder of step 2 or none, and start-up passes to
phase PURGE (R186, R187). A note at the gauge has been sent on (R41), so none stands there any longer. -/
def recoverTransport (found : FieldLevels) (s : State) : State :=
  ((s.modLevels fun v => { v with gaugeNote := false }).modPath fun p => { p with
    state := .purging, queue := [], stackerNotes := found.stacker, routeDiverter := .retractBin }).modSup fun u =>
      { u with phase := some .purge, phaseTimer := some routeLimit }

/-- The steps of the recovery event, in their order (R187). Within steps 2 to 5 the records of a table are taken in
ascending order. For the lanes that is the model's choice: of several that drop a returned envelope in this event the
lower-numbered gets the lower capture number, for which the manual gives no order (R112, R120, R121; log entry 35). -/
def recover (found : FieldLevels) (s : State) : State :=
  recoverTransport found (recoverZones found (recoverConveyor (forEach (recoverLane found)
    (forEach (recoverCassette found) (forEach (recoverLeveling found) (forEach recoverOrder
      (recoverSupervisor s)))))))

/-- SETTLE_EXPIRY (R186): in phase SETTLE retention good is sampled and recovery is made, in one event. What recovery
changes is marked against the store as the sampling left it (R18, R19). -/
def execSettleExpiry (found : FieldLevels) (s : State) : Outcome :=
  if s.sup.phase = some .settle then
    .next (finish (sampleRetention found s) (recover found (sampleRetention found s)) none none)
  else .next s

/-! ### The end of start-up (R188) -/

/-- The holder of the start-up purge ends it (R68, R188). -/
def endStartUpPurge (s : State) : State :=
  match s.path.holder with
  | some (.order i) => endOrder i Order.endPurge s
  | _ => s

/-- The transport takes its start-up contents, and the reject pause is computed from the bin record (R76, R82). -/
def startPath (s : State) : State :=
  evalPause (s.modPath fun p => { NotePath.fresh with
    stackerNotes := s.levels.stacker, shutterTravel := p.shutterTravel, routeDiverter := p.routeDiverter,
    rejectDiverter := p.rejectDiverter })

/-- The siren and the silent line are set from the latches (R152, R155). -/
def startLines (s : State) : State :=
  s.modAlarm fun a => { a with siren := s.lockdown, silent := s.silentLatched }

/-- With retention lost the envelope path clearance begins: every gate is released once (R139). -/
def startClearance (s : State) : State :=
  match s.custody.retention with
  | .cleared => s.modConveyor fun c => { c with clearance := some transitLimit, gatesDriven := positions _ }
  | .kept => s

/-- The notices of the tables that hold a marked record (R18, R188). -/
def raiseMarked (s : State) : State :=
  (((((s.raiseIf (tableAny (·.mark) s.custody.cassettes) .cassettes).raiseIf
      (s.anyOrder (·.mark)) .orders).raiseIf (s.custody.envelopes.any (·.mark)) .envelopes).raiseIf
      (tableAny (·.mark) s.custody.zones) .zones).raiseIf (tableAny (·.mark) s.custody.lanes) .lanes)

/-- The mode becomes ACTIVE, and the notices are set: RESTART, every notice the port has held, and that of every table
with a marked record (R176, R188). -/
def openForCommands (s : State) : State :=
  raiseMarked (((s.modSup fun u => { u with mode := .active, phase := none, phaseTimer := none }).modPort fun p =>
    { p with notices := p.notices ||| p.heldNotices, heldNotices := 0#10 }).raise .restart)

/-- The end of start-up: the expiry of the phase timer in phase PURGE (R188). The working state of the lanes runs on: head
dumps because R187 says so, and a LOCKDOWN recall that is pending on an EXTENDING drawer by the model's choice, for
section 6.1 has the pending recall none at the end of every start-up, while R106, R107 and R117 keep it until the outer
limit (log entry 42). -/
def startUpEnd (s : State) : State :=
  if s.sup.phase = some .purge then
    openForCommands (startClearance (startLines (startPath (endStartUpPurge s))))
  else s

/-- START_UP_END (R188). -/
def execStartUpEnd (s : State) : Outcome := event startUpEnd s

end Sys2Proof.Machine
end

