-- ==== Sys2Proof/Machine/Watches.lean ====
section
/-! DEFINITION. The commands of the watch slots and of the refusal record (Chapter 9). None of them is compared against
a watch slot (R161). -/

namespace Sys2Proof.Machine

/-- The span of a watch slot: 1, 2, 4 or 8 (R161). -/
def spanOf : Nat → Option Nat
  | 1 => some 1
  | 2 => some 2
  | 4 => some 4
  | 8 => some 8
  | _ => none

/-- The scope of a watch slot: 0 is GLOBAL, 1 to 4 a lane (R161, R180). -/
def scopeOf (v : Nat) : Option (Option LaneId) := if v = 0 then some none else (laneOf v).map some

/-- The checks of WATCH SET on fields that depend on one another (R161). -/
def watchChecks (k : RecordKind) (first span : Nat) (t : Trigger) (threshold : Nat) (scope : Option LaneId) :
    List (Bool × ResultCode) :=
  [(!within 1 k.top first, .badParam), ((first - 1) % span != 0, .badParam),
   (t == .countBelow && (k != .cassette || !within 1 2500 threshold), .badParam),
   (t == .retire && k != .order && k != .envelope, .badParam),
   (scope.isSome && (k == .cassette || k == .zone), .badParam)]

/-- A watch slot with its configuration and its enable written; its hit flag and last hit handle are kept (R161). -/
def WatchSlot.configure (enable : Bool) (k : RecordKind) (first span : Nat) (t : Trigger) (threshold : Nat)
    (scope : Option LaneId) (w : WatchSlot) : WatchSlot :=
  { w with enable := enable, kind := k, first := first, span := span, trigger := t,
           threshold := if t = .countBelow then some threshold else none, scope := scope }

/-- One watch slot rewritten. -/
def State.modSlot (s : State) (i : WatchId) (f : WatchSlot → WatchSlot) : State :=
  s.modWatch fun w => { w with slots := tableSet w.slots i (f (w.slots.get i)) }

/-- The session of the lane that a scope names is OPEN (R161, R165). -/
def State.scopeOpen (s : State) : Option LaneId → Bool
  | none => true
  | some l => (s.lane l).session == .opened

/-- WATCH SET slot, enable, kind, first handle, span, trigger, threshold, scope (R161). -/
def watchSet (ps : List Byte) (s : State) : Reply :=
  param (watchOf (byteAt ps 0)) fun i =>
  param (flagOf (byteAt ps 1)) fun enable =>
  param (kindOf (byteAt ps 2)) fun k =>
  param (spanOf (byteAt ps 7)) fun span =>
  param (triggerOf (byteAt ps 8)) fun t =>
  param (scopeOf (byteAt ps 11)) fun scope =>
    checked (watchChecks k (word4 ps 3) span t (word2 ps 9) scope) none <|
    checked [(enable && !s.scopeOpen scope, .noSession)] none
      (.done (s.modSlot i (WatchSlot.configure enable k (word4 ps 3) span t (word2 ps 9) scope)) .ok .empty none)

/-- WATCH_SET (R161). -/
def execWatchSet (ps : List Byte) (s : State) : Outcome := station 0x70 (fixed 12) watchSet ps s

/-- The hit value: slot 1 as 1, slot 2 as 2, slot 3 as 4, slot 4 as 8 (R166). -/
def State.hitValue (s : State) : Nat :=
  ((positions _).map fun i => weight (s.watch.slots.get i).hit (2 ^ i.val)).sum

/-- WATCH READ (R166). -/
def watchRead (_ : List Byte) (s : State) : Reply :=
  .done s .ok (.watches s.hitValue ((positions _).map fun i => s.watch.slots.get i)) none

/-- WATCH_READ (R166). -/
def execWatchRead (ps : List Byte) (s : State) : Outcome := station 0x71 (fixed 0) watchRead ps s

/-- The hit flags whose weights stand in the value are cleared (R166). -/
def clearHits (v : Nat) (s : State) : State :=
  s.modWatch fun w => { w with slots := tableMap (fun i slot =>
    if v.testBit i.val then { slot with hit := false } else slot) w.slots }

/-- WATCH CLEAR value (R166). -/
def watchClear (ps : List Byte) (s : State) : Reply :=
  checked [(15 < byteAt ps 0, .badParam)] none (.done (clearHits (byteAt ps 0) s) .ok .empty none)

/-- WATCH_CLEAR (R166). -/
def execWatchClear (ps : List Byte) (s : State) : Outcome := station 0x72 (fixed 1) watchClear ps s

/-- REFUSAL READ: the record is returned and its count is then zeroed (R168). -/
def refusalRead (_ : List Byte) (s : State) : Reply :=
  .done (s.modWatch fun w => { w with refusals := 0 }) .ok (.refusal s.watch.refused s.watch.refusals) none

/-- REFUSAL_READ (R168). -/
def execRefusalRead (ps : List Byte) (s : State) : Outcome := station 0x73 (fixed 0) refusalRead ps s

end Sys2Proof.Machine
end

