-- ==== Sys2Proof/Machine/Dispatch.lean ====
section
/-! DEFINITION. The dispatch: each command to its meaning. -/

namespace Sys2Proof.Machine

/-- The effect of a command on everything but the queue of waiting commands. -/
def exec (i : Instr) (s : State) : Host.Outcome State Fault Refusal :=
  match i with
  | .noop ps => Sys2Proof.Machine.execNoop ps s
  | .identify ps => Sys2Proof.Machine.execIdentify ps s
  | .linkStatusRead ps => Sys2Proof.Machine.execLinkStatusRead ps s
  | .linkStatusClear ps => Sys2Proof.Machine.execLinkStatusClear ps s
  | .noticeRead ps => Sys2Proof.Machine.execNoticeRead ps s
  | .noticeClear ps => Sys2Proof.Machine.execNoticeClear ps s
  | .configRead ps => Sys2Proof.Machine.execConfigRead ps s
  | .configSet ps => Sys2Proof.Machine.execConfigSet ps s
  | .linkReset ps => Sys2Proof.Machine.execLinkReset ps s
  | .quietEnter ps => Sys2Proof.Machine.execQuietEnter ps s
  | .quietExit ps => Sys2Proof.Machine.execQuietExit ps s
  | .cassetteRead ps => Sys2Proof.Machine.execCassetteRead ps s
  | .cassetteReadAll ps => Sys2Proof.Machine.execCassetteReadAll ps s
  | .cassetteLoad ps => Sys2Proof.Machine.execCassetteLoad ps s
  | .cassetteSet ps => Sys2Proof.Machine.execCassetteSet ps s
  | .levelStart ps => Sys2Proof.Machine.execLevelStart ps s
  | .levelTrial ps => Sys2Proof.Machine.execLevelTrial ps s
  | .levelEnd ps => Sys2Proof.Machine.execLevelEnd ps s
  | .orderPlace ps => Sys2Proof.Machine.execOrderPlace ps s
  | .orderRelease ps => Sys2Proof.Machine.execOrderRelease ps s
  | .orderCancel ps => Sys2Proof.Machine.execOrderCancel ps s
  | .orderRead ps => Sys2Proof.Machine.execOrderRead ps s
  | .orderScan ps => Sys2Proof.Machine.execOrderScan ps s
  | .orderRetire ps => Sys2Proof.Machine.execOrderRetire ps s
  | .orderResolve ps => Sys2Proof.Machine.execOrderResolve ps s
  | .envelopeRead ps => Sys2Proof.Machine.execEnvelopeRead ps s
  | .envelopeScan ps => Sys2Proof.Machine.execEnvelopeScan ps s
  | .envelopeAnnotate ps => Sys2Proof.Machine.execEnvelopeAnnotate ps s
  | .envelopeRetire ps => Sys2Proof.Machine.execEnvelopeRetire ps s
  | .binRead ps => Sys2Proof.Machine.execBinRead ps s
  | .binClear ps => Sys2Proof.Machine.execBinClear ps s
  | .conveyorRestart ps => Sys2Proof.Machine.execConveyorRestart ps s
  | .sessionOpen ps => Sys2Proof.Machine.execSessionOpen ps s
  | .sessionClose ps => Sys2Proof.Machine.execSessionClose ps s
  | .drawerSend ps => Sys2Proof.Machine.execDrawerSend ps s
  | .drawerRecall ps => Sys2Proof.Machine.execDrawerRecall ps s
  | .laneRead ps => Sys2Proof.Machine.execLaneRead ps s
  | .laneReadAll ps => Sys2Proof.Machine.execLaneReadAll ps s
  | .laneClear ps => Sys2Proof.Machine.execLaneClear ps s
  | .transportRead ps => Sys2Proof.Machine.execTransportRead ps s
  | .transportClear ps => Sys2Proof.Machine.execTransportClear ps s
  | .binsEmptied ps => Sys2Proof.Machine.execBinsEmptied ps s
  | .zoneRead ps => Sys2Proof.Machine.execZoneRead ps s
  | .zoneReadAll ps => Sys2Proof.Machine.execZoneReadAll ps s
  | .zoneSet ps => Sys2Proof.Machine.execZoneSet ps s
  | .arm ps => Sys2Proof.Machine.execArm ps s
  | .disarm ps => Sys2Proof.Machine.execDisarm ps s
  | .bypass ps => Sys2Proof.Machine.execBypass ps s
  | .alarmReset ps => Sys2Proof.Machine.execAlarmReset ps s
  | .alarmSilence ps => Sys2Proof.Machine.execAlarmSilence ps s
  | .serviceEnter ps => Sys2Proof.Machine.execServiceEnter ps s
  | .serviceExit ps => Sys2Proof.Machine.execServiceExit ps s
  | .watchSet ps => Sys2Proof.Machine.execWatchSet ps s
  | .watchRead ps => Sys2Proof.Machine.execWatchRead ps s
  | .watchClear ps => Sys2Proof.Machine.execWatchClear ps s
  | .refusalRead ps => Sys2Proof.Machine.execRefusalRead ps s
  | .unknownCommand code ps => Sys2Proof.Machine.execUnknownCommand code ps s
  | .overrun => Sys2Proof.Machine.execOverrun s
  | .resultWritten => Sys2Proof.Machine.execResultWritten s
  | .powerOn => Sys2Proof.Machine.execPowerOn s
  | .resetLine => Sys2Proof.Machine.execResetLine s
  | .settleExpiry found => Sys2Proof.Machine.execSettleExpiry found s
  | .startUpEnd => Sys2Proof.Machine.execStartUpEnd s
  | .clearanceEnd => Sys2Proof.Machine.execClearanceEnd s
  | .linkSettleExpiry => Sys2Proof.Machine.execLinkSettleExpiry s
  | .railSettleExpiry => Sys2Proof.Machine.execRailSettleExpiry s
  | .quietDwellExpiry => Sys2Proof.Machine.execQuietDwellExpiry s
  | .shutterTravelEnd cassette => Sys2Proof.Machine.execShutterTravelEnd cassette s
  | .shutterIdleExpiry => Sys2Proof.Machine.execShutterIdleExpiry s
  | .levelingIdleExpiry => Sys2Proof.Machine.execLevelingIdleExpiry s
  | .cassetteRemoved cassette => Sys2Proof.Machine.execCassetteRemoved cassette s
  | .cassetteSeated cassette => Sys2Proof.Machine.execCassetteSeated cassette s
  | .grant => Sys2Proof.Machine.execGrant s
  | .noteReachesGauge reading => Sys2Proof.Machine.execNoteReachesGauge reading s
  | .pickWindowExpiry => Sys2Proof.Machine.execPickWindowExpiry s
  | .stackerCountReport count => Sys2Proof.Machine.execStackerCountReport count s
  | .headArrival lane => Sys2Proof.Machine.execHeadArrival lane s
  | .routeLimitExpiry => Sys2Proof.Machine.execRouteLimitExpiry s
  | .purgeRunExpiry => Sys2Proof.Machine.execPurgeRunExpiry s
  | .retractEdge entry => Sys2Proof.Machine.execRetractEdge entry s
  | .holdDeadlineExpiry slot => Sys2Proof.Machine.execHoldDeadlineExpiry slot s
  | .outerLimit lane bundle => Sys2Proof.Machine.execOuterLimit lane bundle s
  | .innerLimit lane envelope => Sys2Proof.Machine.execInnerLimit lane envelope s
  | .bundleSensorClears lane => Sys2Proof.Machine.execBundleSensorClears lane s
  | .presentDeadlineExpiry slot => Sys2Proof.Machine.execPresentDeadlineExpiry slot s
  | .dumpRunExpiry lane => Sys2Proof.Machine.execDumpRunExpiry lane s
  | .drawerTravelLimitExpiry lane => Sys2Proof.Machine.execDrawerTravelLimitExpiry lane s
  | .admission => Sys2Proof.Machine.execAdmission s
  | .admissionSpacingExpiry => Sys2Proof.Machine.execAdmissionSpacingExpiry s
  | .binArrival => Sys2Proof.Machine.execBinArrival s
  | .transitTimerExpiry => Sys2Proof.Machine.execTransitTimerExpiry s
  | .zoneInputReport zone level => Sys2Proof.Machine.execZoneInputReport zone level s
  | .entryDelayExpiry zone => Sys2Proof.Machine.execEntryDelayExpiry zone s
  | .keyLineReport asserted => Sys2Proof.Machine.execKeyLineReport asserted s
  | .selectAssertion => Sys2Proof.Machine.execSelectAssertion s

end Sys2Proof.Machine
end

