-- ==== Sys2Proof/Machine/Tick.lean ====
section
/-! DEFINITION. What the part does while no command waits: the events that its own blocks make as soon as their
conditions hold, the expiries of its timers, and the passing of a millisecond (log entry 1). -/

namespace Sys2Proof.Machine

/-- A timer that has run out. -/
def Timer.out : Timer → Bool
  | some 0 => true
  | _ => false

/-- A timer one millisecond later. -/
def Timer.after (t : Timer) : Timer := t.map (· - 1)

/-- The command, if its event is due. -/
def dueIf (b : Bool) (c : Instr) : Option Instr := if b then some c else none

/-- The first position of a table whose event is due. -/
def dueAt {n : Nat} (p : Fin n → Bool) (c : Fin n → Instr) : Option Instr := ((positions n).find? p).map c

/-- A deadline of the part clock has passed. -/
def State.passed (s : State) (deadline : Option Nat) : Bool := deadline.any (· ≤ s.clock)

/-- The bundle of an OPEN drawer is PRESENTED (R108, R114). -/
def State.presents (s : State) (l : LaneId) : Bool :=
  (s.lane l).drawer == .opened && (s.lane l).load.any fun i => (s.order i).any fun o => o.state == .presented

/-- The present deadline of an order has passed while its drawer stands OPEN with it (R108). -/
def State.presentDue (s : State) (i : OrderSlot) : Bool :=
  (s.order i).any fun o =>
    o.state == .presented && s.passed o.presentDeadline && (s.lane o.lane).drawer == .opened &&
      (s.lane o.lane).load == some i

/-- The hold deadline of a HELD order has passed (R60). -/
def State.holdDue (s : State) (i : OrderSlot) : Bool :=
  (s.order i).any fun o => o.state == .held && s.passed o.holdDeadline

/-- The shutter moves. -/
def Shutter.moves (x : Shutter) : Bool := x == .opening || x == .closing

/-- The drawer moves. -/
def Drawer.moves (d : Drawer) : Bool := d == .extending || d == .retracting

/-- The transport is held by an order that stands in its slot. -/
def State.heldByOrder (s : State) : Bool :=
  match s.path.holder with
  | some (.order i) => (s.order i).isSome
  | _ => false

/-- The transport is held by a leveling claim. -/
def State.heldByLeveling (s : State) : Bool :=
  match s.path.holder with
  | some (.leveling _) => true
  | _ => false

/-- The events that the part's own blocks make when their conditions hold (R79, R107, R124, R170). -/
def State.ownEvents (s : State) : List (Option Instr) :=
  [dueIf s.port.processing.isSome .resultWritten, dueIf s.grantee.isSome .grant, dueIf s.mayAdmit .admission,
   dueAt (fun l => (s.laneWork l).clearingDue && s.presents l) .bundleSensorClears]

/-- The expiries of the part's timers and deadlines, each as its own event. -/
def State.expiries (s : State) : List (Option Instr) :=
  [dueIf (s.sup.phase == some .purge && s.sup.phaseTimer.out) .startUpEnd,
   dueIf s.port.settle.out .linkSettleExpiry,
   dueIf (s.sup.mode == .waking && s.sup.railSettle.out) .railSettleExpiry,
   dueIf s.sup.quietDwell.out .quietDwellExpiry,
   dueIf s.conveyor.clearance.out .clearanceEnd,
   dueIf s.conveyor.spacing.out .admissionSpacingExpiry,
   dueIf (s.conveyor.transit.out && s.belt && !s.conveyor.list.isEmpty) .transitTimerExpiry,
   dueAt (fun c => (s.path.shutterTravel.get c).out && (s.cassette c).shutter.moves) .shutterTravelEnd,
   dueIf s.path.shutterIdle.out .shutterIdleExpiry,
   dueIf (s.path.levelingIdle.out && s.heldByLeveling) .levelingIdleExpiry,
   dueIf (s.path.attempt.any (fun a => a.left == 0) && s.pickTarget.isSome) .pickWindowExpiry,
   dueIf (s.path.run.out && s.path.state == .routing && s.heldByOrder) .routeLimitExpiry,
   dueIf (s.path.run.out && s.path.state == .purging && s.heldByOrder) .purgeRunExpiry,
   dueAt s.holdDue .holdDeadlineExpiry,
   dueAt s.presentDue .presentDeadlineExpiry,
   dueAt (fun l => (s.laneWork l).dump.out && (s.lane l).head.isSome) .dumpRunExpiry,
   dueAt (fun l => (s.laneWork l).travel.out && (s.lane l).drawer.moves) .drawerTravelLimitExpiry,
   dueAt (fun z => (s.alarm.delays.get z).out && (s.zone z).state == .delay) .entryDelayExpiry]

/-- The event that the part makes by itself now, if one is due. In phase SETTLE it is the end of the settle, which takes
the levels of the input lines as they were reported last (R182, R186). -/
def State.dueEvent (s : State) : Option Instr :=
  if s.sup.phase = some .settle then dueIf s.sup.phaseTimer.out (.settleExpiry s.levels)
  else (s.ownEvents ++ s.expiries).findSome? id

/-- One millisecond passes: the part clock advances and every running timer falls; the transit timer falls only while
the belt drive is on (R127). -/
def tick (s : State) : State :=
  { s with
    sup := { s.sup with
      clockMs := s.sup.clockMs + 1, phaseTimer := s.sup.phaseTimer.after, railSettle := s.sup.railSettle.after,
      quietDwell := s.sup.quietDwell.after }
    port := { s.port with settle := s.port.settle.after }
    conveyor := { s.conveyor with
      transit := if s.belt then s.conveyor.transit.after else s.conveyor.transit
      spacing := s.conveyor.spacing.after, clearance := s.conveyor.clearance.after }
    path := { s.path with
      shutterIdle := s.path.shutterIdle.after, run := s.path.run.after, levelingIdle := s.path.levelingIdle.after
      attempt := s.path.attempt.map fun a => { a with left := a.left - 1 }
      shutterTravel := tableMap (fun _ t => t.after) s.path.shutterTravel }
    alarm := { s.alarm with delays := tableMap (fun _ t => t.after) s.alarm.delays }
    work := tableMap (fun _ w => { w with dump := w.dump.after, travel := w.travel.after }) s.work }

end Sys2Proof.Machine
end

