-- ==== Sys2Proof/Machine/Step.lean ====
section
/-! DEFINITION. The step of the part: the command at the front of the queue, or, while none waits, an event of the
part's own or the passing of a millisecond. -/

namespace Sys2Proof.Machine

/-- The step while no command waits: the part's own event that is due, or one millisecond (log entry 1). -/
def idle (s : State) : Host.Outcome State Fault Refusal :=
  match s.dueEvent with
  | some c => exec c s
  | none => .next (tick s)

/-- One step: the command at the front of the queue is taken off it and has its effect. -/
def step (s : State) : Host.Outcome State Fault Refusal :=
  match s.pending with
  | c :: rest => exec c { s with pending := rest }
  | [] => idle s

/-- The state with the command that a table word spells put at the front of its queue; the word spells none for no row
of the table gives bits (log entry 6). -/
def State.withFetchWord (s : State) (nbits w : Nat) : State :=
  match decodeTableWord nbits w with
  | some c => { s with pending := c :: s.pending }
  | none => s

end Sys2Proof.Machine
end

