-- ==== Sys2Proof/WellFormed.lean ====
section
/-! DEFINITION. The well-formed commands: those that a frame or a line of the part can carry. -/

namespace Sys2Proof

/-- The bytes that follow a command code in a frame: at most 63 are shifted in (R169). -/
def bytesFit (ps : List Byte) : Bool := ps.length ≤ 63

/-- A command is well-formed: a station command carries at most 63 bytes (R169), the unknown command a code that names
no command (R171). An event is well-formed by its operands' types. -/
def Instr.wf : Instr → Bool
  | .noop ps | .identify ps | .linkStatusRead ps | .linkStatusClear ps | .noticeRead ps | .noticeClear ps
  | .configRead ps | .configSet ps | .linkReset ps | .quietEnter ps | .quietExit ps | .cassetteRead ps
  | .cassetteReadAll ps | .cassetteLoad ps | .cassetteSet ps | .levelStart ps | .levelTrial ps | .levelEnd ps
  | .orderPlace ps | .orderRelease ps | .orderCancel ps | .orderRead ps | .orderScan ps | .orderRetire ps
  | .orderResolve ps | .envelopeRead ps | .envelopeScan ps | .envelopeAnnotate ps | .envelopeRetire ps
  | .binRead ps | .binClear ps | .conveyorRestart ps | .sessionOpen ps | .sessionClose ps | .drawerSend ps
  | .drawerRecall ps | .laneRead ps | .laneReadAll ps | .laneClear ps | .transportRead ps | .transportClear ps
  | .binsEmptied ps | .zoneRead ps | .zoneReadAll ps | .zoneSet ps | .arm ps | .disarm ps | .bypass ps
  | .alarmReset ps | .alarmSilence ps | .serviceEnter ps | .serviceExit ps | .watchSet ps | .watchRead ps
  | .watchClear ps | .refusalRead ps => bytesFit ps
  | .unknownCommand code ps => !listedCode code && bytesFit ps
  | .overrun | .resultWritten | .powerOn | .resetLine | .settleExpiry _ | .startUpEnd | .clearanceEnd
  | .linkSettleExpiry | .railSettleExpiry | .quietDwellExpiry | .shutterTravelEnd _ | .shutterIdleExpiry
  | .levelingIdleExpiry | .cassetteRemoved _ | .cassetteSeated _ | .grant | .noteReachesGauge _ | .pickWindowExpiry
  | .stackerCountReport _ | .headArrival _ | .routeLimitExpiry | .purgeRunExpiry | .retractEdge _
  | .holdDeadlineExpiry _ | .outerLimit _ _ | .innerLimit _ _ | .bundleSensorClears _ | .presentDeadlineExpiry _
  | .dumpRunExpiry _ | .drawerTravelLimitExpiry _ | .admission | .admissionSpacingExpiry | .binArrival
  | .transitTimerExpiry | .zoneInputReport _ _ | .entryDelayExpiry _ | .keyLineReport _ | .selectAssertion => true

end Sys2Proof
end

