-- ==== Sys2Proof/Safety.lean ====
section
/-! DEFINITION. The words that statements about the part are made in: what a command answers, what it leaves as it was,
which mixes fit an order, and the laws that every step keeps. -/

namespace Sys2Proof.Machine

/-! ### Outcomes -/

/-- The command answers a next state, and P holds of it. -/
def Yields (c : Instr) (s : State) (P : State → Prop) : Prop :=
  match exec c s with
  | .next t => P t
  | .fault _ => False
  | .refused _ => False

/-- The result in processing, if a result is. -/
def State.result (s : State) : Option ResultCode := s.port.processing.map (·.code)

/-- The command is taken and refused with a code. -/
def Refuses (c : Instr) (s : State) (code : ResultCode) : Prop := Yields c s fun t => t.result = some code

/-- The frame carries at least n bytes after the command code, and no more than the port shifts in (R169, R173). -/
def carries (n : Nat) (ps : List Byte) : Bool := n ≤ ps.length && ps.length ≤ 63

/-- A frame is taken, and the mode is ACTIVE. -/
def State.awake (s : State) : Bool := s.takes && s.sup.mode == .active

/-- A field event is acted on: the part is not in phase SETTLE (R182). -/
def State.heeds (s : State) : Bool := s.sup.phase != some .settle

/-- The bytes that a command needs after its code: section 10.7, and R173 for the two commands whose length depends on
a count they carry. -/
def requiredBytes (code : Byte) (ps : List Byte) : Nat :=
  match code.toNat with
  | 0x04 | 0x10 | 0x14 | 0x21 | 0x22 | 0x23 | 0x25 | 0x40 | 0x41 | 0x43 | 0x44 | 0x46 | 0x60 | 0x63 | 0x64 | 0x65
  | 0x66 | 0x72 => 1
  | 0x06 | 0x42 => 2
  | 0x08 | 0x15 | 0x16 | 0x26 => 3
  | 0x13 | 0x30 | 0x33 => 4
  | 0x12 | 0x62 => 5
  | 0x70 => 12
  | 0x20 => 5 + 3 * byteAt ps 4
  | 0x32 => 8 + byteAt ps 7
  | _ => 0

/-! ### Frames -/

/-- What a command or an event may change of the records and of the working state; all else stands as it was. -/
structure Footprint where
  cassettes : List CassetteId := []
  orders : List OrderSlot := []
  /-- The tags of the order slots. -/
  tags : Bool := false
  placement : Bool := false
  /-- The capture numbers of the envelope records. -/
  envelopes : List Nat := []
  counter : Bool := false
  zones : List ZoneId := []
  /-- The DAY and NIGHT armed flags. -/
  arms : Bool := false
  trips : Bool := false
  lanes : List LaneId := []
  /-- A lane whose session is CLOSING may see it completed (R104). -/
  closes : Bool := false
  bins : Bool := false
  settings : Bool := false
  path : Bool := false
  /-- The working state of the Lane Controllers. -/
  work : List LaneId := []
  conveyor : Bool := false
  alarm : Bool := false
  sup : Bool := false
  levels : Bool := false

/-- The CLOSING session of a lane is completed, and nothing else of the lane changes but its mark (R104). -/
def Completed (r q : Lane) : Prop :=
  match r.session with
  | .closing _ => q = { r with session := .closed, mark := true }
  | .closed | .opened => False

/-- Nothing of a lane is in flight: its orders are terminal, its head is empty, and its drawer is JAMMED, or CLOSED with an
empty load and the deposit claim clear (R104). -/
def AtRest (s : State) (l : LaneId) : Prop :=
  (∀ i, (s.order i).any (fun o => o.lane == l && !o.state.terminal) = false) ∧ (s.lane l).head = none ∧
  ((s.lane l).drawer = .jammed ∨ ((s.lane l).drawer = .closed ∧ (s.lane l).load = none ∧ (s.lane l).claim = false))

/-- The session of a lane after an event: a CLOSING one is CLOSED exactly when the lane is at rest after the event, and any
other stands (R104). -/
def SessionSettles (s t : State) (l : LaneId) : Prop :=
  ((s.lane l).session ≠ .opened ∧ AtRest t l → (t.lane l).session = .closed) ∧
  (¬((s.lane l).session ≠ .opened ∧ AtRest t l) → (t.lane l).session = (s.lane l).session)

/-- The session of a lane after the event that closes it for a cause: CLOSED when nothing is in flight after the event, else
CLOSING with the cause (R103, R104). -/
def SessionCloses (t : State) (l : LaneId) (c : CloseCause) : Prop :=
  (AtRest t l → (t.lane l).session = .closed) ∧ (¬AtRest t l → (t.lane l).session = .closing c)

/-- An order of a lane that has not begun to move notes: it is HELD or QUEUED (R103). -/
def State.waits (s : State) (l : LaneId) (i : OrderSlot) : Bool :=
  (s.order i).any fun o => o.lane == l && (o.state == .held || o.state == .queued)

/-- A transport claim of such an order. -/
def State.claimWaits (s : State) (l : LaneId) : Claim → Bool
  | .order i => s.waits l i
  | .leveling _ => false

/-- What the order in a slot holds reserved of a cassette, if it is HELD or QUEUED. -/
def State.heldNeed (s : State) (c : CassetteId) (i : OrderSlot) : Nat :=
  match s.order i with
  | some o => if o.state = .held ∨ o.state = .queued then o.need c else 0
  | none => 0

/-- What the HELD and QUEUED orders placed after an order hold reserved of a cassette (R32). -/
def State.youngerNeed (s : State) (c : CassetteId) (i : OrderSlot) : Nat :=
  ((s.custody.placement.drop (s.custody.placement.idxOf i + 1)).map (s.heldNeed c)).sum

/-- The order STAGED in the head of a lane is there to be dumped (R103, R117). -/
def State.dumpsHead (s : State) (l : LaneId) : Bool :=
  (s.lane l).head.any fun i => (s.order i).any fun o => o.state == .staged

/-- The drawer after a recall cause has reached it: an OPEN one goes RETRACTING (R103, R108, R117). -/
def Drawer.recalled (d : Drawer) : Drawer := if d = .opened then .retracting else d

/-- The working state of a lane after a recall cause has reached its drawer: an OPEN one takes the travel limit and loses a
pending recall, and an EXTENDING one takes the cause unless one with a reason is pending (R103, R106, R108, R117). -/
def LaneWork.recalled (w : LaneWork) (d : Drawer) (c : RecallCause) : LaneWork :=
  if d = .opened then { w with travel := some 4000, pendingRecall := none, clearingDue := false }
  else if d = .extending ∧ (w.pendingRecall = none ∨ w.pendingRecall = some .drawerRecall) then
    { w with pendingRecall := some c }
  else w

/-- What the order in a slot still needs from a cassette. -/
def State.needOf (s : State) (c : CassetteId) (i : OrderSlot) : Nat := ((s.order i).map (Order.need · c)).getD 0

/-- The order in a slot holds the transport in PICKING. -/
def State.picks (s : State) (i : OrderSlot) : Bool := s.path.state == .picking && s.path.holder == some (.order i)

/-- The removal of a cassette stops the order in a slot: it is HELD, QUEUED or the picking order, and it still needs notes
from the cassette (R20). -/
def State.losesTo (s : State) (c : CassetteId) (i : OrderSlot) : Bool :=
  (s.order i).any fun o => decide (0 < o.need c) && (s.picks i || o.state == .held || o.state == .queued)

/-- An order that the removal stops ends in that event, but for the picking order that has notes to purge (R20, R68). -/
def State.endsBy (s : State) (c : CassetteId) (i : OrderSlot) : Bool :=
  s.losesTo c i && !(s.picks i && (s.order i).any fun o => o.acceptedTotal != 0)

/-- A transport claim that the removal takes from the queue: that of an order it ends, or of the leveling session it ends
(R20, R40). -/
def State.claimEnds (s : State) (c : CassetteId) : Claim → Bool
  | .order i => s.endsBy c i
  | .leveling k => k == c && (s.cassette c).leveling.isSome

/-- A note stands at the gauge for the leveling session of a cassette (R37). -/
def State.gaugeHolds (s : State) (c : CassetteId) : Bool :=
  (s.cassette c).leveling.isSome && s.path.holder == some (.leveling c) && s.path.heldReading.isSome

/-- The pick attempt that begins from a cassette now, if its shutter is OPEN, the rails are ON and lockdown does not stand
(R84, R85, R86, R182). -/
def State.freshAttempt (s : State) (c : CassetteId) : Option Attempt :=
  if (s.cassette c).shutter = .opened ∧ s.lockdown = false ∧ s.sup.rails = true
  then some { left := 250, last := false, noMiss := false } else none

/-- The records and the working state of t are those of s, but for what f allows to change. -/
def Within (f : Footprint) (s t : State) : Prop :=
  (∀ c, c ∈ f.cassettes ∨ t.cassette c = s.cassette c) ∧
  (∀ i, i ∈ f.orders ∨ t.order i = s.order i) ∧
  (f.tags = true ∨ t.custody.tags = s.custody.tags) ∧
  (f.placement = true ∨ t.custody.placement = s.custody.placement) ∧
  (t.custody.envelopes.filter fun e => !f.envelopes.contains e.capture) =
    (s.custody.envelopes.filter fun e => !f.envelopes.contains e.capture) ∧
  (f.counter = true ∨ t.custody.captureCounter = s.custody.captureCounter) ∧
  (∀ z, z ∈ f.zones ∨ t.zone z = s.zone z) ∧
  (f.arms = true ∨ (t.custody.dayArmed = s.custody.dayArmed ∧ t.custody.nightArmed = s.custody.nightArmed)) ∧
  (f.trips = true ∨ t.custody.tripList = s.custody.tripList) ∧
  (∀ l, l ∈ f.lanes ∨ t.lane l = s.lane l ∨ (f.closes = true ∧ Completed (s.lane l) (t.lane l))) ∧
  (f.bins = true ∨ t.custody.bins = s.custody.bins) ∧
  (f.settings = true ∨ t.custody.settings = s.custody.settings) ∧
  t.custody.retention = s.custody.retention ∧
  (f.path = true ∨ t.path = s.path) ∧
  (∀ l, l ∈ f.work ∨ t.laneWork l = s.laneWork l) ∧
  (f.conveyor = true ∨ t.conveyor = s.conveyor) ∧
  (f.alarm = true ∨ t.alarm = s.alarm) ∧
  (f.sup = true ∨ t.sup = s.sup) ∧
  (f.levels = true ∨ t.levels = s.levels) ∧
  t.pending = s.pending

/-- Every notice flag of s stands in t: the part clears none by itself (R175). -/
def NoticesStand (s t : State) : Prop :=
  s.port.notices ||| t.port.notices = t.port.notices ∧ s.port.heldNotices ||| t.port.heldNotices = t.port.heldNotices

/-- What stands of the Watch Unit through an event or a command that names no slot: the configuration of every slot,
its hit flag once set, the refusal record; an enable may be lost but not won (R160, R164, R165). -/
def WatchStands (s t : State) : Prop :=
  t.watch.refused = s.watch.refused ∧ t.watch.refusals = s.watch.refusals ∧
  ∀ k, (t.watch.slots.get k).kind = (s.watch.slots.get k).kind ∧
    (t.watch.slots.get k).first = (s.watch.slots.get k).first ∧
    (t.watch.slots.get k).span = (s.watch.slots.get k).span ∧
    (t.watch.slots.get k).trigger = (s.watch.slots.get k).trigger ∧
    (t.watch.slots.get k).threshold = (s.watch.slots.get k).threshold ∧
    (t.watch.slots.get k).scope = (s.watch.slots.get k).scope ∧
    ((s.watch.slots.get k).hit = true → (t.watch.slots.get k).hit = true) ∧
    ((t.watch.slots.get k).enable = true → (s.watch.slots.get k).enable = true)

/-- What an event leaves outside its footprint: the frame, the command in processing, the result buffer, the link status
and the link settle stand, and so do the notices and the watch slots. -/
def EventLeaves (f : Footprint) (s t : State) : Prop :=
  Within f s t ∧ t.port.frame = s.port.frame ∧ t.port.processing = s.port.processing ∧
  t.port.buffer = s.port.buffer ∧ t.port.linkStatus = s.port.linkStatus ∧ t.port.settle = s.port.settle ∧
  t.port.attention = t.attentionDue ∧ NoticesStand s t ∧ WatchStands s t

/-- What a command that was taken leaves: its frame has ended, the result of the command before it is in the buffer, its
own result r is in processing, and all outside the footprint stands (R170). -/
def CommandLeaves (f : Footprint) (r : Result) (s t : State) : Prop :=
  Within f s t ∧ t.port.frame = none ∧ t.port.processing = some r ∧ t.port.buffer = s.written.port.buffer ∧
  t.port.linkStatus = s.port.linkStatus ∧ t.port.settle = s.port.settle ∧ t.port.attention = t.attentionDue ∧
  NoticesStand s t ∧ WatchStands s t

/-- The result OK without result bytes. -/
def okEmpty : Result := { code := .ok, payload := .empty }

/-- A command has been answered without touching anything else: its frame has ended, the result of the command before it
is in the buffer, and its own result is in processing. -/
def State.answered (s : State) (r : Result) : State :=
  ({ s with port := { s.port with frame := none, buffer := s.written.port.buffer, processing := some r } }).syncAttention

/-- A frame has ended with a link status flag and the LINK notice set, and nothing else has changed (R172, R173). -/
def State.linkFaulted (s : State) (flag : BitVec 3) : State :=
  ({ s with port := { s.port with
      frame := none, linkStatus := s.port.linkStatus ||| flag, notices := s.port.notices ||| Notice.link.bit } }).syncAttention

/-- A taken frame has been refused as malformed: beside the link fault, the result of the command before it is in the
buffer, its own is in processing, and the refusal record has taken it (R167, R170, R173). -/
def State.malformed (s : State) (flag : BitVec 3) (code : Byte) (ps : List Byte) (r : ResultCode) : State :=
  { s.linkFaulted flag with
    port := { (s.linkFaulted flag).port with
      buffer := s.written.port.buffer, processing := some { code := r, payload := .empty } }
    watch := { s.watch with
      refused := some { code := code, param := ps.getD 0 0, result := r }, refusals := bump s.watch.refusals } }

/-- Every cassette record is as before but for the reservations of the order, which are released (R30). -/
def Released (o : Order) (s t : State) : Prop :=
  ∀ c, t.cassette c = { s.cassette c with
    reserved := (s.cassette c).reserved - o.need c
    mark := (s.cassette c).mark || (s.cassette c).reserved - o.need c != (s.cassette c).reserved }

/-- The command makes a zone latch: an ACTIVE report to a NORMAL, armed and unbypassed zone without entry delay, or the end
of its entry delay (R147, R148). -/
def Latches (c : Instr) (z : ZoneId) (s : State) : Prop :=
  (c = .zoneInputReport z .active ∧ (s.zone z).state = .normal ∧ s.groupArmed (s.zone z).group = true ∧
    s.bypassed z = false ∧ (s.zone z).entryDelay = 0) ∨
  (c = .entryDelayExpiry z ∧ (s.zone z).state = .delay)

/-- The command starts lockdown: it makes a zone with the LOCKDOWN response latch while lockdown does not stand (R153). -/
def StartsLockdown (c : Instr) (z : ZoneId) (s : State) : Prop :=
  Latches c z s ∧ (s.zone z).response = .lockdown ∧ s.lockdown = false

/-- The start of lockdown sends the order in a slot ABORTING at once: it picks, with no attempt in flight (R86). -/
def State.stopsPicking (s : State) (i : OrderSlot) : Bool := s.picks i && s.path.attempt.isNone

/-- A transport claim that the start of lockdown takes from the queue: that of a leveling session which it ends, or of an
order which it ends (R40, R86). `t` is the state after it. -/
def State.claimStops (s t : State) : Claim → Bool
  | .order i => s.stopsPicking i && (s.order i).any fun o => o.acceptedTotal == 0
  | .leveling c => (s.cassette c).leveling.isSome && (t.cassette c).leveling.isNone

/-- The zone defaults as the second table of section 8.1 lists them: group, response, lane and entry delay. -/
def statedZone (z : ZoneId) : Group × Response × Option LaneId × Nat :=
  match z.val + 1 with
  | 1 | 2 => (.night, .lockdown, none, 30)
  | 3 | 10 => (.always, .lockdown, none, 0)
  | 4 => (.always, .laneLock, some 0, 0)
  | 5 => (.always, .laneLock, some 1, 0)
  | 6 => (.always, .laneLock, some 2, 0)
  | 7 => (.always, .laneLock, some 3, 0)
  | 8 | 9 => (.always, .silent, none, 0)
  | 11 => (.night, .report, some 0, 0)
  | 12 => (.night, .report, some 1, 0)
  | 13 => (.night, .report, some 2, 0)
  | 14 => (.night, .report, some 3, 0)
  | 15 => (.always, .report, none, 0)
  | _ => (.day, .report, none, 0)

/-- The transport after its release: FREE without a holder, the shutter idle timer at its configured time (R34, R90). -/
def NotePath.freed (p : NotePath) (s : State) : NotePath :=
  { p with
    state := .free, holder := none, entry := none, misses := 0, attempt := none, run := none, heldReading := none
    levelingIdle := none, shutterIdle := some (s.custody.settings.shutterIdleClose * 1000) }

/-- The transport as the purge run of the order that was picked begins (R94). -/
def NotePath.purged (p : NotePath) : NotePath :=
  { p with
    state := .purging, entry := none, misses := 0, attempt := none, run := some 3000, routeDiverter := .retractBin }

/-! ### The part's own events -/

/-- The condition of an event of the part's own outside phase SETTLE: for a block's event its rule's condition, for an
expiry the timer at 0 or the deadline passed, and what it runs for. No other command is such an event. -/
def State.blockRipe (s : State) : Instr → Prop
  | .resultWritten => s.port.processing.isSome = true
  | .grant => s.grantee.isSome = true
  | .admission => s.mayAdmit = true
  | .bundleSensorClears l => (s.laneWork l).clearingDue = true ∧ s.presents l = true
  | .startUpEnd => s.sup.phase = some .purge ∧ s.sup.phaseTimer = some 0
  | .linkSettleExpiry => s.port.settle = some 0
  | .railSettleExpiry => s.sup.mode = .waking ∧ s.sup.railSettle = some 0
  | .quietDwellExpiry => s.sup.quietDwell = some 0
  | .clearanceEnd => s.conveyor.clearance = some 0
  | .admissionSpacingExpiry => s.conveyor.spacing = some 0
  | .transitTimerExpiry => s.conveyor.transit = some 0 ∧ s.belt = true ∧ s.conveyor.list ≠ []
  | .shutterTravelEnd c => s.path.shutterTravel.get c = some 0 ∧
      ((s.cassette c).shutter = .opening ∨ (s.cassette c).shutter = .closing)
  | .shutterIdleExpiry => s.path.shutterIdle = some 0
  | .levelingIdleExpiry => s.path.levelingIdle = some 0 ∧ ∃ c, s.path.holder = some (.leveling c)
  | .pickWindowExpiry => s.path.attempt.any (fun a => a.left == 0) = true ∧ s.pickTarget.isSome = true
  | .routeLimitExpiry => s.path.run = some 0 ∧ s.path.state = .routing ∧
      ∃ i, s.path.holder = some (.order i) ∧ (s.order i).isSome = true
  | .purgeRunExpiry => s.path.run = some 0 ∧ s.path.state = .purging ∧
      ∃ i, s.path.holder = some (.order i) ∧ (s.order i).isSome = true
  | .holdDeadlineExpiry i =>
      (s.order i).any (fun o => o.state == .held && o.holdDeadline.any (· ≤ s.clock)) = true
  | .presentDeadlineExpiry i =>
      (s.order i).any (fun o => o.state == .presented && o.presentDeadline.any (· ≤ s.clock) &&
        (s.lane o.lane).drawer == .opened && (s.lane o.lane).load == some i) = true
  | .dumpRunExpiry l => (s.laneWork l).dump = some 0 ∧ (s.lane l).head.isSome = true
  | .drawerTravelLimitExpiry l => (s.laneWork l).travel = some 0 ∧
      ((s.lane l).drawer = .extending ∨ (s.lane l).drawer = .retracting)
  | .entryDelayExpiry z => s.alarm.delays.get z = some 0 ∧ (s.zone z).state = .delay
  | _ => False

/-- The condition of an event of the part's own: in phase SETTLE the one such event is the end of the settle, with the
levels that the input lines reported last (R182, R186). -/
def State.ripe (s : State) (c : Instr) : Prop :=
  (s.sup.phase = some .settle ∧ s.sup.phaseTimer = some 0 ∧ c = .settleExpiry s.levels) ∨
  (s.sup.phase ≠ some .settle ∧ s.blockRipe c)

/-! ### Watches -/

/-- The table of a record (section 9.1). -/
def RecordRef.kind : RecordRef → RecordKind
  | .cassette _ => .cassette
  | .order _ => .order
  | .envelope _ => .envelope
  | .zone _ => .zone
  | .lane _ => .lane

/-- The number of a record that a watch slot compares: for an order the number of its slot (section 9.1). -/
def RecordRef.number : RecordRef → Nat
  | .cassette c => c.val + 1
  | .order i => i.val + 1
  | .envelope n => n
  | .zone z => z.val + 1
  | .lane l => l.val + 1

/-- The handle that a hit records: for an order the full handle, slot and tag (section 9.1). -/
def State.handleOf (s : State) : RecordRef → Nat
  | .order i => (s.handle i).toNat
  | .cassette c => c.val + 1
  | .envelope n => n
  | .zone z => z.val + 1
  | .lane l => l.val + 1

/-- The lane that a LANE scope compares: that of an order or an envelope as it stands after the event, or, once retired, as
it stood before; a lane is its own (R162). -/
def recordLane (s t : State) : RecordRef → Option LaneId
  | .order i => ((t.order i).or (s.order i)).map (·.lane)
  | .envelope n => ((t.envelope n).or (s.envelope n)).map (·.lane)
  | .lane l => some l
  | .cassette _ | .zone _ => none

/-- The state of a record changes: for a lane its session, its drawer state or its lock; a new order and a new envelope
change into their first state (R163). -/
def StateChanges (s t : State) : RecordRef → Prop
  | .cassette c => (t.cassette c).state ≠ (s.cassette c).state
  | .order i => (t.order i).isSome = true ∧ (t.order i).map (·.state) ≠ (s.order i).map (·.state)
  | .envelope n => (t.envelope n).isSome = true ∧ (t.envelope n).map (·.state) ≠ (s.envelope n).map (·.state)
  | .zone z => (t.zone z).state ≠ (s.zone z).state
  | .lane l => (t.lane l).session ≠ (s.lane l).session ∨ (t.lane l).drawer ≠ (s.lane l).drawer ∨
      (t.lane l).lock ≠ (s.lane l).lock

/-- The current count of a cassette falls from a threshold or above to below it (R163). -/
def CountFalls (s t : State) (threshold : Option Nat) : RecordRef → Prop
  | .cassette c => threshold.any (fun k => k ≤ (s.cassette c).current && (t.cassette c).current < k) = true
  | .order _ | .envelope _ | .zone _ | .lane _ => False

/-- An order or an envelope is retired: its record is removed (R163). -/
def IsRetired (s t : State) : RecordRef → Prop
  | .order i => (s.order i).isSome = true ∧ t.order i = none
  | .envelope n => (s.envelope n).isSome = true ∧ t.envelope n = none
  | .cassette _ | .zone _ | .lane _ => False

/-- The order that a handle resolves to (R3). -/
def State.resolved (s : State) (v : Nat) : Option RecordRef :=
  (handleSlot v).bind fun i =>
    if (s.order i).isSome = true ∧ handleTag v = s.custody.tags.get i then some (.order i) else none

/-- The envelope that a capture number resolves to (R8). -/
def State.numbered (s : State) (n : Nat) : Option RecordRef :=
  if n ≠ 0 ∧ (s.envelope n).isSome = true then some (.envelope n) else none

/-- The part is not in a power mode that refuses QUIET or WAKING (R4). -/
def State.wakeful (s : State) : Bool := s.sup.mode == .active || s.sup.mode == .starting

/-- The record that a command names, once it has passed the checks of power mode, service requirement, parameter range and
resolution that its rule gives it, whatever its later checks say (R163). For ALARM RESET the service requirement comes
after the check that the zone is LATCHED (R151; log entry 18). -/
def State.names (s : State) : Instr → Option RecordRef
  | .cassetteRead ps | .cassetteSet ps => (cassetteOf (byteAt ps 0)).map .cassette
  | .cassetteLoad ps =>
    if s.alarm.service = true ∧ within 1 1000 (word2 ps 1) = true ∧ word2 ps 3 ≤ 2500
    then (cassetteOf (byteAt ps 0)).map .cassette else none
  | .levelStart ps => if s.wakeful = true then (cassetteOf (byteAt ps 0)).map .cassette else none
  | .levelTrial ps =>
    if s.wakeful = true ∧ word2 ps 1 ≤ 1023 then (cassetteOf (byteAt ps 0)).map .cassette else none
  | .levelEnd ps =>
    if s.wakeful = true ∧ (word2 ps 1 = 0 ∨ within 64 960 (word2 ps 1) = true)
    then (cassetteOf (byteAt ps 0)).map .cassette else none
  | .orderRead ps | .orderCancel ps | .orderRetire ps => s.resolved (byteAt ps 0)
  | .orderRelease ps => if s.wakeful = true then s.resolved (byteAt ps 0) else none
  | .orderResolve ps =>
    if s.alarm.service = true ∧ byteAt ps 1 ≤ 1 ∧ byteAt ps 2 ≤ 60 then s.resolved (byteAt ps 0) else none
  | .envelopeRead ps => s.numbered (word4 ps 0)
  | .envelopeAnnotate ps =>
    if (word3 ps 4 = 0xFFFFFF ∨ word3 ps 4 ≤ 999999) ∧ byteAt ps 7 ≤ 16 then s.numbered (word4 ps 0) else none
  | .envelopeRetire ps => if s.alarm.service = true then s.numbered (word4 ps 0) else none
  | .zoneRead ps => (zoneOf (byteAt ps 0)).map .zone
  | .zoneSet ps =>
    (zoneOf (byteAt ps 0)).bind fun z =>
      if s.alarm.service = true ∧ byteAt ps 1 ≤ 2 ∧ byteAt ps 2 ≤ 3 ∧
          (if laneKind z = true then within 1 4 (byteAt ps 3) = true else byteAt ps 3 = 0 ∧ byteAt ps 2 ≠ 1)
      then some (.zone z) else none
  | .bypass ps => if s.alarm.service = true then (zoneOf (byteAt ps 0)).map .zone else none
  | .alarmReset ps =>
    (zoneOf (byteAt ps 0)).bind fun z =>
      if (s.zone z).state ≠ .latched ∨ s.alarm.service = true ∨
          ((s.zone z).response ≠ .lockdown ∧ (s.zone z).group ≠ .always)
      then some (.zone z) else none
  | .laneRead ps => (laneOf (byteAt ps 0)).map .lane
  | .sessionOpen ps | .sessionClose ps | .drawerRecall ps =>
    if s.wakeful = true then (laneOf (byteAt ps 0)).map .lane else none
  | .drawerSend ps => if s.wakeful = true ∧ byteAt ps 1 ≤ 2 then (laneOf (byteAt ps 0)).map .lane else none
  | .laneClear ps =>
    if s.alarm.service = true ∧ s.sup.mode ≠ .quiet ∧ s.sup.mode ≠ .waking then (laneOf (byteAt ps 0)).map .lane else none
  | .orderPlace ps =>
    if s.wakeful = true ∧ byteAt ps 3 ≤ 1 ∧ within 1 60000 (word2 ps 1) = true ∧
        capsValid (capsAt ps (byteAt ps 4) 5) = true
    then (laneOf (byteAt ps 0)).map .lane else none
  | _ => none

/-- The record that a command accesses: the one it names, if its frame is taken with the bytes it needs (R163, R171). -/
def State.accessed (s : State) (c : Instr) : Option RecordRef :=
  match encodeFrame c with
  | some (code :: ps) => if s.takes = true ∧ requiredBytes code ps ≤ ps.length then s.names c else none
  | _ => none

/-- A record matches an enabled slot (R162). -/
def WatchSlot.fits (w : WatchSlot) (s t : State) (r : RecordRef) : Prop :=
  w.enable = true ∧ r.kind = w.kind ∧ w.first ≤ r.number ∧ r.number ≤ w.first + w.span - 1 ∧
  (w.scope = none ∨ recordLane s t r = w.scope)

/-- A matching record gives a hit in the event that takes s to t; `access` is the record the event's command accesses
(R163). -/
def WatchSlot.hitBy (w : WatchSlot) (s t : State) (access : Option RecordRef) (r : RecordRef) : Prop :=
  w.fits s t r ∧
  match w.trigger with
  | .stateChange => StateChanges s t r
  | .countBelow => CountFalls s t w.threshold r
  | .retire => IsRetired s t r
  | .access => access = some r

/-- The place of a record in the listing order of its table: by number, and for envelopes in capture-number order, in which
a number that has wrapped stands after those before it (R7, R164). -/
def listingPlace (s t : State) : RecordRef → Nat
  | .envelope n => ((s.custody.envelopes ++ t.custody.envelopes).map (·.capture)).idxOf n
  | .cassette c => c.val
  | .order i => i.val
  | .zone z => z.val
  | .lane l => l.val

/-- The record gives the slot a hit, and of those that do it comes last in listing order (R164). -/
def WatchSlot.lastHit (w : WatchSlot) (s t : State) (access : Option RecordRef) (r : RecordRef) : Prop :=
  w.hitBy s t access r ∧ ∀ q, w.hitBy s t access q → listingPlace s t q ≤ listingPlace s t r

/-- The commands that write the slots themselves: WATCH SET, WATCH CLEAR, LINK RESET, power-on and the reset line (R160,
R161, R166). -/
def writesWatches : Instr → Bool
  | .watchSet _ | .watchClear _ | .linkReset _ | .powerOn | .resetLine => true
  | _ => false

/-! ### The mix -/

/-- The number of notes of a value in a vector of counts. -/
def notesOf (places : List Place) (counts : List Nat) (value : Nat) : Nat :=
  (((places.zip counts).filter fun pc => pc.1.value == value).map (·.2)).sum

/-- A vector of counts pays the amount exactly within the availabilities, the note limit and the caps (R49). -/
def MixFits (places : List Place) (amount limit : Nat) (caps : List Cap) (counts : List Nat) : Prop :=
  counts.length = places.length ∧ (∀ pc ∈ places.zip counts, pc.2 ≤ pc.1.available) ∧
  ((places.zip counts).map fun pc => pc.2 * pc.1.value).sum = amount ∧ counts.sum ≤ limit ∧
  ∀ c ∈ caps, notesOf places counts c.value ≤ c.cap

/-! ### Laws -/

/-- The power mode, the start-up phase and the link settle agree, and the attention line follows the enabled notices,
of which none stands while the part starts or settles (R176, R182, R185). -/
def LinkLaw (s : State) : Prop :=
  (s.sup.mode = .starting ↔ s.sup.phase.isSome = true) ∧ (s.port.settle.isSome = true → s.sup.mode ≠ .starting) ∧
  s.port.attention = s.attentionDue ∧ (s.hushed = true → s.port.notices = 0#10)

/-- The twelfth law: a watch slot of LANE scope is enabled only while its lane's session is OPEN (R165). In phase SETTLE
no such slot is enabled, for the slots hold their cleared contents. -/
def LaneWatchLaw (s : State) : Prop :=
  ∀ k l, (s.watch.slots.get k).enable = true → (s.watch.slots.get k).scope = some l →
    (s.lane l).session = .opened ∧ s.sup.phase ≠ some .settle

/-- The trip list holds every LATCHED zone once, and no other (R149). -/
def TripLaw (s : State) : Prop :=
  s.custody.tripList.Nodup ∧ ∀ z, z ∈ s.custody.tripList ↔ (s.zone z).state = .latched

/-- The seventh law, with the numbering of the records: the records and the claims together never number more than 120,
and every live record has a capture number of its own (R5, R6, R133). -/
def CaptureLaw (s : State) : Prop :=
  s.budget ≤ captureRoom ∧ (s.custody.envelopes.map (·.capture)).Nodup ∧
  (∀ e ∈ s.custody.envelopes, 1 ≤ e.capture ∧ e.capture ≤ lastCapture) ∧
  1 ≤ s.custody.captureCounter ∧ s.custody.captureCounter ≤ lastCapture

/-- Every configuration item stands in its range (R178). -/
def SettingsLaw (s : State) : Prop :=
  within 10 900 s.custody.settings.holdLimit = true ∧ within 10 120 s.custody.settings.presentLimit = true ∧
  within 2 60 s.custody.settings.shutterIdleClose = true ∧ within 1 60 s.custody.settings.noteLimit = true ∧
  within 1 15 s.custody.settings.maxRejects = true

/-- A session is CLOSING only while something of its lane is in flight, and then no order of the lane is HELD or QUEUED;
after the recovery of start-up every session is CLOSED until start-up ends (R103, R104, R120). -/
def ClosingLaw (s : State) : Prop :=
  (∀ l, (s.lane l).session ≠ .closed → (s.lane l).session ≠ .opened →
    ¬AtRest s l ∧ ∀ i, s.waits l i = false) ∧
  (s.sup.phase = some .purge → ∀ l, (s.lane l).session = .closed)

/-- The figures of a cassette divide what it was loaded with: the first law for one cassette (R29). -/
def Cassette.balanced (r : Cassette) : Bool :=
  r.loaded == r.current + r.accepted + r.rejectNotes + r.testNotes + r.writtenOff

/-- The states in which the first law speaks of a cassette: it has been counted and loaded (R29). -/
def CassetteState.counted : CassetteState → Bool
  | .unleveled | .ready | .leveling | .empty => true
  | .absent | .uncounted => false

/-- The first law: every note a cassette was loaded with is in it or in exactly one of its tallies (R29). -/
def FirstLaw (s : State) : Prop :=
  ∀ c, (s.cassette c).state.counted = true → (s.cassette c).balanced = true

/-- What the orders that hold reservations still need from a cassette, taken together (R31). -/
def State.demand (s : State) (c : CassetteId) : Nat :=
  ((positions _).map fun i =>
    match s.order i with
    | some o => if o.state.reserves then o.need c else 0
    | none => 0).sum

/-- The second law: the reserved count of a cassette is what its holders still need, and never exceeds its current count
(R31). Only a READY cassette holds a reservation (R20, R23, R36, R46). -/
def SecondLaw (s : State) : Prop :=
  ∀ c, (s.cassette c).reserved = s.demand c ∧ (s.cassette c).reserved ≤ (s.cassette c).current ∧
    (0 < (s.cassette c).reserved → (s.cassette c).state = .ready)

/-- A cassette has a leveling record exactly while it is LEVELING, and then holds a note; a leveling claim belongs to such
a cassette, and a held reading to the session in HOLDING that holds the transport (section 2.6). -/
def SessionLaw (s : State) : Prop :=
  (∀ c, ((s.cassette c).state = .leveling ↔ (s.cassette c).leveling.isSome = true) ∧
    ((s.cassette c).state = .leveling → 0 < (s.cassette c).current)) ∧
  (∀ c, .leveling c ∈ s.path.queue → (s.cassette c).state = .leveling) ∧
  (∀ c, s.path.holder = some (.leveling c) → s.path.state = .leveling ∧ (s.cassette c).state = .leveling) ∧
  (s.path.heldReading.isSome = true → ∃ c, s.path.holder = some (.leveling c) ∧
    (s.cassette c).leveling.any (fun v => v.phase == .holding) = true)

/-- The state of the order that holds the transport in a transport state; none where no order holds it (section 5.1). -/
def PathState.holderState : PathState → Option OrderState
  | .picking => some .picking
  | .routing => some .routing
  | .purging => some .aborting
  | .free | .leveling | .jammed => none

/-- Where the live orders stand. The placement order names each of them once (R30); an order that waits for the transport
is QUEUED (R78); the one that holds it is PICKING at its first incomplete entry, ROUTING or ABORTING, as the transport is,
and no other order is PICKING (R76, R81); one in a head is STAGED or ABORTING and one in a drawer STAGED, PRESENTED or
RECALLING, each of that lane (R100). No order is picked for while the part starts (R79), and in phase SETTLE the transport
has no holder, while an order may stand PICKING as power left it (R75). -/
def PlaceLaw (s : State) : Prop :=
  s.custody.placement.Nodup ∧ (∀ i, i ∈ s.custody.placement ↔ (s.order i).any (fun o => !o.state.terminal) = true) ∧
  (∀ i, .order i ∈ s.path.queue → (s.order i).any (fun o => o.state == .queued) = true) ∧
  (∀ i, s.path.holder = some (.order i) → (s.order i).any (fun o => s.path.state.holderState == some o.state &&
    (o.state != .picking || s.path.entry == o.nextEntry)) = true) ∧
  (∀ i, (s.order i).any (fun o => o.state == .picking) = true →
    s.sup.phase = some .settle ∨ s.path.holder = some (.order i)) ∧
  (∀ l i, (s.lane l).head = some i →
    (s.order i).any (fun o => o.lane == l && (o.state == .staged || o.state == .aborting)) = true ∧
    (s.lane l).load ≠ some i ∧ s.path.holder ≠ some (.order i)) ∧
  (∀ l i, (s.lane l).load = some i → (s.order i).any (fun o =>
    o.lane == l && (o.state == .staged || o.state == .presented || o.state == .recalling)) = true) ∧
  (s.sup.phase.isSome = true → s.path.state ≠ .picking) ∧
  (s.sup.phase = some .settle → s.path.holder = none ∧ s.path.heldReading = none)

end Sys2Proof.Machine
end

