-- ==== Sys2Proof/Certificates/Slice0/Obligations.lean ====
section
/-! DEFINITION. The statements about the part, for the provers: each says what its name says, for every state and every
operand that its hypotheses allow. -/

open Sys2Proof Sys2Proof.Machine

/-- O1. A step takes the command at the front of the queue and runs it on the rest; with an empty queue it runs the part's
own event that is due, or lets 1 ms pass. (section 'Events and time' of 00_scope.md, R126, R127, R182, R186.) -/
def Obligations.StepRunsTheFrontCommand : Prop :=
  (∀ (c : Instr) (rest : List Instr) (s : State),
      step { s with pending := c :: rest } = exec c { s with pending := rest }) ∧
  (∀ (c : Instr) (s : State),
      s.pending = [] → s.dueEvent = some c →
      step s = exec c s) ∧
  (∀ (s : State),
      s.pending = [] → s.dueEvent = none →
      step s = .next { s with
          sup := { s.sup with
            clockMs := s.sup.clockMs + 1, phaseTimer := s.sup.phaseTimer.map (· - 1)
            railSettle := s.sup.railSettle.map (· - 1), quietDwell := s.sup.quietDwell.map (· - 1) }
          port := { s.port with settle := s.port.settle.map (· - 1) }
          conveyor := { s.conveyor with
            transit := if s.conveyor.state = .running ∧ s.sup.mode = .active then s.conveyor.transit.map (· - 1)
                else s.conveyor.transit
            spacing := s.conveyor.spacing.map (· - 1), clearance := s.conveyor.clearance.map (· - 1) }
          path := { s.path with
            shutterIdle := s.path.shutterIdle.map (· - 1), run := s.path.run.map (· - 1)
            levelingIdle := s.path.levelingIdle.map (· - 1)
            attempt := s.path.attempt.map fun a => { a with left := a.left - 1 }
            shutterTravel := tableMap (fun _ x => x.map (· - 1)) s.path.shutterTravel }
          alarm := { s.alarm with delays := tableMap (fun _ x => x.map (· - 1)) s.alarm.delays }
          work := tableMap (fun _ w => { w with
              dump := w.dump.map (· - 1), travel := w.travel.map (· - 1) }) s.work }) ∧
  (∀ (c : Instr) (s : State),
      s.dueEvent = some c →
      s.ripe c) ∧
  (∀ (c : Instr) (s : State),
      s.ripe c →
      s.dueEvent.isSome = true)

/-- O2. Every command answers a next state and leaves the waiting commands as they are. (section 'Results' of 00_scope.md,
R171.) -/
def Obligations.EveryCommandAnswersAndKeepsTheQueue : Prop :=
  (∀ (c : Instr) (s : State),
      Yields c s fun t => t.pending = s.pending)

/-- O3. A matching record hits an enabled watch slot: the flag, the handle that comes last in listing order and the WATCH
notice. (R162, R163, R164, R165, section 9.1.) -/
def Obligations.WatchesRecordTheirHits : Prop :=
  (∀ (c : Instr) (k : WatchId) (r : RecordRef) (s : State),
      c.wf = true → s.heeds = true → CaptureLaw s →
      Yields c s fun t => (s.watch.slots.get k).lastHit s t (s.accessed c) r →
        (t.watch.slots.get k).hit = true ∧ (t.watch.slots.get k).last = some (t.handleOf r) ∧
        (if t.hushed then t.port.heldNotices else t.port.notices) &&& Notice.watch.bit = Notice.watch.bit) ∧
  (∀ (c : Instr) (k : WatchId) (s : State),
      c.wf = true → s.heeds = true → CaptureLaw s → writesWatches c = false →
      Yields c s fun t => (∀ r, ¬(s.watch.slots.get k).hitBy s t (s.accessed c) r) →
        (t.watch.slots.get k).hit = (s.watch.slots.get k).hit ∧
          (t.watch.slots.get k).last = (s.watch.slots.get k).last) ∧
  (∀ (c : Instr) (k : WatchId) (s : State),
      c.wf = true → s.heeds = true → writesWatches c = false →
      Yields c s fun t => (t.watch.slots.get k).enable = ((s.watch.slots.get k).enable &&
        !(s.watch.slots.get k).scope.any fun l => (s.lane l).session == .opened && (t.lane l).session != .opened))

/-- O4. No frame is taken while the part starts or settles, and one whose status byte showed BUSY is discarded with
OVERRUN and LINK. R171, case 1, for the start; R185 for the settle. (R167, R171, R172, R185.) -/
def Obligations.FramesNotTakenChangeNothing : Prop :=
  (∀ (i : Instr) (s : State),
      i.wf = true → (encodeFrame i).isSome = true → s.hushed = true →
      Yields i s fun t => t = s.released) ∧
  (∀ (i : Instr) (code : Byte) (ps : List Byte) (s : State),
      i.wf = true → encodeFrame i = some (code :: ps) → code ≠ 0x01 → s.hushed = false → s.sawBusy = true →
      Yields i s fun t => t = s.linkFaulted 1) ∧
  (∀ (s : State),
      s.hushed = false → s.overruns = true →
      Yields .overrun s fun t => t = s.linkFaulted 1)

/-- O5. A short frame answers FRAME_LENGTH and an unlisted code UNKNOWN_COMMAND, each with its flag, LINK and the refusal
record. (R171, R173, R167, section 10.7.) -/
def Obligations.MalformedFramesAreRefused : Prop :=
  (∀ (i : Instr) (code : Byte) (ps : List Byte) (s : State),
      i.wf = true → encodeFrame i = some (code :: ps) → code ≠ 0x01 → listedCode code = true → s.takes = true →
      ps.length < requiredBytes code ps →
      Yields i s fun t => t = s.malformed 2 code ps .frameLength) ∧
  (∀ (code : Byte) (ps : List Byte) (s : State),
      listedCode code = false → s.takes = true →
      Yields (.unknownCommand code ps) s fun t => t = s.malformed 4 code ps .unknownCommand)

/-- O6. A refused command changes no record and no working state, and is noted in the refusal record. (R4, R167, section
'Results' of 00_scope.md.) -/
def Obligations.RefusedCommandsChangeNoRecord : Prop :=
  (∀ (i : Instr) (code : Byte) (ps : List Byte) (s : State),
      i.wf = true → encodeFrame i = some (code :: ps) → code ≠ 0x01 → s.takes = true →
      Yields i s fun t => match t.port.processing with
        | some r => r.code = .ok ∨ r.code = .clamped ∨ (t.custody = s.custody ∧ t.path = s.path ∧ t.work = s.work ∧
            t.conveyor = s.conveyor ∧ t.alarm = s.alarm ∧ t.sup = s.sup ∧ t.levels = s.levels ∧
            (∀ k, (t.watch.slots.get k).enable = (s.watch.slots.get k).enable ∧
              (t.watch.slots.get k).kind = (s.watch.slots.get k).kind ∧
              (t.watch.slots.get k).first = (s.watch.slots.get k).first ∧
              (t.watch.slots.get k).span = (s.watch.slots.get k).span ∧
              (t.watch.slots.get k).trigger = (s.watch.slots.get k).trigger ∧
              (t.watch.slots.get k).threshold = (s.watch.slots.get k).threshold ∧
              (t.watch.slots.get k).scope = (s.watch.slots.get k).scope) ∧
            t.watch.refused = some { code := code, param := ps.getD 0 0, result := r.code } ∧
            t.watch.refusals = bump s.watch.refusals)
        | none => True)

/-- O7. NOOP ends its frame, the end of processing writes the result, and the assertion of select fixes the frame out,
byte by byte. (R169, R170, R171, R181, section 10.6, section 10.7.) -/
def Obligations.ReleaseWriteAndAssertionOfAFrame : Prop :=
  (∀ (ps : List Byte) (s : State),
      Yields (.noop ps) s fun t => t = { s with port := { s.port with frame := none } }) ∧
  (∀ (r : Result) (s : State),
      s.port.processing = some r →
      Yields .resultWritten s fun t => t = { s with port := { s.port with buffer := some r, processing := none } }) ∧
  (∀ (s : State),
      s.hushed = true →
      Yields .selectAssertion s fun t => t = { s with
          port := { s.port with
            frame := some { busy := false, attention := s.port.attention, code := 4, payload := .empty } } }) ∧
  (∀ (s : State),
      s.hushed = false → s.port.processing.isSome = true →
      Yields .selectAssertion s fun t => t = { s with
          port := { s.port with
            frame := some { busy := true, attention := s.port.attention, code := 63, payload := .empty } } }) ∧
  (∀ (r : Result) (s : State),
      s.hushed = false → s.port.processing = none → s.port.buffer = some r →
      Yields .selectAssertion s fun t => t = { s with
          port := { s.port with
            frame := some {
              busy := false, attention := s.port.attention, code := r.code.number, payload := r.payload } } }) ∧
  (∀ (s : State),
      s.hushed = false → s.port.processing = none → s.port.buffer = none →
      Yields .selectAssertion s fun t => t = { s with
          port := { s.port with
            frame := some { busy := false, attention := s.port.attention, code := 63, payload := .empty } } }) ∧
  (∀ (f : FrameOut),
      f.byte 0 = BitVec.ofNat 8 ((if f.busy then 128 else 0) + (if f.attention then 64 else 0) + f.code % 64)) ∧
  (∀ (f : FrameOut) (k : Nat),
      1 ≤ k → k ≤ 63 →
      f.byte k = f.payload.data.getD (k - 1) 0) ∧
  (∀ (f : FrameOut) (k : Nat),
      64 ≤ k →
      f.byte k = 0) ∧
  (∀ (d : List Byte),
      Payload.empty.data = [] ∧ (Payload.bytes d).data = d) ∧
  ([ResultCode.ok, .clamped, .unknownCommand, .frameLength, .starting, .waking, .quiet, .stale, .noSuch, .badParam, .wrongState,
        .notService, .lockdown, .noMix, .tableFull, .retractFull, .captureFull, .noSession, .laneLocked, .expired,
          .tooSoon,
        .uncounted].map ResultCode.number = List.range 22)

/-- O8. The reads and scans that name no single record return what stands and change nothing else. (R12, R13, R14, R77,
R101, R140, R142, R166, R174, R175, R179.) -/
def Obligations.ReadsOfTheWholeChangeNothing : Prop :=
  (∀ (ps : List Byte) (s : State),
      s.takes = true → carries 0 ps = true →
      Yields (.identify ps) s fun t => t = s.answered {
          code := .ok, payload := .identification {
            vendor := 0x0C57, part := 0x6400, revision := 1, lanes := 4, cassettes := 6 } }) ∧
  (∀ (ps : List Byte) (s : State),
      s.takes = true → carries 0 ps = true →
      Yields (.linkStatusRead ps) s fun t => t = s.answered {
          code := .ok, payload := .bytes [BitVec.ofNat 8 s.port.linkStatus.toNat] }) ∧
  (∀ (ps : List Byte) (s : State),
      s.takes = true → carries 0 ps = true →
      Yields (.noticeRead ps) s fun t => t = s.answered {
          code := .ok, payload := .bytes (byte2 s.port.notices.toNat ++ byte2 s.custody.settings.enables.toNat) }) ∧
  (∀ (ps : List Byte) (s : State),
      s.takes = true → carries 0 ps = true →
      Yields (.configRead ps) s fun t => t = s.answered {
          code := .ok,
          payload := .bytes (byte2 s.custody.settings.holdLimit ++ byte1 s.custody.settings.presentLimit ++ byte1 s.custody.settings.shutterIdleClose ++ byte1 s.custody.settings.noteLimit ++ byte1 s.custody.settings.maxRejects ++ byte2 s.custody.settings.enables.toNat) }) ∧
  (∀ (ps : List Byte) (s : State),
      s.takes = true → carries 0 ps = true →
      Yields (.cassetteReadAll ps) s fun t => t = s.answered {
          code := .ok, payload := .cassettes s.cassetteSummaries }) ∧
  (∀ (ps : List Byte) (s : State),
      s.takes = true → carries 0 ps = true →
      Yields (.orderScan ps) s fun t => t = s.answered {
          code := .ok,
          payload := .handles (((positions _).filter fun i => (s.order i).any (·.mark)).map s.handle) }) ∧
  (∀ (ps : List Byte) (s : State),
      s.takes = true → carries 0 ps = true →
      Yields (.envelopeScan ps) s fun t => t = s.answered {
          code := .ok,
          payload := .captures (((s.custody.envelopes.filter (·.mark)).map (·.capture)).take 12) (decide (12 < (s.custody.envelopes.filter (·.mark)).length)) }) ∧
  (∀ (ps : List Byte) (s : State),
      s.takes = true → carries 0 ps = true →
      Yields (.binRead ps) s fun t => t = s.answered { code := .ok, payload := .bins s.binReport }) ∧
  (∀ (ps : List Byte) (s : State),
      s.takes = true → carries 0 ps = true →
      Yields (.laneReadAll ps) s fun t => t = s.answered { code := .ok, payload := .lanes s.laneSummaries }) ∧
  (∀ (ps : List Byte) (s : State),
      s.takes = true → carries 0 ps = true →
      Yields (.transportRead ps) s fun t => t = s.answered { code := .ok, payload := .transport s.transportReport }) ∧
  (∀ (ps : List Byte) (s : State),
      s.takes = true → carries 0 ps = true →
      Yields (.zoneReadAll ps) s fun t => t = s.answered {
          code := .ok, payload := .zones s.zoneSummaries s.alarmStatus }) ∧
  (∀ (ps : List Byte) (s : State),
      s.takes = true → carries 0 ps = true →
      Yields (.watchRead ps) s fun t => t = s.answered {
          code := .ok,
          payload := .watches s.hitValue [s.watch.slots.get 0, s.watch.slots.get 1, s.watch.slots.get 2, s.watch.slots.get 3] }) ∧
  (∀ (l : List Byte),
      (Payload.handles l).data = BitVec.ofNat 8 l.length :: l) ∧
  (∀ (l : List Nat) (more : Bool),
      (Payload.captures l more).data = BitVec.ofNat 8 l.length :: (if more then 1 else 0) ::
        l.flatMap fun n => [BitVec.ofNat 8 (n / 16777216), BitVec.ofNat 8 (n / 65536), BitVec.ofNat 8 (n / 256), BitVec.ofNat 8 n])

/-- O9. A READ returns the whole named record with its mark as it stood, and then clears the mark alone. (R11, R42, R72,
R101, R134, R142, section 10.7.) -/
def Obligations.RecordReadsClearTheMark : Prop :=
  (∀ (ps : List Byte) (c : CassetteId) (s : State),
      s.takes = true → carries 1 ps = true → cassetteOf (byteAt ps 0) = some c →
      Yields (.cassetteRead ps) s fun t => CommandLeaves { cassettes := [c] } {
          code := .ok, payload := .bytes ((s.cassette c).bytes c) } s t ∧
        t.cassette c = { s.cassette c with mark := false }) ∧
  (∀ (ps : List Byte) (i : OrderSlot) (o : Order) (s : State),
      s.takes = true → carries 1 ps = true → handleSlot (byteAt ps 0) = some i → s.order i = some o →
      handleTag (byteAt ps 0) = s.custody.tags.get i →
      Yields (.orderRead ps) s fun t => CommandLeaves { orders := [i] } {
          code := .ok, payload := .bytes (o.bytes (s.handle i) s.clock) } s t ∧
        t.order i = some { o with mark := false }) ∧
  (∀ (ps : List Byte) (e : Envelope) (s : State),
      s.takes = true → carries 4 ps = true → word4 ps 0 ≠ 0 → s.envelope (word4 ps 0) = some e →
      Yields (.envelopeRead ps) s fun t => CommandLeaves { envelopes := [word4 ps 0] } {
          code := .ok, payload := .bytes (e.bytes s.clock s.conveyor.list) } s t ∧
        t.envelope (word4 ps 0) = some { e with mark := false }) ∧
  (∀ (ps : List Byte) (z : ZoneId) (s : State),
      s.takes = true → carries 1 ps = true → zoneOf (byteAt ps 0) = some z →
      Yields (.zoneRead ps) s fun t => CommandLeaves { zones := [z] } {
          code := .ok, payload := .zone (s.zoneReport z) } s t ∧
        t.zone z = { s.zone z with mark := false }) ∧
  (∀ (ps : List Byte) (l : LaneId) (s : State),
      s.takes = true → carries 1 ps = true → laneOf (byteAt ps 0) = some l →
      Yields (.laneRead ps) s fun t => CommandLeaves { lanes := [l] } {
          code := .ok, payload := .lane (s.laneReport l) } s t ∧
        t.lane l = { s.lane l with mark := false }) ∧
  (∀ (c : CassetteId) (r : Cassette),
      r.state ≠ .leveling →
      r.bytes c = [BitVec.ofNat 8 (c.val + 1), BitVec.ofNat 8 (r.state.number), BitVec.ofNat 8 ((if r.lowFlag then 1 else 0) + (if r.mark then 2 else 0)), BitVec.ofNat 8 (r.shutter.number),
        BitVec.ofNat 8 (r.value / 256), BitVec.ofNat 8 (r.value), BitVec.ofNat 8 (r.loaded / 256),
          BitVec.ofNat 8 (r.loaded),
        BitVec.ofNat 8 (r.current / 256), BitVec.ofNat 8 (r.current), BitVec.ofNat 8 (r.reserved / 256),
          BitVec.ofNat 8 (r.reserved),
        BitVec.ofNat 8 (r.guard), BitVec.ofNat 8 (r.lowMark / 256), BitVec.ofNat 8 (r.lowMark),
          BitVec.ofNat 8 (r.reference / 256), BitVec.ofNat 8 (r.reference),
        BitVec.ofNat 8 (r.accepted / 256), BitVec.ofNat 8 (r.accepted), BitVec.ofNat 8 (r.rejectNotes / 256),
          BitVec.ofNat 8 (r.rejectNotes),
        BitVec.ofNat 8 (r.testNotes / 256), BitVec.ofNat 8 (r.testNotes), BitVec.ofNat 8 (r.writtenOff / 256),
          BitVec.ofNat 8 (r.writtenOff)]) ∧
  (∀ (c : CassetteId) (r : Cassette) (v : Leveling),
      r.state = .leveling → r.leveling = some v →
      r.bytes c = [BitVec.ofNat 8 (c.val + 1), BitVec.ofNat 8 (r.state.number), BitVec.ofNat 8 ((if r.lowFlag then 1 else 0) + (if r.mark then 2 else 0)), BitVec.ofNat 8 (r.shutter.number),
        BitVec.ofNat 8 (r.value / 256), BitVec.ofNat 8 (r.value), BitVec.ofNat 8 (r.loaded / 256),
          BitVec.ofNat 8 (r.loaded),
        BitVec.ofNat 8 (r.current / 256), BitVec.ofNat 8 (r.current), BitVec.ofNat 8 (r.reserved / 256),
          BitVec.ofNat 8 (r.reserved),
        BitVec.ofNat 8 (r.guard), BitVec.ofNat 8 (r.lowMark / 256), BitVec.ofNat 8 (r.lowMark),
          BitVec.ofNat 8 (r.reference / 256), BitVec.ofNat 8 (r.reference),
        BitVec.ofNat 8 (v.phase.number), BitVec.ofNat 8 (v.trials)] ++
        (match v.lastTrial with
          | some (x, bit) => [BitVec.ofNat 8 (x / 256), BitVec.ofNat 8 (x), if bit then 1 else 0]
          | none => [0xFF, 0xFF, 0xFF]) ++ [0, 0, 0]) ∧
  (∀ (o : Order) (handle : Byte) (clock x : Nat),
     
      (x = if o.state = .held then o.holdDeadline.getD 4294967295 else if o.state = .presented then o.presentDeadline.getD 4294967295 else 4294967295) →
      x < 4294967296 → clock < 4294967296 →
      o.bytes handle clock = [handle, BitVec.ofNat 8 (o.lane.val + 1), BitVec.ofNat 8 ((if o.hold then 1 else 0) + (if o.mark then 2 else 0) + (if o.caps ≠ [] then 4 else 0)), BitVec.ofNat 8 (o.amount / 256), BitVec.ofNat 8 (o.amount),
        BitVec.ofNat 8 (o.state.number), BitVec.ofNat 8 ((o.reason.map Reason.number).getD 255),
          BitVec.ofNat 8 (o.rejectItems), BitVec.ofNat 8 (o.rejectNotes),
        BitVec.ofNat 8 (o.presented), BitVec.ofNat 8 (o.taken), BitVec.ofNat 8 (o.retracted),
          BitVec.ofNat 8 (o.recovered), BitVec.ofNat 8 (o.unresolved),
        BitVec.ofNat 8 (x / 16777216), BitVec.ofNat 8 (x / 65536), BitVec.ofNat 8 (x / 256), BitVec.ofNat 8 (x),
        BitVec.ofNat 8 (clock / 16777216), BitVec.ofNat 8 (clock / 65536), BitVec.ofNat 8 (clock / 256),
          BitVec.ofNat 8 (clock), BitVec.ofNat 8 (o.mix.length)] ++
        (o.mix.flatMap fun e => [BitVec.ofNat 8 (((e.slot.val + 1) * 8192 + e.value) / 256), BitVec.ofNat 8 (((e.slot.val + 1) * 8192 + e.value)), BitVec.ofNat 8 (e.count), BitVec.ofNat 8 (e.accepted)]) ++
        [BitVec.ofNat 8 (o.caps.length)] ++ o.caps.flatMap fun p => [BitVec.ofNat 8 ((p.cap * 1024 + p.value) / 256), BitVec.ofNat 8 ((p.cap * 1024 + p.value))]) ∧
  (∀ (e : Envelope) (clock : Nat) (list : List Nat),
      e.acceptedAt < 4294967296 → clock < 4294967296 →
      e.bytes clock list = [BitVec.ofNat 8 (e.capture / 16777216), BitVec.ofNat 8 (e.capture / 65536), BitVec.ofNat 8 (e.capture / 256), BitVec.ofNat 8 (e.capture),
        BitVec.ofNat 8 (e.lane.val + 1), BitVec.ofNat 8 (e.state.number), if e.mark then 1 else 0,
        BitVec.ofNat 8 (if e.state = .binned then e.binPosition.getD 0 else if e.state = .conveying ∧
          e.capture ∈ list then list.idxOf e.capture + 1 else 0),
        BitVec.ofNat 8 (e.acceptedAt / 16777216), BitVec.ofNat 8 (e.acceptedAt / 65536),
          BitVec.ofNat 8 (e.acceptedAt / 256), BitVec.ofNat 8 (e.acceptedAt),
        BitVec.ofNat 8 (clock / 16777216), BitVec.ofNat 8 (clock / 65536), BitVec.ofNat 8 (clock / 256),
          BitVec.ofNat 8 (clock),
        BitVec.ofNat 8 (e.declared.getD 0xFFFFFF / 65536), BitVec.ofNat 8 (e.declared.getD 0xFFFFFF / 256),
          BitVec.ofNat 8 (e.declared.getD 0xFFFFFF),
        BitVec.ofNat 8 ((e.reference.getD []).length)] ++ e.reference.getD []) ∧
  ([CassetteState.absent, .uncounted, .unleveled, .ready, .leveling, .empty].map CassetteState.number = List.range 6 ∧
      [Shutter.shut, .opening, .opened, .closing].map Shutter.number = List.range 4 ∧
      [LevelPhase.waiting, .fetching, .holding].map LevelPhase.number = List.range 3 ∧
      [OrderState.held, .queued, .picking, .routing, .staged, .presented, .recalling, .aborting, .taken, .partlyTaken, .retracted,
        .cancelled, .failed].map OrderState.number = List.range 13 ∧
      [Reason.station, .expired, .sessionClosed, .laneLock, .power, .short, .cassetteGone, .rejects, .lockdown, .drawerJam,
        .transportJam].map Reason.number = List.range 11 ∧
      [EnvelopeState.intake, .conveying, .binned, .strayed].map EnvelopeState.number = List.range 4)

/-- O10. LINK STATUS CLEAR, NOTICE CLEAR and WATCH CLEAR drop the flags their value names and no other, and refuse a wider
value. (R166, R174, R175, R176.) -/
def Obligations.WriteBackClearsDropWhatTheValueNames : Prop :=
  (∀ (ps : List Byte) (s : State),
      s.takes = true → carries 1 ps = true → byteAt ps 0 ≤ 7 →
      Yields (.linkStatusClear ps) s fun t => t = ({ s with
          port := { s.port with
            linkStatus := s.port.linkStatus &&& ~~~ BitVec.ofNat 3 (byteAt ps 0) } }).answered okEmpty) ∧
  (∀ (ps : List Byte) (s : State),
      s.takes = true → carries 1 ps = true → 7 < byteAt ps 0 →
      Refuses (.linkStatusClear ps) s .badParam) ∧
  (∀ (ps : List Byte) (s : State),
      s.takes = true → carries 2 ps = true → word2 ps 0 ≤ 1023 →
      Yields (.noticeClear ps) s fun t => t = ({ s with
          port := { s.port with
            notices := s.port.notices &&& ~~~ BitVec.ofNat 10 (word2 ps 0) } }).answered okEmpty) ∧
  (∀ (ps : List Byte) (s : State),
      s.takes = true → carries 2 ps = true → 1023 < word2 ps 0 →
      Refuses (.noticeClear ps) s .badParam) ∧
  (∀ (ps : List Byte) (s : State),
      s.takes = true → carries 1 ps = true → byteAt ps 0 ≤ 15 →
      Yields (.watchClear ps) s fun t => t = ({ s with
          watch := { s.watch with
            slots := tableMap (fun k (w : WatchSlot) => { w with
              hit := w.hit && !(byteAt ps 0).testBit k.val }) s.watch.slots } }).answered okEmpty) ∧
  (∀ (ps : List Byte) (s : State),
      s.takes = true → carries 1 ps = true → 15 < byteAt ps 0 →
      Refuses (.watchClear ps) s .badParam)

/-- O11. REFUSAL READ returns the refusal record and then sets its count to 0. (R168.) -/
def Obligations.RefusalReadReturnsAndZeroesTheCount : Prop :=
  (∀ (ps : List Byte) (s : State),
      s.takes = true → carries 0 ps = true →
      Yields (.refusalRead ps) s fun t => t = ({ s with watch := { s.watch with refusals := 0 } }).answered {
          code := .ok, payload := .refusal s.watch.refused s.watch.refusals })

/-- O12. CONFIG SET writes one item, brought into its range, and bars items 4 and 5 while an order is live. (R178, R82,
R74.) -/
def Obligations.ConfigSetBringsItemsIntoRange : Prop :=
  (∀ (ps : List Byte) (i : ConfigItem) (s : State),
      s.takes = true → carries 3 ps = true → itemOf (byteAt ps 0) = some i → i ≠ .enables →
      (i = .noteLimit ∨ i = .maxRejects → s.anyOrder (fun o => !o.state.terminal) = false) →
      Yields (.configSet ps) s fun t => CommandLeaves { settings := true, path := true }
          {
              code := if i.low ≤ word2 ps 1 ∧ word2 ps 1 ≤ i.high then .ok else .clamped,
              payload := .item (max i.low (min i.high (word2 ps 1))) } s t ∧
        t.custody.settings = s.custody.settings.write i (max i.low (min i.high (word2 ps 1))) ∧
        t.path = { s.path with rejectPause := if i = .maxRejects then t.pauseDue else s.path.rejectPause }) ∧
  (∀ (ps : List Byte) (s : State),
      s.takes = true → carries 3 ps = true → byteAt ps 0 = 6 → word2 ps 1 ≤ 1023 →
      Yields (.configSet ps) s fun t => CommandLeaves { settings := true } {
          code := .ok, payload := .item (word2 ps 1) } s t ∧
        t.custody.settings = { s.custody.settings with enables := BitVec.ofNat 10 (word2 ps 1) }) ∧
  (∀ (ps : List Byte) (s : State),
      s.takes = true → carries 3 ps = true → (itemOf (byteAt ps 0) = none ∨ (byteAt ps 0 = 6 ∧ 1023 < word2 ps 1)) →
      Refuses (.configSet ps) s .badParam) ∧
  (∀ (ps : List Byte) (s : State),
      s.takes = true → carries 3 ps = true → (byteAt ps 0 = 4 ∨ byteAt ps 0 = 5) →
      s.anyOrder (fun o => !o.state.terminal) = true →
      Refuses (.configSet ps) s .wrongState)

/-- O13. WATCH SET writes a slot's configuration and enable and keeps its hit, and a LANE scope needs an OPEN session to
be enabled. (R161, R165, R180.) -/
def Obligations.WatchSetWritesTheSlot : Prop :=
  (∀ (ps : List Byte) (i : WatchId) (e : Bool) (k : RecordKind) (n : Nat) (g : Trigger) (sc : Option LaneId) (s : State),
      s.takes = true → carries 12 ps = true → watchOf (byteAt ps 0) = some i → flagOf (byteAt ps 1) = some e →
      kindOf (byteAt ps 2) = some k → spanOf (byteAt ps 7) = some n → triggerOf (byteAt ps 8) = some g →
      scopeOf (byteAt ps 11) = some sc → within 1 k.top (word4 ps 3) = true → (word4 ps 3 - 1) % n = 0 →
      (g = .countBelow → k = .cassette ∧ within 1 2500 (word2 ps 9) = true) →
      (g = .retire → k = .order ∨ k = .envelope) → (sc.isSome = true → k ≠ .cassette ∧ k ≠ .zone) →
      (e = true → s.scopeOpen sc = true) →
      Yields (.watchSet ps) s fun t => t = ({ s with
          watch := { s.watch with slots := tableSet s.watch.slots i { s.watch.slots.get i with
          enable := e, kind := k, first := word4 ps 3, span := n, trigger := g,
            threshold := if g = Trigger.countBelow then some (word2 ps 9) else none,
            scope := sc } } }).answered okEmpty) ∧
  (∀ (ps : List Byte) (i : WatchId) (e : Bool) (k : RecordKind) (n : Nat) (g : Trigger) (sc : Option LaneId) (s : State),
      s.takes = true → carries 12 ps = true → watchOf (byteAt ps 0) = some i → flagOf (byteAt ps 1) = some e →
      kindOf (byteAt ps 2) = some k → spanOf (byteAt ps 7) = some n → triggerOf (byteAt ps 8) = some g →
      scopeOf (byteAt ps 11) = some sc → within 1 k.top (word4 ps 3) = true → (word4 ps 3 - 1) % n = 0 →
      (g = .countBelow → k = .cassette ∧ within 1 2500 (word2 ps 9) = true) →
      (g = .retire → k = .order ∨ k = .envelope) → (sc.isSome = true → k ≠ .cassette ∧ k ≠ .zone) → e = true →
      s.scopeOpen sc = false →
      Refuses (.watchSet ps) s .noSession) ∧
  (∀ (ps : List Byte) (i : WatchId) (e : Bool) (k : RecordKind) (n : Nat) (g : Trigger) (sc : Option LaneId) (s : State),
      s.takes = true → carries 12 ps = true → watchOf (byteAt ps 0) = some i → flagOf (byteAt ps 1) = some e →
      kindOf (byteAt ps 2) = some k → spanOf (byteAt ps 7) = some n → triggerOf (byteAt ps 8) = some g →
      scopeOf (byteAt ps 11) = some sc →
      (within 1 k.top (word4 ps 3) = false ∨ (word4 ps 3 - 1) % n ≠ 0 ∨ (g = .countBelow ∧ (k ≠ .cassette ∨
        within 1 2500 (word2 ps 9) = false)) ∨ (g = .retire ∧ k ≠ .order ∧ k ≠ .envelope) ∨ (sc.isSome = true ∧
          (k = .cassette ∨ k = .zone))) →
      Refuses (.watchSet ps) s .badParam)

/-- O14. LINK RESET returns the port, the watch slots and the refusal record to their starting contents; its settle ends
in RESTART. (R185, R177, R160, R167.) -/
def Obligations.LinkResetClearsTheStationsSide : Prop :=
  (∀ (ps : List Byte) (s : State),
      s.takes = true → carries 0 ps = true → s.sup.mode ≠ .waking →
      Yields (.linkReset ps) s fun t => t = { s with
          port := {
              frame := none, processing := none, buffer := none, linkStatus := 0, notices := 0, heldNotices := 0,
              attention := false, settle := some 20 }
          watch := WatchUnit.fresh
          custody := { s.custody with settings := { s.custody.settings with enables := 0x3ff } } }) ∧
  (∀ (ps : List Byte) (s : State),
      s.takes = true → carries 0 ps = true → s.sup.mode = .waking →
      Refuses (.linkReset ps) s .waking) ∧
  (∀ (s : State),
      s.port.settle.isSome = true →
      Yields .linkSettleExpiry s fun t => t = ({ s with port := { s.port with
          settle := none, heldNotices := 0,
            notices := s.port.notices ||| s.port.heldNotices ||| Notice.restart.bit } }).syncAttention)

/-- O15. CASSETTE LOAD sets value and counts, zeroes the tallies and sets the state, in service mode. (R23.) -/
def Obligations.CassetteLoadSetsTheCounts : Prop :=
  (∀ (ps : List Byte) (c : CassetteId) (s : State),
      s.takes = true → carries 5 ps = true → cassetteOf (byteAt ps 0) = some c → s.alarm.service = true →
      (1 ≤ word2 ps 1 ∧ word2 ps 1 ≤ 1000) → word2 ps 3 ≤ 2500 → (s.cassette c).state ≠ .absent →
      (s.cassette c).state ≠ .leveling → (s.cassette c).reserved = 0 →
      Yields (.cassetteLoad ps) s fun t => CommandLeaves { cassettes := [c] } okEmpty s t ∧
        t.cassette c = { s.cassette c with
          value := word2 ps 1, loaded := word2 ps 3, current := word2 ps 3, accepted := 0, rejectNotes := 0,
            testNotes := 0
          writtenOff := 0, lowFlag := decide (word2 ps 3 < (s.cassette c).lowMark)
          state := if word2 ps 3 = 0 then .empty else if (s.cassette c).reference = 0 then .unleveled else .ready }) ∧
  (∀ (ps : List Byte) (s : State),
      s.takes = true → carries 5 ps = true → s.alarm.service = false →
      Refuses (.cassetteLoad ps) s .notService) ∧
  (∀ (ps : List Byte) (s : State),
      s.takes = true → carries 5 ps = true → s.alarm.service = true →
      (cassetteOf (byteAt ps 0) = none ∨ word2 ps 1 < 1 ∨ 1000 < word2 ps 1 ∨ 2500 < word2 ps 3) →
      Refuses (.cassetteLoad ps) s .badParam) ∧
  (∀ (ps : List Byte) (c : CassetteId) (s : State),
      s.takes = true → carries 5 ps = true → cassetteOf (byteAt ps 0) = some c → s.alarm.service = true →
      (1 ≤ word2 ps 1 ∧ word2 ps 1 ≤ 1000) → word2 ps 3 ≤ 2500 →
      ((s.cassette c).state = .absent ∨ (s.cassette c).state = .leveling ∨ 0 < (s.cassette c).reserved) →
      Refuses (.cassetteLoad ps) s .wrongState)

/-- O16. CASSETTE SET writes guard and low mark, brought into range, and recomputes the low flag. (R24.) -/
def Obligations.CassetteSetClampsGuardAndLowMark : Prop :=
  (∀ (ps : List Byte) (c : CassetteId) (s : State),
      s.takes = true → carries 4 ps = true → cassetteOf (byteAt ps 0) = some c →
      Yields (.cassetteSet ps) s fun t => CommandLeaves { cassettes := [c] }
          { code := if byteAt ps 1 ≤ 50 ∧ word2 ps 2 ≤ 2500 then .ok else .clamped, payload := .empty } s t ∧
        t.cassette c = { s.cassette c with
          guard := min (byteAt ps 1) 50, lowMark := min (word2 ps 2) 2500
          lowFlag := decide ((s.cassette c).current < min (word2 ps 2) 2500) })

/-- O17. LEVEL START opens a session and queues its claim; LEVEL TRIAL answers by the held reading. (R36, R38, R78.) -/
def Obligations.LevelStartAndTrial : Prop :=
  (∀ (ps : List Byte) (c : CassetteId) (s : State),
      s.awake = true → carries 1 ps = true → cassetteOf (byteAt ps 0) = some c → s.lockdown = false →
      ((s.cassette c).state = .unleveled ∨ (s.cassette c).state = .ready) → (s.cassette c).reserved = 0 →
      (s.cassette c).current ≠ 0 →
      Yields (.levelStart ps) s fun t => CommandLeaves { cassettes := [c], path := true } okEmpty s t ∧
        t.cassette c = { s.cassette c with
            state := .leveling, leveling := some { phase := .waiting, trials := 0, lastTrial := none } } ∧
        t.path = { s.path with queue := s.path.queue ++ [.leveling c] }) ∧
  (∀ (ps : List Byte) (c : CassetteId) (v : Leveling) (g : Nat) (s : State),
      s.awake = true → carries 3 ps = true → cassetteOf (byteAt ps 0) = some c → word2 ps 1 ≤ 1023 →
      (s.cassette c).state = .leveling → (s.cassette c).leveling = some v → v.phase = .holding →
      s.path.heldReading = some g →
      Yields (.levelTrial ps) s fun t => CommandLeaves { cassettes := [c], path := true } {
          code := .ok, payload := .trial (decide (word2 ps 1 ≤ g)) } s t ∧
        t.cassette c = { s.cassette c with leveling := some { v with
          trials := if v.trials < 255 then v.trials + 1 else v.trials,
            lastTrial := some (word2 ps 1, decide (word2 ps 1 ≤ g)) } } ∧
        t.path = { s.path with levelingIdle := some 60000 })

/-- O18. LEVEL END in HOLDING, and the leveling idle expiry, spend the held note and release the transport. (R39, R40,
R28, R98.) -/
def Obligations.LevelEndSpendsTheHeldNote : Prop :=
  (∀ (ps : List Byte) (c : CassetteId) (v : Leveling) (s : State),
      s.awake = true → carries 3 ps = true → cassetteOf (byteAt ps 0) = some c →
      (word2 ps 1 = 0 ∨ (64 ≤ word2 ps 1 ∧ word2 ps 1 ≤ 960)) → (s.cassette c).state = .leveling →
      (s.cassette c).leveling = some v → v.phase = .holding → s.path.holder = some (.leveling c) →
      s.path.heldReading.isSome = true →
      Yields (.levelEnd ps) s fun t => CommandLeaves { cassettes := [c], bins := true, path := true } okEmpty s t ∧
        t.cassette c = { s.cassette c with
          reference := (if word2 ps 1 = 0 then (s.cassette c).reference else word2 ps 1),
            current := (s.cassette c).current - 1, testNotes := (s.cassette c).testNotes + 1
          lowFlag := (s.cassette c).lowFlag || decide ((s.cassette c).lowMark ≤ (s.cassette c).current ∧
            (s.cassette c).current - 1 < (s.cassette c).lowMark)
          state := if (s.cassette c).current - 1 = 0 then .empty
              else if (if word2 ps 1 = 0 then (s.cassette c).reference else word2 ps 1) ≠ 0 then .ready
              else .unleveled
          leveling := none, mark := (s.cassette c).mark } ∧
        t.custody.bins = { s.custody.bins with
            rejectCount := if s.custody.bins.rejectCounted then s.custody.bins.rejectCount + 1
              else s.custody.bins.rejectCount } ∧
        t.path = { s.path with
          state := .free, holder := none, entry := none, misses := 0, attempt := none, run := none,
            heldReading := none, levelingIdle := none
          queue := s.path.queue.filter (· != .leveling c), rejectPause := t.pauseDue
          shutterIdle := some (s.custody.settings.shutterIdleClose * 1000) }) ∧
  (∀ (ps : List Byte) (c : CassetteId) (v : Leveling) (s : State),
      s.awake = true → carries 3 ps = true → cassetteOf (byteAt ps 0) = some c → word2 ps 1 = 0 →
      (s.cassette c).state = .leveling → (s.cassette c).leveling = some v → v.phase = .waiting →
      s.path.holder ≠ some (.leveling c) →
      Yields (.levelEnd ps) s fun t => CommandLeaves { cassettes := [c], path := true } okEmpty s t ∧
        t.cassette c = { s.cassette c with
          state := if (s.cassette c).current = 0 then .empty else if (s.cassette c).reference ≠ 0 then .ready
              else .unleveled
          leveling := none } ∧
        t.path = { s.path with queue := s.path.queue.filter (· != .leveling c) }) ∧
  (∀ (c : CassetteId) (s : State),
      s.heeds = true → s.path.holder = some (.leveling c) → s.path.levelingIdle.isSome = true →
      s.path.heldReading.isSome = true →
      Yields .levelingIdleExpiry s fun t => EventLeaves { cassettes := [c], bins := true, path := true } s t ∧
        t.cassette c = { s.cassette c with
          reference := (s.cassette c).reference, current := (s.cassette c).current - 1,
            testNotes := (s.cassette c).testNotes + 1
          lowFlag := (s.cassette c).lowFlag || decide ((s.cassette c).lowMark ≤ (s.cassette c).current ∧
            (s.cassette c).current - 1 < (s.cassette c).lowMark)
          state := if (s.cassette c).current - 1 = 0 then .empty else if (s.cassette c).reference ≠ 0 then .ready
              else .unleveled
          leveling := none, mark := true } ∧
        t.custody.bins = { s.custody.bins with
            rejectCount := if s.custody.bins.rejectCounted then s.custody.bins.rejectCount + 1
              else s.custody.bins.rejectCount } ∧
        t.path = { s.path with
          state := .free, holder := none, entry := none, misses := 0, attempt := none, run := none,
            heldReading := none, levelingIdle := none
          queue := s.path.queue.filter (· != .leveling c), rejectPause := t.pauseDue
          shutterIdle := some (s.custody.settings.shutterIdleClose * 1000) })

/-- O19. A removed cassette goes ABSENT with its counts kept; orders that hold a reservation on it end CASSETTE_GONE.
(R20, R30, R34, R40, R68, R94, R98, R104, R183.) -/
def Obligations.CassetteRemovalFailsItsOrders : Prop :=
  (∀ (c : CassetteId) (s : State),
      s.heeds = true → (s.cassette c).state ≠ .absent → (s.cassette c).leveling = none →
      s.anyOrder (fun o => decide (0 < o.need c)) = false → s.sup.mode ≠ .enteringQuiet →
      Yields (.cassetteRemoved c) s fun t => EventLeaves {
          cassettes := [c], path := true, levels := true, closes := true } s t ∧ (∀ k, SessionSettles s t k) ∧
        t.cassette c = { s.cassette c with state := .absent, shutter := .shut, mark := true } ∧
        t.path = { s.path with attempt := t.path.attempt, shutterTravel := tableSet s.path.shutterTravel c none }) ∧
  (∀ (c : CassetteId) (i : OrderSlot) (o : Order) (s : State),
      s.heeds = true → (s.cassette c).state ≠ .absent → s.order i = some o → (o.state = .held ∨ o.state = .queued) →
      0 < o.need c → s.path.holder ≠ some (.order i) →
      Yields (.cassetteRemoved c) s fun t => (t.cassette c).state = .absent ∧ (t.cassette c).mark = true ∧
        t.order i = some { o with
            state := .failed, reason := some .cassetteGone, holdDeadline := none, presentDeadline := none,
            mark := true }) ∧
  (∀ (c : CassetteId) (i : OrderSlot) (o : Order) (s : State),
      s.heeds = true → (s.cassette c).state ≠ .absent → s.order i = some o → o.need c = 0 →
      Yields (.cassetteRemoved c) s fun t => (t.cassette c).state = .absent ∧ t.order i = some o) ∧
  (∀ (c : CassetteId) (i : OrderSlot) (o : Order) (s : State),
      s.heeds = true → (s.cassette c).state ≠ .absent → s.path.state = .picking → s.path.holder = some (.order i) →
      s.order i = some o → o.state = .picking → 0 < o.need c →
      Yields (.cassetteRemoved c) s fun t => if o.acceptedTotal = 0
        then t.order i = some { o with
            state := .failed, reason := some .cassetteGone, unresolved := 0, holdDeadline := none,
            presentDeadline := none, mark := true } ∧
          t.path = { s.path.freed s with
              queue := t.path.queue, shutterTravel := tableSet s.path.shutterTravel c none }
        else t.order i = some { o with state := .aborting, reason := some .cassetteGone, mark := true } ∧
          t.path = { s.path.purged with
              queue := t.path.queue, shutterTravel := tableSet s.path.shutterTravel c none }) ∧
  (∀ (c : CassetteId) (v : Leveling) (s : State),
      s.heeds = true → (s.cassette c).state ≠ .absent → (s.cassette c).leveling = some v →
      s.anyOrder (fun o => decide (0 < o.need c)) = false → s.sup.mode ≠ .enteringQuiet →
      s.path.holder = some (.leveling c) → s.path.heldReading.isSome = true →
      Yields (.cassetteRemoved c) s fun t => EventLeaves {
          cassettes := [c], bins := true, path := true, levels := true, closes := true } s t ∧
        (∀ k, SessionSettles s t k) ∧
        t.cassette c = { s.cassette c with
          state := .absent, shutter := .shut, leveling := none, mark := true
          current := (s.cassette c).current - 1, testNotes := (s.cassette c).testNotes + 1
          lowFlag := (s.cassette c).lowFlag || decide ((s.cassette c).lowMark ≤ (s.cassette c).current ∧
            (s.cassette c).current - 1 < (s.cassette c).lowMark) } ∧
        t.custody.bins = { s.custody.bins with
            rejectCount := if s.custody.bins.rejectCounted then s.custody.bins.rejectCount + 1
              else s.custody.bins.rejectCount } ∧
        t.path = { s.path.freed s with
          queue := s.path.queue.filter (· != .leveling c), shutterTravel := tableSet s.path.shutterTravel c none,
            rejectPause := t.pauseDue }) ∧
  (∀ (c : CassetteId) (v : Leveling) (s : State),
      s.heeds = true → (s.cassette c).state ≠ .absent → (s.cassette c).leveling = some v →
      s.anyOrder (fun o => decide (0 < o.need c)) = false → s.sup.mode ≠ .enteringQuiet →
      s.path.holder = some (.leveling c) → s.path.heldReading = none →
      Yields (.cassetteRemoved c) s fun t => EventLeaves {
          cassettes := [c], path := true, levels := true, closes := true } s t ∧ (∀ k, SessionSettles s t k) ∧
        t.cassette c = { s.cassette c with state := .absent, shutter := .shut, leveling := none, mark := true } ∧
        t.path = { s.path.freed s with
          queue := s.path.queue.filter (· != .leveling c), shutterTravel := tableSet s.path.shutterTravel c none }) ∧
  (∀ (c : CassetteId) (v : Leveling) (s : State),
      s.heeds = true → (s.cassette c).state ≠ .absent → (s.cassette c).leveling = some v →
      s.anyOrder (fun o => decide (0 < o.need c)) = false → s.sup.mode ≠ .enteringQuiet →
      s.path.holder ≠ some (.leveling c) → s.pickTarget ≠ some c →
      Yields (.cassetteRemoved c) s fun t => EventLeaves {
          cassettes := [c], path := true, levels := true, closes := true } s t ∧ (∀ k, SessionSettles s t k) ∧
        t.cassette c = { s.cassette c with state := .absent, shutter := .shut, leveling := none, mark := true } ∧
        t.path = { s.path with
            queue := s.path.queue.filter (· != .leveling c),
            shutterTravel := tableSet s.path.shutterTravel c none }) ∧
  (∀ (c : CassetteId) (s : State),
      s.heeds = true → (s.cassette c).state ≠ .absent → (s.cassette c).leveling = none →
      s.anyOrder (fun o => decide (0 < o.need c)) = false → s.sup.mode = .enteringQuiet →
      Yields (.cassetteRemoved c) s fun t => EventLeaves {
          cassettes := [c], path := true, sup := true, levels := true, closes := true } s t ∧
        (∀ k, SessionSettles s t k) ∧
        t.cassette c = { s.cassette c with state := .absent, shutter := .shut, mark := true } ∧
        t.sup = if ∀ k, k ≠ c → (s.cassette k).shutter = .shut
          then { s.sup with mode := .quiet, rails := false, quietDwell := some 1000 } else s.sup) ∧
  (∀ (c : CassetteId) (s : State),
      s.heeds = true → (s.cassette c).state ≠ .absent →
      Yields (.cassetteRemoved c) s fun t =>
        EventLeaves {
            cassettes := positions _, orders := positions _, placement := true, bins := true, path := true,
            sup := true, levels := true, closes := true } s t ∧
        (∀ l, SessionSettles s t l) ∧ (∀ i, s.losesTo c i = false → t.order i = s.order i) ∧
        t.custody.placement = (s.custody.placement.filter fun i => !s.endsBy c i) ∧
        t.path.queue = (s.path.queue.filter fun q => !s.claimEnds c q) ∧
        (∀ k, (t.cassette k).reserved =
          (s.cassette k).reserved - (((positions _).filter (s.losesTo c)).map (s.needOf k)).sum) ∧
        (∀ k, k ≠ c → t.cassette k = { s.cassette k with
          reserved := (t.cassette k).reserved
          mark := (s.cassette k).mark || decide ((t.cassette k).reserved ≠ (s.cassette k).reserved) }) ∧
        t.cassette c = { s.cassette c with
          state := .absent, shutter := .shut, leveling := none, reserved := (t.cassette c).reserved, mark := true
          current := if s.gaugeHolds c then (s.cassette c).current - 1 else (s.cassette c).current
          testNotes := if s.gaugeHolds c then (s.cassette c).testNotes + 1 else (s.cassette c).testNotes
          lowFlag := (s.cassette c).lowFlag || s.gaugeHolds c && decide ((s.cassette c).lowMark ≤ (s.cassette c).current ∧ (s.cassette c).current - 1 < (s.cassette c).lowMark) } ∧
        t.custody.bins = { s.custody.bins with
          rejectCount := if s.gaugeHolds c && s.custody.bins.rejectCounted then s.custody.bins.rejectCount + 1
              else s.custody.bins.rejectCount } ∧
        t.sup = if s.sup.mode = .enteringQuiet ∧ ∀ k, k ≠ c → (s.cassette k).shutter = .shut
          then { s.sup with mode := .quiet, rails := false, quietDwell := some 1000 } else s.sup) ∧
  (∀ (c : CassetteId) (s : State),
      s.heeds = true → (s.cassette c).state ≠ .absent → s.path.holder ≠ some (.leveling c) →
      (∀ i, s.picks i = true → s.losesTo c i = false) →
      Yields (.cassetteRemoved c) s fun t => t.path = { s.path with
        attempt := if s.pickTarget = some c then none else s.path.attempt
        queue := (s.path.queue.filter fun q => !s.claimEnds c q),
          shutterTravel := tableSet s.path.shutterTravel c none })

/-- O20. A seated cassette goes UNCOUNTED; a travelling shutter arrives; the idle expiry closes every open shutter. (R21,
R33, R34, R84, R183.) -/
def Obligations.SeatingAndShutterTravel : Prop :=
  (∀ (c : CassetteId) (s : State),
      s.heeds = true → (s.cassette c).state = .absent →
      Yields (.cassetteSeated c) s fun t => EventLeaves { cassettes := [c], path := true, levels := true } s t ∧
        t.cassette c = { s.cassette c with state := .uncounted, value := 0, shutter := .shut, mark := true } ∧
        t.path = { s.path with shutterTravel := tableSet s.path.shutterTravel c none }) ∧
  (∀ (c : CassetteId) (s : State),
      s.heeds = true → (s.cassette c).shutter = .opening →
      Yields (.shutterTravelEnd c) s fun t => EventLeaves { cassettes := [c], path := true } s t ∧
        t.cassette c = { s.cassette c with shutter := .opened, mark := true } ∧
        (s.pickTarget = some c → s.path.attempt = none → s.sup.rails = true → s.lockdown = false →
          t.path.attempt = some { left := 250, last := false, noMiss := false }) ∧
        t.path = { s.path with
          shutterTravel := tableSet s.path.shutterTravel c none
          attempt := s.path.attempt.or (s.pickTarget.bind (s.modCassette c fun r => { r with
              shutter := .opened }).freshAttempt) }) ∧
  (∀ (c : CassetteId) (s : State),
      s.heeds = true → (s.cassette c).shutter = .closing → s.sup.mode ≠ .enteringQuiet →
      Yields (.shutterTravelEnd c) s fun t => EventLeaves { cassettes := [c], path := true } s t ∧
        t.cassette c = { s.cassette c with shutter := .shut, mark := true } ∧
        t.path = { s.path with shutterTravel := tableSet s.path.shutterTravel c none }) ∧
  (∀ (c : CassetteId) (s : State),
      s.heeds = true → (s.cassette c).shutter = .closing → s.sup.mode = .enteringQuiet →
      (∀ d, d = c ∨ (s.cassette d).shutter = .shut) →
      Yields (.shutterTravelEnd c) s fun t => EventLeaves { cassettes := [c], path := true, sup := true } s t ∧
        t.cassette c = { s.cassette c with shutter := .shut, mark := true } ∧
        t.sup = { s.sup with mode := .quiet, rails := false, quietDwell := some 1000 } ∧
        t.path = { s.path with shutterTravel := tableSet s.path.shutterTravel c none }) ∧
  (∀ (c d : CassetteId) (s : State),
      s.heeds = true → (s.cassette c).shutter = .closing → s.sup.mode = .enteringQuiet → d ≠ c →
      (s.cassette d).shutter ≠ .shut →
      Yields (.shutterTravelEnd c) s fun t => EventLeaves { cassettes := [c], path := true } s t ∧
        t.cassette c = { s.cassette c with shutter := .shut, mark := true } ∧
        t.path = { s.path with shutterTravel := tableSet s.path.shutterTravel c none }) ∧
  (∀ (s : State),
      s.heeds = true → s.path.shutterIdle.isSome = true →
      Yields .shutterIdleExpiry s fun t => EventLeaves { cassettes := [0, 1, 2, 3, 4, 5], path := true } s t ∧
        (∀ c, t.cassette c = if (s.cassette c).shutter = .opened ∨ (s.cassette c).shutter = .opening
          then { s.cassette c with shutter := .closing, mark := true } else s.cassette c) ∧
        (∀ c, t.path.shutterTravel.get c = if (s.cassette c).shutter = .opened ∨ (s.cassette c).shutter = .opening
          then some 300 else s.path.shutterTravel.get c) ∧
        t.path = { s.path with shutterIdle := none, shutterTravel := t.path.shutterTravel })

/-- O21. ORDER PLACE allocates the lowest free slot, advances its tag, reserves the mix and makes the order HELD or
QUEUED. (R2, R30, R53, R54, R56, R58, R59, R9.) -/
def Obligations.OrderPlaceReservesTheMix : Prop :=
  (∀ (ps : List Byte) (l : LaneId) (h : Bool) (i : OrderSlot) (mix : List MixEntry) (s : State),
      s.awake = true → carries (5 + 3 * byteAt ps 4) ps = true → laneOf (byteAt ps 0) = some l →
      flagOf (byteAt ps 3) = some h → (1 ≤ word2 ps 1 ∧ word2 ps 1 ≤ 60000) →
      capsValid (capsAt ps (byteAt ps 4) 5) = true → s.alarm.service = false → s.lockdown = false →
      (s.lane l).session = .opened → (s.lane l).lock = .none → s.freeSlot = some i →
      s.findMix (word2 ps 1) (capsAt ps (byteAt ps 4) 5) = some mix → s.custody.bins.retractCounted = true →
      s.custody.bins.retractCount + s.outstanding + (mix.map (·.count)).sum ≤ 300 →
      Yields (.orderPlace ps) s fun t => CommandLeaves {
          cassettes := [0, 1, 2, 3, 4, 5], orders := [i], tags := true, placement := true, path := true }
          { code := .ok, payload := .placed ((s.custody.tags.get i + 1#4) ++ BitVec.ofNat 4 (i.val + 1)) mix } s t ∧
        t.order i = some {
            lane := l, amount := word2 ps 1, hold := h, caps := capsAt ps (byteAt ps 4) 5, mix := mix,
            state := if h then .held else .queued, reason := none, rejectItems := 0, rejectNotes := 0,
            presented := 0, taken := 0, retracted := 0, recovered := 0, unresolved := 0,
            holdDeadline := if h then some (s.clock + s.custody.settings.holdLimit) else none,
            presentDeadline := none, mark := false } ∧
        t.custody.tags = tableSet s.custody.tags i (s.custody.tags.get i + 1#4) ∧
        t.custody.placement = s.custody.placement ++ [i] ∧
        (∀ c, t.cassette c = { s.cassette c with
          reserved := (s.cassette c).reserved + ((mix.filter fun e => e.slot == c).map (·.count)).sum
          mark := (s.cassette c).mark || decide (((mix.filter fun e => e.slot == c).map (·.count)).sum ≠ 0) }) ∧
        t.path = { s.path with queue := if h then s.path.queue else s.path.queue ++ [.order i] }) ∧
  (∀ (ps : List Byte) (l : LaneId) (h : Bool) (s : State),
      s.awake = true → carries (5 + 3 * byteAt ps 4) ps = true → laneOf (byteAt ps 0) = some l →
      flagOf (byteAt ps 3) = some h → (1 ≤ word2 ps 1 ∧ word2 ps 1 ≤ 60000) →
      capsValid (capsAt ps (byteAt ps 4) 5) = true → s.alarm.service = false → s.lockdown = false →
      (s.lane l).session = .opened → (s.lane l).lock = .none → s.freeSlot = none →
      Refuses (.orderPlace ps) s .tableFull) ∧
  (∀ (ps : List Byte) (l : LaneId) (h : Bool) (s : State),
      s.awake = true → carries (5 + 3 * byteAt ps 4) ps = true → laneOf (byteAt ps 0) = some l →
      flagOf (byteAt ps 3) = some h → (1 ≤ word2 ps 1 ∧ word2 ps 1 ≤ 60000) →
      capsValid (capsAt ps (byteAt ps 4) 5) = true → s.alarm.service = false → s.lockdown = false →
      (s.lane l).session = .opened → (s.lane l).lock = .none → s.freeSlot.isSome = true →
      s.findMix (word2 ps 1) (capsAt ps (byteAt ps 4) 5) = none →
      Refuses (.orderPlace ps) s .noMix) ∧
  (∀ (ps : List Byte) (l : LaneId) (h : Bool) (mix : List MixEntry) (s : State),
      s.awake = true → carries (5 + 3 * byteAt ps 4) ps = true → laneOf (byteAt ps 0) = some l →
      flagOf (byteAt ps 3) = some h → (1 ≤ word2 ps 1 ∧ word2 ps 1 ≤ 60000) →
      capsValid (capsAt ps (byteAt ps 4) 5) = true → s.alarm.service = false → s.lockdown = false →
      (s.lane l).session = .opened → (s.lane l).lock = .none → s.freeSlot.isSome = true →
      s.findMix (word2 ps 1) (capsAt ps (byteAt ps 4) 5) = some mix → s.custody.bins.retractCounted = false →
      Refuses (.orderPlace ps) s .uncounted) ∧
  (∀ (ps : List Byte) (l : LaneId) (h : Bool) (mix : List MixEntry) (s : State),
      s.awake = true → carries (5 + 3 * byteAt ps 4) ps = true → laneOf (byteAt ps 0) = some l →
      flagOf (byteAt ps 3) = some h → (1 ≤ word2 ps 1 ∧ word2 ps 1 ≤ 60000) →
      capsValid (capsAt ps (byteAt ps 4) 5) = true → s.alarm.service = false → s.lockdown = false →
      (s.lane l).session = .opened → (s.lane l).lock = .none → s.freeSlot.isSome = true →
      s.findMix (word2 ps 1) (capsAt ps (byteAt ps 4) 5) = some mix → s.custody.bins.retractCounted = true →
      300 < s.custody.bins.retractCount + s.outstanding + (mix.map (·.count)).sum →
      Yields (.orderPlace ps) s fun t => t.result = some .retractFull ∧
        t.port.notices &&& Notice.bins.bit = Notice.bins.bit ∧ t.custody = s.custody)

/-- O22. Every step keeps the second law: the reserved count of a cassette is what its holders still need, within its
current count. (R31, R30, R32, R20, R23, R36, R46, R78, R81, R100.) -/
def Obligations.StepsKeepTheSecondLaw : Prop :=
  (∀ (s t : State),
      LinkLaw s → SecondLaw s → SessionLaw s → PlaceLaw s → step s = .next t →
      SecondLaw t ∧ SessionLaw t ∧ PlaceLaw t)

/-- O23. ORDER RELEASE queues a HELD order; ORDER CANCEL and the hold deadline end an order that has moved no notes and
release its reservations. (R3, R60, R61, R62, R63, R30, R78, section 8.6.) -/
def Obligations.ReleaseCancelAndHoldExpiryOfAnOrder : Prop :=
  (∀ (ps : List Byte) (i : OrderSlot) (o : Order) (s : State),
      s.awake = true → carries 1 ps = true → handleSlot (byteAt ps 0) = some i → s.order i = some o →
      handleTag (byteAt ps 0) = s.custody.tags.get i → o.state = .held → s.alarm.service = false →
      (s.lane o.lane).lock = .none →
      Yields (.orderRelease ps) s fun t => CommandLeaves { orders := [i], path := true } okEmpty s t ∧
        t.order i = some { o with state := .queued, holdDeadline := none } ∧
        t.path = { s.path with queue := s.path.queue ++ [.order i] }) ∧
  (∀ (ps : List Byte) (i : OrderSlot) (o : Order) (s : State),
      s.awake = true → carries 1 ps = true → handleSlot (byteAt ps 0) = some i → s.order i = some o →
      handleTag (byteAt ps 0) = s.custody.tags.get i →
      (o.state = .held → s.alarm.service = true ∨ (s.lane o.lane).lock ≠ .none) →
      Refuses (.orderRelease ps) s (if o.state = .cancelled ∧ o.reason = some .expired then .expired
        else if o.state = .held ∧ s.alarm.service = false then .laneLocked else .wrongState)) ∧
  (∀ (ps : List Byte) (i : OrderSlot) (o : Order) (s : State),
      s.takes = true → carries 1 ps = true → handleSlot (byteAt ps 0) = some i → s.order i = some o →
      handleTag (byteAt ps 0) = s.custody.tags.get i → (o.state = .held ∨ o.state = .queued) →
      Yields (.orderCancel ps) s fun t => CommandLeaves {
          cassettes := [0, 1, 2, 3, 4, 5], orders := [i], placement := true, path := true } okEmpty s t ∧
        t.order i = some { o with
            state := .cancelled, reason := some .station, holdDeadline := none, presentDeadline := none } ∧
        Released o s t ∧ t.custody.placement = s.custody.placement.filter (· != i) ∧
          t.path = { s.path with queue := s.path.queue.filter (· != .order i) }) ∧
  (∀ (i : OrderSlot) (o : Order) (s : State),
      s.heeds = true → s.order i = some o → o.state = .held →
      Yields (.holdDeadlineExpiry i) s fun t =>
        EventLeaves { cassettes := [0, 1, 2, 3, 4, 5], orders := [i], placement := true, path := true } s t ∧
        t.order i = some { o with
            state := .cancelled, reason := some .expired, holdDeadline := none, presentDeadline := none,
            mark := true } ∧
        Released o s t ∧ t.custody.placement = s.custody.placement.filter (· != i) ∧
          t.path = { s.path with queue := s.path.queue.filter (· != .order i) }) ∧
  (∀ (ps : List Byte) (i : OrderSlot) (o : Order) (s : State),
      s.takes = true → carries 1 ps = true → handleSlot (byteAt ps 0) = some i → s.order i = some o →
      handleTag (byteAt ps 0) = s.custody.tags.get i → o.state ≠ .held → o.state ≠ .queued →
      Refuses (.orderCancel ps) s (if o.state = .cancelled ∧ o.reason = some .expired then .expired else .wrongState))

/-- O24. ORDER RETIRE frees the slot of a terminal order, tag kept; ORDER RESOLVE settles unresolved notes. (R15, R71,
R3.) -/
def Obligations.RetireAndResolveTerminalOrders : Prop :=
  (∀ (ps : List Byte) (i : OrderSlot) (o : Order) (s : State),
      s.takes = true → carries 1 ps = true → handleSlot (byteAt ps 0) = some i → s.order i = some o →
      handleTag (byteAt ps 0) = s.custody.tags.get i → o.state.terminal = true →
      Yields (.orderRetire ps) s fun t => CommandLeaves { orders := [i] } okEmpty s t ∧ t.order i = none) ∧
  (∀ (ps : List Byte) (i : OrderSlot) (o : Order) (s : State),
      s.takes = true → carries 1 ps = true → handleSlot (byteAt ps 0) = some i → s.order i = some o →
      handleTag (byteAt ps 0) = s.custody.tags.get i → o.state.terminal = false →
      Refuses (.orderRetire ps) s .wrongState) ∧
  (∀ (ps : List Byte) (i : OrderSlot) (s : State),
      s.takes = true → carries 1 ps = true → handleSlot (byteAt ps 0) = some i →
      ((s.order i).isNone = true ∨ handleTag (byteAt ps 0) ≠ s.custody.tags.get i) →
      Refuses (.orderRetire ps) s (if (s.order i).isNone then .noSuch else .stale)) ∧
  (∀ (ps : List Byte) (i : OrderSlot) (o : Order) (d : Disposition) (n : Nat) (s : State),
      s.takes = true → carries 3 ps = true → s.alarm.service = true → dispositionOf (byteAt ps 1) = some d →
      handleSlot (byteAt ps 0) = some i → byteAt ps 2 ≤ 60 → s.order i = some o →
      handleTag (byteAt ps 0) = s.custody.tags.get i → o.state.terminal = true →
      (n = if byteAt ps 2 = 0 then o.unresolved else byteAt ps 2) → (1 ≤ n ∧ n ≤ o.unresolved) →
      Yields (.orderResolve ps) s fun t =>
        let q := { o with
            unresolved := o.unresolved - n, taken := if d = .delivered then o.taken + n else o.taken,
            recovered := if d = .recovered then o.recovered + n else o.recovered }
        CommandLeaves { orders := [i] } { code := .ok, payload := .settled q.taken q.recovered q.unresolved } s t ∧
          t.order i = some q) ∧
  (∀ (ps : List Byte) (s : State),
      s.takes = true → carries 3 ps = true → s.alarm.service = false →
      Refuses (.orderResolve ps) s .notService) ∧
  (∀ (ps : List Byte) (s : State),
      s.takes = true → carries 3 ps = true → s.alarm.service = true →
      (dispositionOf (byteAt ps 1) = none ∨ 60 < byteAt ps 2 ∨ handleSlot (byteAt ps 0) = none) →
      Refuses (.orderResolve ps) s .badParam) ∧
  (∀ (ps : List Byte) (i : OrderSlot) (d : Disposition) (s : State),
      s.takes = true → carries 3 ps = true → s.alarm.service = true → dispositionOf (byteAt ps 1) = some d →
      byteAt ps 2 ≤ 60 → handleSlot (byteAt ps 0) = some i →
      ((s.order i).isNone = true ∨ handleTag (byteAt ps 0) ≠ s.custody.tags.get i) →
      Refuses (.orderResolve ps) s (if (s.order i).isNone then .noSuch else .stale)) ∧
  (∀ (ps : List Byte) (i : OrderSlot) (o : Order) (d : Disposition) (s : State),
      s.takes = true → carries 3 ps = true → s.alarm.service = true → dispositionOf (byteAt ps 1) = some d →
      byteAt ps 2 ≤ 60 → handleSlot (byteAt ps 0) = some i → s.order i = some o →
      handleTag (byteAt ps 0) = s.custody.tags.get i →
      (o.state.terminal = false ∨ o.unresolved = 0 ∨ o.unresolved < byteAt ps 2) →
      Refuses (.orderResolve ps) s .wrongState)

/-- O25. ENVELOPE ANNOTATE writes amount and reference; ENVELOPE RETIRE removes a STRAYED record; they and ENVELOPE READ
refuse a number that names none. (R8, R16, R134, R135, R136, R180.) -/
def Obligations.EnvelopeAnnotateAndRetire : Prop :=
  (∀ (ps : List Byte) (e : Envelope) (s : State),
      s.takes = true → carries (8 + byteAt ps 7) ps = true → word4 ps 0 ≠ 0 → s.envelope (word4 ps 0) = some e →
      (word3 ps 4 = 0xFFFFFF ∨ word3 ps 4 ≤ 999999) → byteAt ps 7 ≤ 16 →
      Yields (.envelopeAnnotate ps) s fun t => CommandLeaves { envelopes := [word4 ps 0] } okEmpty s t ∧
        t.envelope (word4 ps 0) = some { e with
          declared := if word3 ps 4 = 0xFFFFFF then none else some (word3 ps 4)
          reference := if byteAt ps 7 = 0 then none else some ((ps.drop 8).take (byteAt ps 7)) }) ∧
  (∀ (ps : List Byte) (e : Envelope) (s : State),
      s.takes = true → carries 4 ps = true → s.alarm.service = true → word4 ps 0 ≠ 0 →
      s.envelope (word4 ps 0) = some e → e.state = .strayed →
      Yields (.envelopeRetire ps) s fun t => CommandLeaves { envelopes := [word4 ps 0] } okEmpty s t ∧
        t.envelope (word4 ps 0) = none) ∧
  (∀ (ps : List Byte) (s : State),
      s.takes = true → carries 4 ps = true → s.envelope (word4 ps 0) = none →
      Refuses (.envelopeRead ps) s (if word4 ps 0 = 0 then .badParam else .noSuch)) ∧
  (∀ (ps : List Byte) (s : State),
      s.takes = true → carries (8 + byteAt ps 7) ps = true →
      (word4 ps 0 = 0 ∨ (word3 ps 4 ≠ 0xFFFFFF ∧ 999999 < word3 ps 4) ∨ 16 < byteAt ps 7) →
      Refuses (.envelopeAnnotate ps) s .badParam) ∧
  (∀ (ps : List Byte) (s : State),
      s.takes = true → carries (8 + byteAt ps 7) ps = true → word4 ps 0 ≠ 0 →
      (word3 ps 4 = 0xFFFFFF ∨ word3 ps 4 ≤ 999999) → byteAt ps 7 ≤ 16 → s.envelope (word4 ps 0) = none →
      Refuses (.envelopeAnnotate ps) s .noSuch) ∧
  (∀ (ps : List Byte) (s : State),
      s.takes = true → carries 4 ps = true → s.alarm.service = false →
      Refuses (.envelopeRetire ps) s .notService) ∧
  (∀ (ps : List Byte) (s : State),
      s.takes = true → carries 4 ps = true → s.alarm.service = true →
      (word4 ps 0 = 0 ∨ s.envelope (word4 ps 0) = none) →
      Refuses (.envelopeRetire ps) s (if word4 ps 0 = 0 then .badParam else .noSuch)) ∧
  (∀ (ps : List Byte) (e : Envelope) (s : State),
      s.takes = true → carries 4 ps = true → s.alarm.service = true → word4 ps 0 ≠ 0 →
      s.envelope (word4 ps 0) = some e → e.state ≠ .strayed →
      Refuses (.envelopeRetire ps) s .wrongState)

/-- O26. BIN CLEAR retires every BINNED record and makes the capture bin COUNTED; CONVEYOR RESTART ends a halt. (R138,
R16, R131.) -/
def Obligations.BinClearAndConveyorRestart : Prop :=
  (∀ (ps : List Byte) (s : State),
      s.takes = true → carries 0 ps = true → s.alarm.service = true → (s.zone 1).input = .active →
      Yields (.binClear ps) s fun t => CommandLeaves {
          envelopes := s.captured .binned, bins := true, conveyor := true }
          {
              code := .ok,
              payload := .cleared (s.custody.envelopes.filter fun e => e.state == .binned).length s.custody.bins.unexpected } s t ∧
        t.custody.envelopes = (s.custody.envelopes.filter fun e => e.state != .binned) ∧
        t.custody.bins = { s.custody.bins with unexpected := 0, captureCounted := true } ∧
          t.conveyor = { s.conveyor with binList := [] }) ∧
  (∀ (ps : List Byte) (s : State),
      s.takes = true → carries 0 ps = true → (s.alarm.service = false ∨ (s.zone 1).input = .quiet) →
      Refuses (.binClear ps) s (if s.alarm.service = false then .notService else .wrongState)) ∧
  (∀ (ps : List Byte) (s : State),
      s.takes = true → carries 0 ps = true → s.sup.mode ≠ .enteringQuiet → s.sup.mode ≠ .quiet →
      s.conveyor.state = .halted → (s.zone 14).input = .quiet →
      Yields (.conveyorRestart ps) s fun t => CommandLeaves { conveyor := true } okEmpty s t ∧
        t.conveyor = { s.conveyor with state := .running })

/-- O27. An admission sends the oldest INTAKE record onto the conveyor, and a waiting drawer drops its envelope into the
gate. (R124, R125, R121, R112, R104.) -/
def Obligations.AdmissionTakesTheOldestIntakeRecord : Prop :=
  (∀ (e : Envelope) (s : State),
      s.heeds = true → s.oldestIntake = some e → s.envelope e.capture = some e → s.conveyor.state = .running →
      s.conveyor.list.length < 8 → s.sup.mode = .active → s.conveyor.spacing = none →
      (s.custody.envelopes.map (·.capture)).Nodup → s.drawerWaits e.lane = false →
      Yields .admission s fun t => EventLeaves { envelopes := [e.capture], conveyor := true, closes := true } s t ∧
        (∀ k, SessionSettles s t k) ∧
        t.envelope e.capture = some { e with state := .conveying, mark := true } ∧
        t.conveyor = { s.conveyor with
          list := s.conveyor.list ++ [e.capture], transit := if s.conveyor.list.isEmpty then some 8000
              else s.conveyor.transit
          spacing := some 1000, gatesDriven := [e.lane] }) ∧
  (∀ (e : Envelope) (s : State),
      s.heeds = true → s.oldestIntake = some e → s.envelope e.capture = some e → s.conveyor.state = .running →
      s.conveyor.list.length < 8 → s.sup.mode = .active → s.conveyor.spacing = none →
      (s.custody.envelopes.map (·.capture)).Nodup → s.drawerWaits e.lane = true →
      Yields .admission s fun t => EventLeaves {
          envelopes := [e.capture, s.issueNumber], counter := true, lanes := [e.lane], conveyor := true,
          closes := true } s t ∧
        t.envelope e.capture = some { e with state := .conveying, mark := true } ∧
        t.custody.envelopes.getLast? = some {
            capture := s.issueNumber, lane := e.lane, state := .intake, binPosition := none, acceptedAt := s.clock,
            declared := none, reference := none, mark := true } ∧
        t.custody.envelopes.length = s.custody.envelopes.length + 1 ∧
        t.custody.captureCounter = nextCapture s.issueNumber ∧ 
        t.lane e.lane = { s.lane e.lane with claim := false, session := (t.lane e.lane).session, mark := true } ∧
          (∀ k, SessionSettles s t k) ∧
        t.conveyor = { s.conveyor with
          list := s.conveyor.list ++ [e.capture], transit := if s.conveyor.list.isEmpty then some 8000
              else s.conveyor.transit
          spacing := some 1000, gatesDriven := [e.lane] })

/-- O28. A bin arrival bins the head of the list or is unexpected; the transit expiry strays the head and halts the belt.
(R124, R127, R128, R129, R130, R139.) -/
def Obligations.BinArrivalsAndStrays : Prop :=
  (∀ (n : Nat) (rest : List Nat) (e : Envelope) (s : State),
      s.heeds = true → s.conveyor.list = n :: rest → s.belt = true → s.envelope n = some e → e.state = .conveying →
      (s.custody.envelopes.map (·.capture)).Nodup →
      Yields .binArrival s fun t => EventLeaves { envelopes := [n], conveyor := true } s t ∧
        t.envelope n = some { e with
            state := .binned, binPosition := some (s.conveyor.binList.length + 1), mark := true } ∧
        t.conveyor = { s.conveyor with
            list := rest, binList := s.conveyor.binList ++ [n],
            transit := if rest.isEmpty then none else some 8000 }) ∧
  (∀ (s : State),
      s.heeds = true → (s.belt = false ∨ s.conveyor.list = []) → s.conveyor.clearance = none →
      Yields .binArrival s fun t => EventLeaves { bins := true } s t ∧
        t.custody.bins = { s.custody.bins with
            unexpected := if s.custody.bins.unexpected < 255 then s.custody.bins.unexpected + 1
              else s.custody.bins.unexpected } ∧
        (if s.hushed then t.port.heldNotices else t.port.notices) &&& Notice.envelopes.bit = Notice.envelopes.bit) ∧
  (∀ (s : State),
      s.heeds = true → (s.belt = false ∨ s.conveyor.list = []) → s.conveyor.clearance.isSome = true →
      Yields .binArrival s fun t => EventLeaves {} s t) ∧
  (∀ (n : Nat) (rest : List Nat) (e : Envelope) (s : State),
      s.heeds = true → s.conveyor.list = n :: rest → s.conveyor.transit.isSome = true → s.belt = true →
      s.envelope n = some e → e.state = .conveying → (s.custody.envelopes.map (·.capture)).Nodup →
      Yields .transitTimerExpiry s fun t => EventLeaves { envelopes := [n], conveyor := true } s t ∧
        t.envelope n = some { e with state := .strayed, mark := true } ∧
        t.conveyor = { s.conveyor with
            state := .halted, list := rest, transit := if rest.isEmpty then none else some 8000 }) ∧
  (∀ (s : State),
      s.heeds = true →
      Yields .admissionSpacingExpiry s fun t => EventLeaves { conveyor := true } s t ∧
        t.conveyor = { s.conveyor with spacing := none }) ∧
  (∀ (s : State),
      s.heeds = true → s.conveyor.clearance.isSome = true →
      Yields .clearanceEnd s fun t => EventLeaves { conveyor := true, bins := true } s t ∧
        t.conveyor = { s.conveyor with state := .running, clearance := none } ∧
        t.custody.bins = { s.custody.bins with unexpected := 0 })

/-- O29. SESSION OPEN makes its checks in sequence and then opens the session. (R102.) -/
def Obligations.SessionOpenChecksInSequence : Prop :=
  (∀ (ps : List Byte) (s : State),
      s.takes = true → carries 1 ps = true →
      if s.sup.mode = .enteringQuiet ∨ s.sup.mode = .quiet then Refuses (.sessionOpen ps) s .quiet
      else if s.sup.mode = .waking then Refuses (.sessionOpen ps) s .waking
      else match laneOf (byteAt ps 0) with
        | none => Refuses (.sessionOpen ps) s .badParam
        | some l =>
          if s.alarm.service then Refuses (.sessionOpen ps) s .wrongState
          else if s.lockdown then Refuses (.sessionOpen ps) s .lockdown
          else if (s.lane l).session ≠ .closed then Refuses (.sessionOpen ps) s .wrongState
          else if (s.lane l).lock ≠ .none then Refuses (.sessionOpen ps) s .laneLocked
          else if (s.lane l).drawer ≠ .closed ∨ (s.lane l).head ≠ none ∨ (s.lane l).claim = true
              then Refuses (.sessionOpen ps) s .wrongState
          else Yields (.sessionOpen ps) s fun t => CommandLeaves { lanes := [l] } okEmpty s t ∧
            t.lane l = { s.lane l with session := .opened })

/-- O30. SESSION CLOSE takes an OPEN session to CLOSING and deals with every piece of the lane's work. (R30, R78, R103,
R104, R106, R113, R165.) -/
def Obligations.SessionCloseUnwindsTheLane : Prop :=
  (∀ (ps : List Byte) (l : LaneId) (s : State),
      s.awake = true → carries 1 ps = true → laneOf (byteAt ps 0) = some l → (s.lane l).session = .opened →
      Yields (.sessionClose ps) s fun t =>
        CommandLeaves {
            cassettes := [0, 1, 2, 3, 4, 5], orders := positions _, placement := true, lanes := [l], closes := true,
            path := true, work := [l] } okEmpty s t ∧
        SessionCloses t l .sessionClosed ∧ (∀ k, k ≠ l → SessionSettles s t k) ∧
        (∀ k, (t.watch.slots.get k).scope = some l → (t.watch.slots.get k).enable = false) ∧
        t.lane l = { s.lane l with session := (t.lane l).session, drawer := (s.lane l).drawer.recalled } ∧
        t.laneWork l = { (s.laneWork l).recalled (s.lane l).drawer .sessionClosed with
          dump := if s.dumpsHead l then some 3000 else (s.laneWork l).dump } ∧
        t.custody.placement = (s.custody.placement.filter fun i => !s.waits l i) ∧
        t.path = { s.path with queue := s.path.queue.filter fun c => !s.claimWaits l c } ∧
        ∀ c, t.cassette c = { s.cassette c with
          reserved := (s.cassette c).reserved - (((positions _).filter (s.waits l)).map (s.heldNeed c)).sum
          mark := (s.cassette c).mark || decide ((t.cassette c).reserved ≠ (s.cassette c).reserved) }) ∧
  (∀ (ps : List Byte) (l : LaneId) (i : OrderSlot) (o : Order) (s : State),
      s.awake = true → carries 1 ps = true → laneOf (byteAt ps 0) = some l → (s.lane l).session = .opened →
      s.order i = some o → o.lane = l → (o.state = .held ∨ o.state = .queued) →
      Yields (.sessionClose ps) s fun t => t.result = some .ok ∧
        t.order i = some { o with
            state := .cancelled, reason := some .sessionClosed, holdDeadline := none, presentDeadline := none,
            mark := true }) ∧
  (∀ (ps : List Byte) (l : LaneId) (i : OrderSlot) (o : Order) (s : State),
      s.awake = true → carries 1 ps = true → laneOf (byteAt ps 0) = some l → (s.lane l).session = .opened →
      s.order i = some o → (o.lane ≠ l ∨ (o.state ≠ .held ∧ o.state ≠ .queued)) → (s.lane l).head ≠ some i →
      (s.lane l).load ≠ some i →
      Yields (.sessionClose ps) s fun t => t.result = some .ok ∧ t.order i = some o) ∧
  (∀ (ps : List Byte) (l : LaneId) (i : OrderSlot) (o : Order) (s : State),
      s.awake = true → carries 1 ps = true → laneOf (byteAt ps 0) = some l → (s.lane l).session = .opened →
      s.order i = some o → s.waits l i = false → ((s.lane l).head = some i → o.state ≠ .staged) →
      ((s.lane l).load = some i → o.state ≠ .presented ∨ (s.lane l).drawer ≠ .opened) →
      Yields (.sessionClose ps) s fun t => t.result = some .ok ∧ t.order i = some o) ∧
  (∀ (ps : List Byte) (l : LaneId) (i : OrderSlot) (o : Order) (s : State),
      s.awake = true → carries 1 ps = true → laneOf (byteAt ps 0) = some l → (s.lane l).session = .opened →
      (s.lane l).head = some i → s.order i = some o → o.state = .staged →
      Yields (.sessionClose ps) s fun t => t.result = some .ok ∧ (t.laneWork l).dump = some 3000 ∧
        (t.lane l).session = .closing .sessionClosed ∧
        t.order i = some { o with state := .aborting, reason := some .sessionClosed, mark := true }) ∧
  (∀ (ps : List Byte) (l : LaneId) (i : OrderSlot) (o : Order) (s : State),
      s.awake = true → carries 1 ps = true → laneOf (byteAt ps 0) = some l → (s.lane l).session = .opened →
      (s.lane l).drawer = .opened → (s.lane l).load = some i → s.order i = some o → o.state = .presented →
      Yields (.sessionClose ps) s fun t => t.result = some .ok ∧ (t.lane l).drawer = .retracting ∧
        (t.laneWork l).travel = some 4000 ∧
        (t.lane l).session = .closing .sessionClosed ∧
          t.order i = some { o with
            state := .recalling, reason := some .sessionClosed, presentDeadline := none, mark := true }) ∧
  (∀ (ps : List Byte) (l : LaneId) (s : State),
      s.awake = true → carries 1 ps = true → laneOf (byteAt ps 0) = some l → (s.lane l).session = .opened →
      (s.lane l).drawer = .extending →
      Yields (.sessionClose ps) s fun t => t.result = some .ok ∧ (t.lane l).drawer = .extending ∧
        (t.laneWork l).pendingRecall =
        (if (s.laneWork l).pendingRecall = none ∨
          (s.laneWork l).pendingRecall = some .drawerRecall then some .sessionClosed else (s.laneWork l).pendingRecall)) ∧
  (∀ (ps : List Byte) (l : LaneId) (s : State),
      s.awake = true → carries 1 ps = true → laneOf (byteAt ps 0) = some l → (s.lane l).session = .opened →
      (s.lane l).drawer = .opened → (s.lane l).load = none →
      Yields (.sessionClose ps) s fun t => t.result = some .ok ∧ (t.lane l).drawer = .retracting ∧
        (t.laneWork l).travel = some 4000 ∧
        (t.lane l).session = .closing .sessionClosed) ∧
  (∀ (ps : List Byte) (l : LaneId) (i : OrderSlot) (o : Order) (s : State),
      s.awake = true → carries 1 ps = true → laneOf (byteAt ps 0) = some l → (s.lane l).session = .opened →
      (s.lane l).head = some i → (s.lane l).load ≠ some i → s.order i = some o → o.state = .aborting →
      Yields (.sessionClose ps) s fun t => t.result = some .ok ∧ t.order i = some o ∧ (t.lane l).head = some i ∧
        (t.laneWork l).dump = (s.laneWork l).dump ∧ (t.lane l).session = .closing .sessionClosed) ∧
  (∀ (ps : List Byte) (l : LaneId) (i : OrderSlot) (o : Order) (s : State),
      s.awake = true → carries 1 ps = true → laneOf (byteAt ps 0) = some l → (s.lane l).session = .opened →
      (s.lane l).drawer = .retracting → (s.lane l).load = some i → (s.lane l).head ≠ some i → s.order i = some o →
      o.state = .recalling →
      Yields (.sessionClose ps) s fun t => t.result = some .ok ∧ t.order i = some o ∧ (t.lane l).load = some i ∧
        (t.lane l).session = .closing .sessionClosed) ∧
  (∀ (ps : List Byte) (l : LaneId) (s : State),
      s.awake = true → carries 1 ps = true → laneOf (byteAt ps 0) = some l → (s.lane l).session = .opened →
      (s.lane l).drawer ≠ .opened → (s.lane l).drawer ≠ .extending →
      Yields (.sessionClose ps) s fun t => t.result = some .ok ∧ (t.lane l).drawer = (s.lane l).drawer ∧
        (t.lane l).load = (s.lane l).load ∧
        (t.laneWork l).travel = (s.laneWork l).travel ∧ (t.laneWork l).pendingRecall = (s.laneWork l).pendingRecall) ∧
  (∀ (ps : List Byte) (l : LaneId) (s : State),
      s.awake = true → carries 1 ps = true → laneOf (byteAt ps 0) = some l → (s.lane l).session ≠ .opened →
      Refuses (.sessionClose ps) s .wrongState)

/-- O31. DRAWER SEND makes its checks in sequence, moves the staged bundle into the drawer, sets the claim and sends it
out. (R105, R106.) -/
def Obligations.DrawerSendChecksAndSends : Prop :=
  (∀ (ps : List Byte) (s : State),
      s.takes = true → carries 2 ps = true →
      if s.sup.mode = .enteringQuiet ∨ s.sup.mode = .quiet then Refuses (.drawerSend ps) s .quiet
      else if s.sup.mode = .waking then Refuses (.drawerSend ps) s .waking
      else match laneOf (byteAt ps 0), sendModeOf (byteAt ps 1) with
        | some l, some m =>
          if s.lockdown then Refuses (.drawerSend ps) s .lockdown
          else if (s.lane l).session ≠ .opened then Refuses (.drawerSend ps) s .noSession
          else if (s.lane l).lock ≠ .none then Refuses (.drawerSend ps) s .laneLocked
          else if (s.lane l).drawer ≠ .closed ∨ (s.lane l).claim = true then Refuses (.drawerSend ps) s .wrongState
          else if m ≠ .deposit ∧ s.stagedIn l = false then Refuses (.drawerSend ps) s .wrongState
          else if m ≠ .present ∧ s.custody.bins.captureCounted = false then Refuses (.drawerSend ps) s .uncounted
          else if m ≠ .present ∧ 120 ≤ s.budget then Refuses (.drawerSend ps) s .captureFull
          else Yields (.drawerSend ps) s fun t => t.result = some .ok
        | _, _ => Refuses (.drawerSend ps) s .badParam) ∧
  (∀ (ps : List Byte) (l : LaneId) (m : SendMode) (i : OrderSlot) (o : Order) (s : State),
      s.awake = true → carries 2 ps = true → laneOf (byteAt ps 0) = some l → sendModeOf (byteAt ps 1) = some m →
      m ≠ .deposit → s.lockdown = false → (s.lane l).session = .opened → (s.lane l).lock = .none →
      (s.lane l).drawer = .closed → (s.lane l).claim = false → (s.lane l).head = some i → s.order i = some o →
      o.state = .staged → (m = .both → s.custody.bins.captureCounted = true ∧ s.budget < 120) →
      Yields (.drawerSend ps) s fun t => CommandLeaves { orders := [i], lanes := [l], work := [l] } okEmpty s t ∧
        t.order i = some { o with
            presented := o.acceptedTotal, mark := o.mark || decide (o.presented ≠ o.acceptedTotal) } ∧
        t.lane l = { s.lane l with head := none, load := some i, claim := decide (m = .both), drawer := .extending } ∧
        t.laneWork l = { s.laneWork l with travel := some 4000 }) ∧
  (∀ (ps : List Byte) (l : LaneId) (s : State),
      s.awake = true → carries 2 ps = true → laneOf (byteAt ps 0) = some l → byteAt ps 1 = 1 → s.lockdown = false →
      (s.lane l).session = .opened → (s.lane l).lock = .none → (s.lane l).drawer = .closed →
      (s.lane l).claim = false → s.custody.bins.captureCounted = true → s.budget < 120 →
      Yields (.drawerSend ps) s fun t => CommandLeaves { lanes := [l], work := [l] } okEmpty s t ∧
        t.lane l = { s.lane l with claim := true, drawer := .extending } ∧
        t.laneWork l = { s.laneWork l with travel := some 4000 })

/-- O32. DRAWER RECALL and the present deadline bring an OPEN drawer home; an EXTENDING one carries the recall out. (R106,
R108, R109, R67.) -/
def Obligations.DrawerRecallAndPresentDeadline : Prop :=
  (∀ (ps : List Byte) (l : LaneId) (i : OrderSlot) (o : Order) (s : State),
      s.awake = true → carries 1 ps = true → laneOf (byteAt ps 0) = some l → (s.lane l).drawer = .opened →
      (s.lane l).load = some i → s.order i = some o → o.state = .presented →
      Yields (.drawerRecall ps) s fun t => CommandLeaves { orders := [i], lanes := [l], work := [l] } okEmpty s t ∧
        t.order i = some { o with state := .recalling, presentDeadline := none, mark := true } ∧
        t.lane l = { s.lane l with drawer := .retracting } ∧
        t.laneWork l = { s.laneWork l with travel := some 4000, pendingRecall := none, clearingDue := false }) ∧
  (∀ (ps : List Byte) (l : LaneId) (s : State),
      s.awake = true → carries 1 ps = true → laneOf (byteAt ps 0) = some l → (s.lane l).drawer = .opened →
      (s.lane l).load = none →
      Yields (.drawerRecall ps) s fun t => CommandLeaves { lanes := [l], work := [l] } okEmpty s t ∧
        t.lane l = { s.lane l with drawer := .retracting } ∧
        t.laneWork l = { s.laneWork l with travel := some 4000, pendingRecall := none, clearingDue := false }) ∧
  (∀ (ps : List Byte) (l : LaneId) (s : State),
      s.awake = true → carries 1 ps = true → laneOf (byteAt ps 0) = some l → (s.lane l).drawer = .extending →
      Yields (.drawerRecall ps) s fun t => CommandLeaves { work := [l] } okEmpty s t ∧
        t.laneWork l = { s.laneWork l with pendingRecall := (s.laneWork l).pendingRecall.or (some .drawerRecall) }) ∧
  (∀ (ps : List Byte) (l : LaneId) (s : State),
      s.awake = true → carries 1 ps = true → laneOf (byteAt ps 0) = some l → (s.lane l).drawer = .retracting →
      Yields (.drawerRecall ps) s fun t => CommandLeaves {} okEmpty s t) ∧
  (∀ (ps : List Byte) (l : LaneId) (s : State),
      s.awake = true → carries 1 ps = true → laneOf (byteAt ps 0) = some l →
      ((s.lane l).drawer = .closed ∨ (s.lane l).drawer = .jammed) →
      Refuses (.drawerRecall ps) s .wrongState) ∧
  (∀ (i : OrderSlot) (o : Order) (s : State),
      s.heeds = true → s.order i = some o → o.state = .presented → o.presentDeadline.isSome = true →
      (s.lane o.lane).drawer = .opened → (s.lane o.lane).load = some i →
      Yields (.presentDeadlineExpiry i) s fun t =>
        EventLeaves { orders := [i], lanes := [o.lane], work := [o.lane] } s t ∧
        t.order i = some { o with state := .recalling, presentDeadline := none, mark := true } ∧
        t.lane o.lane = { s.lane o.lane with drawer := .retracting, mark := true } ∧
        t.laneWork o.lane = { s.laneWork o.lane with
            travel := some 4000, pendingRecall := none, clearingDue := false })

/-- O33. At its outer limit an EXTENDING drawer goes OPEN and presents its bundle, or starts the recall that was pending.
(R107, R108, R118.) -/
def Obligations.OuterLimitOpensTheDrawer : Prop :=
  (∀ (l : LaneId) (q : BundleReport) (i : OrderSlot) (o : Order) (s : State),
      s.heeds = true → (s.lane l).drawer = .extending → (s.lane l).load = some i → s.order i = some o →
      o.state = .staged → (s.laneWork l).pendingRecall = none →
      Yields (.outerLimit l q) s fun t => EventLeaves {
          orders := [i], lanes := [l], work := [l], levels := true } s t ∧
        t.order i = some { o with
            state := .presented, presentDeadline := some (s.clock + s.custody.settings.presentLimit), mark := true } ∧
        t.lane l = { s.lane l with drawer := .opened, mark := true } ∧
        t.laneWork l = { s.laneWork l with
            travel := none, clearingDue := (s.laneWork l).clearingDue || decide (q = .empty) }) ∧
  (∀ (l : LaneId) (q : BundleReport) (i : OrderSlot) (o : Order) (c : RecallCause) (s : State),
      s.heeds = true → (s.lane l).drawer = .extending → (s.lane l).load = some i → s.order i = some o →
      o.state = .staged → (s.laneWork l).pendingRecall = some c →
      Yields (.outerLimit l q) s fun t => EventLeaves {
          orders := [i], lanes := [l], work := [l], levels := true } s t ∧
        t.order i = some { o with
            state := .recalling, reason := c.reason.or o.reason, presentDeadline := none, mark := true } ∧
        t.lane l = { s.lane l with drawer := .retracting, mark := true } ∧
        t.laneWork l = { s.laneWork l with travel := some 4000, pendingRecall := none, clearingDue := false }) ∧
  (∀ (l : LaneId) (q : BundleReport) (s : State),
      s.heeds = true → (s.lane l).drawer = .extending → (s.lane l).load = none →
      Yields (.outerLimit l q) s fun t => EventLeaves { lanes := [l], work := [l], levels := true } s t ∧
        t.lane l = { s.lane l with
            drawer := if (s.laneWork l).pendingRecall = none then .opened else .retracting, mark := true } ∧
        t.laneWork l = if (s.laneWork l).pendingRecall = none then { s.laneWork l with travel := none }
          else { s.laneWork l with travel := some 4000, pendingRecall := none, clearingDue := false }) ∧
  (∀ (l : LaneId) (q : BundleReport) (s : State),
      s.heeds = true → (s.lane l).drawer ≠ .extending →
      Yields (.outerLimit l q) s fun t => EventLeaves { work := [l], levels := true } s t ∧
        t.laneWork l = { s.laneWork l with
            jamNote := if (s.lane l).drawer = .jammed then some .outer else (s.laneWork l).jamNote })

/-- O34. At its inner limit a RETRACTING drawer goes CLOSED, its bundle ends by the count, and its envelope is handled, in
any pairing. (R66, R104, R111, R112, R118, R121.) -/
def Obligations.InnerLimitCountsBackAndTakesTheEnvelope : Prop :=
  (∀ (l : LaneId) (q : EnvelopeReport) (i : OrderSlot) (o : Order) (s : State),
      s.heeds = true → (s.lane l).drawer = .retracting → (s.lane l).load = some i → s.order i = some o →
      o.state = .recalling → o.retracted ≤ o.presented →
      Yields (.innerLimit l q) s fun t =>
        EventLeaves {
            orders := [i], placement := true, envelopes := [s.issueNumber], counter := true, lanes := [l],
            closes := true, path := true, work := [l], levels := true } s t ∧
        t.order i = some { o with
          state := if o.retracted = 0 then .taken else if o.retracted = o.presented then .retracted else .partlyTaken
          reason := if o.retracted = o.presented ∧ o.retracted ≠ 0 then o.reason else none
          taken := if o.retracted = 0 then o.presented else if o.retracted = o.presented then 0
              else o.presented - o.retracted
          holdDeadline := none, presentDeadline := none, mark := true } ∧
        t.path = { s.path with queue := s.path.queue.filter (· != .order i) } ∧
          t.custody.placement = s.custody.placement.filter (· != i) ∧ (t.lane l).load = none ∧
        (if q = .oversize ∨ (q = .present ∧ (s.lane l).claim = false)
          then t.lane l = { s.lane l with
              drawer := .extending, load := none, session := (t.lane l).session, mark := true } ∧
            t.laneWork l = { s.laneWork l with travel := some 4000 }
          else t.lane l = { s.lane l with
              drawer := .closed, load := none, claim := decide (q = .present ∧
                (s.gate l).isSome = true) && (s.lane l).claim
              session := (t.lane l).session, mark := true } ∧
            t.laneWork l = { s.laneWork l with travel := none }) ∧
        (∀ k, SessionSettles s t k) ∧
        (if q = .present ∧ (s.lane l).claim = true ∧ s.gate l = none
          then t.custody.envelopes = s.custody.envelopes ++ [{
              capture := s.issueNumber, lane := l, state := .intake, binPosition := none, acceptedAt := s.clock, declared := none, reference := none, mark := true }] ∧
            t.custody.captureCounter = nextCapture s.issueNumber
          else t.custody.envelopes = s.custody.envelopes ∧ t.custody.captureCounter = s.custody.captureCounter)) ∧
  (∀ (l : LaneId) (q : EnvelopeReport) (s : State),
      s.heeds = true → (s.lane l).drawer = .retracting → (s.lane l).load = none →
      Yields (.innerLimit l q) s fun t =>
        EventLeaves {
            envelopes := [s.issueNumber], counter := true, lanes := [l], closes := true, work := [l],
            levels := true } s t ∧
        (if q = .oversize ∨ (q = .present ∧ (s.lane l).claim = false)
          then t.lane l = { s.lane l with
              drawer := .extending, load := none, session := (t.lane l).session, mark := true } ∧
            t.laneWork l = { s.laneWork l with travel := some 4000 }
          else t.lane l = { s.lane l with
              drawer := .closed, load := none, claim := decide (q = .present ∧
                (s.gate l).isSome = true) && (s.lane l).claim
              session := (t.lane l).session, mark := true } ∧
            t.laneWork l = { s.laneWork l with travel := none }) ∧
        (∀ k, SessionSettles s t k) ∧
        (if q = .present ∧ (s.lane l).claim = true ∧ s.gate l = none
          then t.custody.envelopes = s.custody.envelopes ++ [{
              capture := s.issueNumber, lane := l, state := .intake, binPosition := none, acceptedAt := s.clock, declared := none, reference := none, mark := true }] ∧
            t.custody.captureCounter = nextCapture s.issueNumber
          else t.custody.envelopes = s.custody.envelopes ∧ t.custody.captureCounter = s.custody.captureCounter)) ∧
  (∀ (l : LaneId) (q : EnvelopeReport) (s : State),
      s.heeds = true → (s.lane l).drawer ≠ .retracting →
      Yields (.innerLimit l q) s fun t => EventLeaves { work := [l], levels := true } s t ∧
        t.laneWork l = { s.laneWork l with
            jamNote := if (s.lane l).drawer = .jammed then some .inner else (s.laneWork l).jamNote })

/-- O35. When the bundle sensor clears, the PRESENTED order is TAKEN whole and the drawer comes home unless it waits for
an envelope. (R67, R114.) -/
def Obligations.ClearingOfThePresentedBundle : Prop :=
  (∀ (l : LaneId) (i : OrderSlot) (o : Order) (s : State),
      s.heeds = true → (s.lane l).drawer = .opened → (s.lane l).load = some i → s.order i = some o →
      o.state = .presented →
      Yields (.bundleSensorClears l) s fun t =>
        EventLeaves { orders := [i], placement := true, lanes := [l], path := true, work := [l] } s t ∧
        t.order i = some { o with
            state := .taken, taken := o.presented, retracted := 0, holdDeadline := none, presentDeadline := none,
            mark := true } ∧
        t.lane l = { s.lane l with
            load := none, drawer := if (s.lane l).claim then .opened else .retracting, mark := true } ∧
        t.laneWork l = { s.laneWork l with
            travel := if (s.lane l).claim then (s.laneWork l).travel else some 4000, clearingDue := false } ∧
        t.path = { s.path with queue := s.path.queue.filter (· != .order i) } ∧
          t.custody.placement = s.custody.placement.filter (· != i))

/-- O36. At the end of a head dump or of a purge run, what was not counted is unresolved and the order takes its final
state. (R65, R68, R94, R113, R104.) -/
def Obligations.EndOfDumpsAndPurges : Prop :=
  (∀ (l : LaneId) (i : OrderSlot) (o : Order) (s : State),
      s.heeds = true → (s.laneWork l).dump.isSome = true → (s.lane l).head = some i → s.order i = some o →
      o.state = .aborting →
      Yields (.dumpRunExpiry l) s fun t => EventLeaves {
          orders := [i], placement := true, lanes := [l], closes := true, path := true, work := [l] } s t ∧
        t.order i = some { o with
          state := if o.reason = some .sessionClosed ∨ o.reason = some .laneLock then .retracted else .failed
          unresolved := o.acceptedTotal - o.retracted, holdDeadline := none, presentDeadline := none, mark := true } ∧
        t.lane l = { s.lane l with head := none, session := (t.lane l).session, mark := true } ∧
          (∀ k, SessionSettles s t k) ∧
        t.laneWork l = { s.laneWork l with dump := none } ∧
          t.path = { s.path with queue := s.path.queue.filter (· != .order i) } ∧
          t.custody.placement = s.custody.placement.filter (· != i)) ∧
  (∀ (i : OrderSlot) (o : Order) (s : State),
      s.heeds = true → s.path.state = .purging → s.path.holder = some (.order i) → s.path.run.isSome = true →
      s.order i = some o → o.state = .aborting →
      Yields .purgeRunExpiry s fun t => EventLeaves {
          orders := [i], placement := true, closes := true, path := true } s t ∧
        (∀ k, SessionSettles s t k) ∧
        t.order i = some { o with
          state := if o.reason = some .sessionClosed ∨ o.reason = some .laneLock then .retracted else .failed
          unresolved := o.acceptedTotal - o.retracted, holdDeadline := none, presentDeadline := none, mark := true } ∧
        t.custody.placement = s.custody.placement.filter (· != i) ∧
        t.path = { s.path with
          state := .free, holder := none, entry := none, misses := 0, attempt := none, run := none,
            heldReading := none, levelingIdle := none
          queue := s.path.queue.filter (· != .order i), stackerNotes := s.levels.stacker
          shutterIdle := some (s.custody.settings.shutterIdleClose * 1000) })

/-- O37. The drawer travel limit and the route limit fail the order, whose uncounted notes are unresolved, and jam drawer
or transport. (R69, R92, R104, R115.) -/
def Obligations.JamsFailTheOrderAndLockTheLane : Prop :=
  (∀ (l : LaneId) (i : OrderSlot) (o : Order) (s : State),
      s.heeds = true → ((s.lane l).drawer = .extending ∨ (s.lane l).drawer = .retracting) → (s.lane l).load = some i →
      s.order i = some o → (o.state = .staged ∨ o.state = .recalling) →
      Yields (.drawerTravelLimitExpiry l) s fun t =>
        EventLeaves {
          orders := [i], placement := true, lanes := [l], closes := true, path := true, work := [l] } s t ∧
        t.order i = some { o with
            state := .failed, reason := some .drawerJam, unresolved := o.presented - o.retracted,
            holdDeadline := none, presentDeadline := none, mark := true } ∧
        t.lane l = { s.lane l with
          drawer := .jammed, load := none, claim := false, lock := if (s.lane l).lock = .none then .jam
              else (s.lane l).lock
          session := (t.lane l).session, mark := true } ∧ (∀ k, SessionSettles s t k) ∧
        t.path = { s.path with queue := s.path.queue.filter (· != .order i) } ∧
          t.custody.placement = s.custody.placement.filter (· != i) ∧
        t.laneWork l = { s.laneWork l with travel := none, pendingRecall := none, jamNote := none }) ∧
  (∀ (l : LaneId) (s : State),
      s.heeds = true → ((s.lane l).drawer = .extending ∨ (s.lane l).drawer = .retracting) → (s.lane l).load = none →
      Yields (.drawerTravelLimitExpiry l) s fun t => EventLeaves { lanes := [l], closes := true, work := [l] } s t ∧
        t.lane l = { s.lane l with
          drawer := .jammed, claim := false, lock := if (s.lane l).lock = .none then .jam else (s.lane l).lock
          session := (t.lane l).session, mark := true } ∧ (∀ k, SessionSettles s t k) ∧
        t.laneWork l = { s.laneWork l with travel := none, pendingRecall := none, jamNote := none }) ∧
  (∀ (i : OrderSlot) (o : Order) (s : State),
      s.heeds = true → s.path.state = .routing → s.path.holder = some (.order i) → s.order i = some o →
      o.state = .routing →
      Yields .routeLimitExpiry s fun t => EventLeaves {
          orders := [i], placement := true, closes := true, path := true } s t ∧
        (∀ k, SessionSettles s t k) ∧
        t.order i = some { o with
            state := .failed, reason := some .transportJam, unresolved := o.acceptedTotal, holdDeadline := none,
            presentDeadline := none, mark := true } ∧
        t.custody.placement = s.custody.placement.filter (· != i) ∧
        t.path = { s.path with
          state := .jammed, holder := none, entry := none, misses := 0, attempt := none, run := none,
            heldReading := none, levelingIdle := none
          queue := s.path.queue.filter (· != .order i), jam := some { lane := o.lane, late := false }
          shutterIdle := some (s.custody.settings.shutterIdleClose * 1000) })

/-- O38. LANE CLEAR, TRANSPORT CLEAR and BINS EMPTIED return a jammed drawer, a jammed transport and the note bins to use.
(R82, R93, R99, R118.) -/
def Obligations.ServiceClearsReturnTheMachinery : Prop :=
  (∀ (ps : List Byte) (l : LaneId) (n : LimitNote) (s : State),
      s.awake = true → carries 1 ps = true → s.alarm.service = true → laneOf (byteAt ps 0) = some l →
      (s.lane l).drawer = .jammed → (s.laneWork l).jamNote = some n →
      Yields (.laneClear ps) s fun t => CommandLeaves { lanes := [l], work := [l] } okEmpty s t ∧
        t.lane l = { s.lane l with
            drawer := if n = .inner then .closed else .retracting,
            lock := if (s.lane l).lock = .jam then .none else (s.lane l).lock } ∧
        t.laneWork l = { s.laneWork l with travel := if n = .inner then none else some 4000, jamNote := none }) ∧
  (∀ (ps : List Byte) (l : LaneId) (s : State),
      s.awake = true → carries 1 ps = true → s.alarm.service = true → laneOf (byteAt ps 0) = some l →
      ((s.lane l).drawer ≠ .jammed ∨ (s.laneWork l).jamNote = none) →
      Refuses (.laneClear ps) s .wrongState) ∧
  (∀ (ps : List Byte) (s : State),
      s.awake = true → carries 0 ps = true → s.alarm.service = true → s.path.state = .jammed →
      Yields (.transportClear ps) s fun t => CommandLeaves { path := true } okEmpty s t ∧
        t.path = { s.path with state := .free, holder := none, jam := none, stackerNotes := s.levels.stacker }) ∧
  (∀ (ps : List Byte) (s : State),
      s.awake = true → carries 0 ps = true → s.alarm.service = true →
      Yields (.binsEmptied ps) s fun t => CommandLeaves { bins := true, path := true } okEmpty s t ∧
        t.custody.bins = { s.custody.bins with
            retractCount := 0, rejectCount := 0, retractCounted := true, rejectCounted := true } ∧
        t.path = { s.path with rejectPause := t.pauseDue } ∧
          (s.path.rejectPause ≠ t.pauseDue → t.port.notices &&& Notice.bins.bit = Notice.bins.bit)) ∧
  (∀ (ps : List Byte) (s : State),
      s.awake = true → carries 1 ps = true → s.alarm.service = false →
      Refuses (.laneClear ps) s .notService ∧ Refuses (.transportClear ps) s .notService ∧
        Refuses (.binsEmptied ps) s .notService)

/-- O39. The arbiter grants the oldest grantable claim: an order goes PICKING, a leveling session FETCHING, and the
shutters open. (R33, R37, R79, R80, R81, R84.) -/
def Obligations.GrantTakesTheOldestGrantableClaim : Prop :=
  (∀ (i : OrderSlot) (o : Order) (s : State),
      s.heeds = true → s.path.state = .free → s.sup.mode = .active → s.lockdown = false → s.path.rejectPause = false →
      s.path.queue.find? (fun c => s.grantable c && s.serves c) = some (.order i) → s.order i = some o →
      o.state = .queued →
      Yields .grant s fun t => EventLeaves { cassettes := [0, 1, 2, 3, 4, 5], orders := [i], path := true } s t ∧
        t.order i = some { o with state := .picking, mark := true } ∧
        t.path = { s.path with
          state := .picking, holder := some (.order i), entry := o.nextEntry, misses := 0, shutterIdle := none
          queue := s.path.queue.filter (· != .order i), shutterTravel := t.path.shutterTravel
          attempt := s.path.attempt.or ((o.nextEntry.bind fun k => o.mix[k]?).bind fun e => s.freshAttempt e.slot) } ∧
        (∀ c, t.path.shutterTravel.get c = if 0 < o.need c ∧ ((s.cassette c).shutter = .shut ∨
          (s.cassette c).shutter = .closing)
          then some 300 else s.path.shutterTravel.get c) ∧
        (∀ c, t.cassette c = if 0 < o.need c ∧ ((s.cassette c).shutter = .shut ∨ (s.cassette c).shutter = .closing)
          then { s.cassette c with shutter := .opening, mark := true } else s.cassette c)) ∧
  (∀ (c : CassetteId) (v : Leveling) (s : State),
      s.heeds = true → s.path.state = .free → s.sup.mode = .active → s.lockdown = false → s.path.rejectPause = false →
      s.path.queue.find? (fun c => s.grantable c && s.serves c) = some (.leveling c) →
      (s.cassette c).leveling = some v → v.phase = .waiting →
      Yields .grant s fun t => EventLeaves { cassettes := [c], path := true } s t ∧
        t.cassette c = { s.cassette c with
          leveling := some { v with phase := .fetching }
          shutter := if (s.cassette c).shutter = .shut ∨ (s.cassette c).shutter = .closing then .opening
              else (s.cassette c).shutter, mark := true } ∧
        t.path = { s.path with
          state := .leveling, holder := some (.leveling c), entry := none, misses := 0, shutterIdle := none
          queue := s.path.queue.filter (· != .leveling c), attempt := s.path.attempt.or (s.freshAttempt c)
          shutterTravel := if (s.cassette c).shutter = .shut ∨ (s.cassette c).shutter = .closing
            then tableSet s.path.shutterTravel c (some 300) else s.path.shutterTravel }) ∧
  (∀ (s : State),
      s.heeds = true →
      (s.path.state ≠ .free ∨ s.sup.mode ≠ .active ∨ s.lockdown = true ∨ s.path.rejectPause = true ∨
        s.path.queue.find? (fun c => s.grantable c && s.serves c) = none) →
      Yields .grant s fun t => EventLeaves {} s t)

/-- O40. A SINGLE at the gauge moves one note of the cassette and of the reservation to the order, which picks on or
routes. (R25, R28, R84, R86, R88, R90.) -/
def Obligations.GaugeAcceptsSingles : Prop :=
  (∀ (g : Reading) (i : OrderSlot) (o : Order) (k : Nat) (e : MixEntry) (a : Attempt) (s : State),
      s.heeds = true → s.path.state = .picking → s.path.holder = some (.order i) → s.order i = some o →
      o.state = .picking → s.path.entry = some k → o.mix[k]? = some e → s.path.attempt = some a → a.last = false →
      (s.cassette e.slot).reference ≤ 2 * g.val → 2 * g.val < 3 * (s.cassette e.slot).reference → g.val ≠ 1023 →
      1 ≤ (s.cassette e.slot).current →
      Yields (.noteReachesGauge g) s fun t =>
        let q := { o with mix := o.mix.modify k fun x => { x with accepted := x.accepted + 1 } }
        EventLeaves { cassettes := [e.slot], orders := [i], path := true, closes := true } s t ∧
          (∀ k, SessionSettles s t k) ∧
        t.cassette e.slot = { s.cassette e.slot with
          current := (s.cassette e.slot).current - 1, accepted := (s.cassette e.slot).accepted + 1,
            reserved := (s.cassette e.slot).reserved - 1
          lowFlag := (s.cassette e.slot).lowFlag || decide ((s.cassette e.slot).lowMark ≤ (s.cassette e.slot).current ∧ (s.cassette e.slot).current - 1 < (s.cassette e.slot).lowMark)
          state := if (s.cassette e.slot).current = 1 ∧
            ((s.cassette e.slot).state = .ready ∨ (s.cassette e.slot).state = .leveling) then .empty
              else (s.cassette e.slot).state
          mark := true } ∧
        match q.nextEntry with
        | some j => t.order i = some { q with mark := true } ∧
          t.path = { s.path with entry := some j, misses := 0, rejectDiverter := false, attempt := t.path.attempt } ∧
          t.path.attempt = (q.mix[j]?).bind fun x => s.freshAttempt x.slot
        | none => t.order i = some { q with state := .routing, mark := true } ∧
          t.path = { s.path with
            state := .routing, entry := none, misses := 0, attempt := none, run := some 3000, stackerNotes := 0
            routeDiverter := .head o.lane, rejectDiverter := false }) ∧
  (∀ (g : Reading) (i : OrderSlot) (o : Order) (k : Nat) (e : MixEntry) (a : Attempt) (s : State),
      s.heeds = true → s.path.state = .picking → s.path.holder = some (.order i) → s.order i = some o →
      o.state = .picking → s.path.entry = some k → o.mix[k]? = some e → s.path.attempt = some a → a.last = true →
      (s.cassette e.slot).reference ≤ 2 * g.val → 2 * g.val < 3 * (s.cassette e.slot).reference → g.val ≠ 1023 →
      Yields (.noteReachesGauge g) s fun t => (t.cassette e.slot).accepted = (s.cassette e.slot).accepted + 1 ∧
        t.order i = some { o with
            mix := o.mix.modify k fun x => { x with accepted := x.accepted + 1 }, state := .aborting,
            reason := some .lockdown, mark := true } ∧
        t.path = { s.path with
          state := .purging, entry := none, misses := 0, attempt := none, run := some 3000,
            routeDiverter := .retractBin, rejectDiverter := false })

/-- O41. A THIN, DOUBLE or MULTIPLE at the gauge debits the cassette its estimate, into the reject bin and against the
order. (R26, R28, R30, R32, R68, R82, R86, R88, R89, R94, R98.) -/
def Obligations.GaugeRejectsDebitTheCassette : Prop :=
  (∀ (g : Reading) (q : Nat) (i : OrderSlot) (o : Order) (k : Nat) (e : MixEntry) (a : Attempt) (s : State),
      s.heeds = true → s.path.state = .picking → s.path.holder = some (.order i) → s.order i = some o →
      o.state = .picking → s.path.entry = some k → o.mix[k]? = some e → s.path.attempt = some a → a.last = false →
      ((q = 1 ∧ 2 * g.val < (s.cassette e.slot).reference) ∨ (q = 2 ∧ g.val ≠ 1023 ∧
        3 * (s.cassette e.slot).reference ≤ 2 * g.val ∧ 2 * g.val < 5 * (s.cassette e.slot).reference) ∨ (q = 3 ∧
          (s.cassette e.slot).reference ≤ 2 * g.val ∧ (g.val = 1023 ∨
            5 * (s.cassette e.slot).reference ≤ 2 * g.val))) →
      1 ≤ (s.cassette e.slot).current → o.rejectItems + 1 ≠ s.custody.settings.maxRejects →
      (s.cassette e.slot).reserved ≤ (s.cassette e.slot).current - min q (s.cassette e.slot).current →
      Yields (.noteReachesGauge g) s fun t =>
        let n := min q (s.cassette e.slot).current
        EventLeaves { cassettes := [e.slot], orders := [i], bins := true, path := true, closes := true } s t ∧
          (∀ k, SessionSettles s t k) ∧
        t.cassette e.slot = { s.cassette e.slot with
          current := (s.cassette e.slot).current - n, rejectNotes := (s.cassette e.slot).rejectNotes + n
          lowFlag := (s.cassette e.slot).lowFlag || decide ((s.cassette e.slot).lowMark ≤ (s.cassette e.slot).current ∧ (s.cassette e.slot).current - n < (s.cassette e.slot).lowMark)
          state := if (s.cassette e.slot).current = n ∧
            ((s.cassette e.slot).state = .ready ∨ (s.cassette e.slot).state = .leveling) then .empty
              else (s.cassette e.slot).state
          mark := true } ∧
        t.order i = some { o with rejectItems := o.rejectItems + 1, rejectNotes := o.rejectNotes + n, mark := true } ∧
        t.custody.bins = { s.custody.bins with
            rejectCount := if s.custody.bins.rejectCounted then s.custody.bins.rejectCount + n
              else s.custody.bins.rejectCount } ∧
        t.path = { s.path with
            misses := 0, attempt := s.freshAttempt e.slot, rejectDiverter := true, rejectPause := t.pauseDue }) ∧
  (∀ (g : Reading) (q : Nat) (i : OrderSlot) (o : Order) (k : Nat) (e : MixEntry) (a : Attempt) (s : State),
      s.heeds = true → s.path.state = .picking → s.path.holder = some (.order i) → s.order i = some o →
      o.state = .picking → s.path.entry = some k → o.mix[k]? = some e → s.path.attempt = some a →
      ((q = 1 ∧ 2 * g.val < (s.cassette e.slot).reference) ∨ (q = 2 ∧ g.val ≠ 1023 ∧
        3 * (s.cassette e.slot).reference ≤ 2 * g.val ∧ 2 * g.val < 5 * (s.cassette e.slot).reference) ∨ (q = 3 ∧
          (s.cassette e.slot).reference ≤ 2 * g.val ∧ (g.val = 1023 ∨
            5 * (s.cassette e.slot).reference ≤ 2 * g.val))) →
      o.rejectItems + 1 = s.custody.settings.maxRejects → o.acceptedTotal ≠ 0 →
      Yields (.noteReachesGauge g) s fun t => t.order i = some { o with
          state := .aborting, reason := some .rejects, rejectItems := o.rejectItems + 1,
            rejectNotes := o.rejectNotes + min q (s.cassette e.slot).current, mark := true } ∧
        t.path.state = .purging ∧ t.path.holder = some (.order i) ∧ t.path.run = some 3000 ∧ t.path.attempt = none) ∧
  (∀ (g : Reading) (q : Nat) (i : OrderSlot) (o : Order) (k : Nat) (e : MixEntry) (a : Attempt) (s : State),
      s.heeds = true → s.path.state = .picking → s.path.holder = some (.order i) → s.order i = some o →
      o.state = .picking → s.path.entry = some k → o.mix[k]? = some e → s.path.attempt = some a →
      ((q = 1 ∧ 2 * g.val < (s.cassette e.slot).reference) ∨ (q = 2 ∧ g.val ≠ 1023 ∧
        3 * (s.cassette e.slot).reference ≤ 2 * g.val ∧ 2 * g.val < 5 * (s.cassette e.slot).reference) ∨ (q = 3 ∧
          (s.cassette e.slot).reference ≤ 2 * g.val ∧ (g.val = 1023 ∨
            5 * (s.cassette e.slot).reference ≤ 2 * g.val))) →
      o.rejectItems + 1 = s.custody.settings.maxRejects → o.acceptedTotal = 0 →
      Yields (.noteReachesGauge g) s fun t => t.order i = some { o with
          state := .failed, reason := some .rejects, unresolved := 0, rejectItems := o.rejectItems + 1
          rejectNotes := o.rejectNotes + min q (s.cassette e.slot).current, holdDeadline := none,
            presentDeadline := none, mark := true } ∧
        t.path.state = .free ∧ t.path.holder = none ∧ t.path.attempt = none ∧ i ∉ t.custody.placement) ∧
  (∀ (g : Reading) (q : Nat) (i : OrderSlot) (o : Order) (k : Nat) (e : MixEntry) (a : Attempt) (s : State),
      s.heeds = true → s.path.state = .picking → s.path.holder = some (.order i) → s.order i = some o →
      o.state = .picking → s.path.entry = some k → o.mix[k]? = some e → s.path.attempt = some a →
      ((q = 1 ∧ 2 * g.val < (s.cassette e.slot).reference) ∨ (q = 2 ∧ g.val ≠ 1023 ∧
        3 * (s.cassette e.slot).reference ≤ 2 * g.val ∧ 2 * g.val < 5 * (s.cassette e.slot).reference) ∨ (q = 3 ∧
          (s.cassette e.slot).reference ≤ 2 * g.val ∧ (g.val = 1023 ∨
            5 * (s.cassette e.slot).reference ≤ 2 * g.val))) →
      o.rejectItems + 1 ≠ s.custody.settings.maxRejects →
      (s.cassette e.slot).current - min q (s.cassette e.slot).current < (s.cassette e.slot).reserved →
      (s.cassette e.slot).current - min q (s.cassette e.slot).current < o.need e.slot →
      Yields (.noteReachesGauge g) s fun t => if o.acceptedTotal = 0
        then t.order i = some { o with
          state := .failed, reason := some .short, unresolved := 0, rejectItems := o.rejectItems + 1
          rejectNotes := o.rejectNotes + min q (s.cassette e.slot).current, holdDeadline := none,
            presentDeadline := none, mark := true } ∧
          t.path.state = .free ∧ t.path.holder = none
        else t.order i = some { o with
          state := .aborting, reason := some .short, rejectItems := o.rejectItems + 1
          rejectNotes := o.rejectNotes + min q (s.cassette e.slot).current, mark := true } ∧
          t.path.state = .purging ∧ t.path.holder = some (.order i) ∧ t.path.run = some 3000 ∧
            t.path.attempt = none) ∧
  (∀ (g : Reading) (q : Nat) (j : OrderSlot) (p : Order) (i : OrderSlot) (o : Order) (k : Nat) (e : MixEntry) (a : Attempt) (s : State),
      s.heeds = true → s.path.state = .picking → s.path.holder = some (.order i) → s.order i = some o →
      o.state = .picking → s.path.entry = some k → o.mix[k]? = some e → s.path.attempt = some a →
      ((q = 1 ∧ 2 * g.val < (s.cassette e.slot).reference) ∨ (q = 2 ∧ g.val ≠ 1023 ∧
        3 * (s.cassette e.slot).reference ≤ 2 * g.val ∧ 2 * g.val < 5 * (s.cassette e.slot).reference) ∨ (q = 3 ∧
          (s.cassette e.slot).reference ≤ 2 * g.val ∧ (g.val = 1023 ∨
            5 * (s.cassette e.slot).reference ≤ 2 * g.val))) →
      o.rejectItems + 1 ≠ s.custody.settings.maxRejects →
      o.need e.slot ≤ (s.cassette e.slot).current - min q (s.cassette e.slot).current → s.order j = some p → j ≠ i →
      (p.state = .held ∨ p.state = .queued) → 0 < p.need e.slot → j ∈ s.custody.placement →
      s.custody.placement.Nodup →
      Yields (.noteReachesGauge g) s fun t => (a.last = false → t.path.state = .picking ∧
        t.path.holder = some (.order i)) ∧
        if (s.cassette e.slot).current - min q (s.cassette e.slot).current < (s.cassette e.slot).reserved - s.youngerNeed e.slot j
        then t.order j = some { p with
            state := .failed, reason := some .short, holdDeadline := none, presentDeadline := none, mark := true } ∧
          j ∉ t.custody.placement
        else t.order j = some p) ∧
  (∀ (g : Reading) (q : Nat) (i : OrderSlot) (o : Order) (k : Nat) (e : MixEntry) (a : Attempt) (s : State),
      s.heeds = true → s.path.state = .picking → s.path.holder = some (.order i) → s.order i = some o →
      o.state = .picking → s.path.entry = some k → o.mix[k]? = some e → s.path.attempt = some a → a.last = true →
      ((q = 1 ∧ 2 * g.val < (s.cassette e.slot).reference) ∨ (q = 2 ∧ g.val ≠ 1023 ∧
        3 * (s.cassette e.slot).reference ≤ 2 * g.val ∧ 2 * g.val < 5 * (s.cassette e.slot).reference) ∨ (q = 3 ∧
          (s.cassette e.slot).reference ≤ 2 * g.val ∧ (g.val = 1023 ∨
            5 * (s.cassette e.slot).reference ≤ 2 * g.val))) →
      1 ≤ (s.cassette e.slot).current → o.rejectItems + 1 ≠ s.custody.settings.maxRejects →
      (s.cassette e.slot).reserved ≤ (s.cassette e.slot).current - min q (s.cassette e.slot).current →
      Yields (.noteReachesGauge g) s fun t =>
        let n := min q (s.cassette e.slot).current
        EventLeaves {
            cassettes := positions _, orders := [i], placement := true, bins := true, path := true,
            closes := true } s t ∧ (∀ k, SessionSettles s t k) ∧
        t.cassette e.slot = { s.cassette e.slot with
          current := (s.cassette e.slot).current - n, rejectNotes := (s.cassette e.slot).rejectNotes + n
          reserved := (s.cassette e.slot).reserved - o.need e.slot
          lowFlag := (s.cassette e.slot).lowFlag || decide ((s.cassette e.slot).lowMark ≤ (s.cassette e.slot).current ∧ (s.cassette e.slot).current - n < (s.cassette e.slot).lowMark)
          state := if (s.cassette e.slot).current = n ∧
            ((s.cassette e.slot).state = .ready ∨ (s.cassette e.slot).state = .leveling) then .empty
              else (s.cassette e.slot).state
          mark := true } ∧
        (∀ c, c ≠ e.slot → t.cassette c = { s.cassette c with
          reserved := (s.cassette c).reserved - o.need c
          mark := (s.cassette c).mark || (s.cassette c).reserved - o.need c != (s.cassette c).reserved }) ∧
        t.custody.bins = { s.custody.bins with
            rejectCount := if s.custody.bins.rejectCounted then s.custody.bins.rejectCount + n
              else s.custody.bins.rejectCount } ∧
        if o.acceptedTotal = 0
        then t.order i = some { o with
            state := .failed, reason := some .lockdown, unresolved := 0, rejectItems := o.rejectItems + 1,
              rejectNotes := o.rejectNotes + n
            holdDeadline := none, presentDeadline := none, mark := true } ∧
          t.path = { s.path.freed s with
              queue := s.path.queue.filter (· != .order i), rejectDiverter := true, rejectPause := t.pauseDue } ∧
          t.custody.placement = s.custody.placement.filter (· != i)
        else t.order i = some { o with
            state := .aborting, reason := some .lockdown, rejectItems := o.rejectItems + 1,
              rejectNotes := o.rejectNotes + n, mark := true } ∧
          t.path = { s.path.purged with rejectDiverter := true, rejectPause := t.pauseDue } ∧
            t.custody.placement = s.custody.placement)

/-- O42. A note that reaches the gauge for a leveling session in FETCHING is held unclassified and the idle timer starts;
from the last attempt it is spent. (R37, R39, R40, R98.) -/
def Obligations.GaugeHoldsTheLevelingNote : Prop :=
  (∀ (g : Reading) (c : CassetteId) (v : Leveling) (a : Attempt) (s : State),
      s.heeds = true → s.path.state = .leveling → s.path.holder = some (.leveling c) →
      (s.cassette c).leveling = some v → v.phase = .fetching → s.path.attempt = some a → a.last = false →
      Yields (.noteReachesGauge g) s fun t => EventLeaves { cassettes := [c], path := true } s t ∧
        t.cassette c = { s.cassette c with leveling := some { v with phase := .holding }, mark := true } ∧
        t.path = { s.path with
            attempt := none, misses := 0, heldReading := some g.val, levelingIdle := some 60000 }) ∧
  (∀ (g : Reading) (c : CassetteId) (v : Leveling) (a : Attempt) (s : State),
      s.heeds = true → s.path.state = .leveling → s.path.holder = some (.leveling c) →
      (s.cassette c).leveling = some v → v.phase = .fetching → s.path.attempt = some a → a.last = true →
      Yields (.noteReachesGauge g) s fun t => EventLeaves { cassettes := [c], bins := true, path := true } s t ∧
        t.cassette c = { s.cassette c with
          current := (s.cassette c).current - 1, testNotes := (s.cassette c).testNotes + 1
          lowFlag := (s.cassette c).lowFlag || decide ((s.cassette c).lowMark ≤ (s.cassette c).current ∧
            (s.cassette c).current - 1 < (s.cassette c).lowMark)
          state := if (s.cassette c).current - 1 = 0 then .empty else if (s.cassette c).reference ≠ 0 then .ready
              else .unleveled
          leveling := none, mark := true } ∧
        t.custody.bins = { s.custody.bins with
            rejectCount := if s.custody.bins.rejectCounted then s.custody.bins.rejectCount + 1
              else s.custody.bins.rejectCount } ∧
        t.path = { s.path.freed s with
            queue := s.path.queue.filter (· != .leveling c), rejectPause := t.pauseDue,
            rejectDiverter := t.path.rejectDiverter })

/-- O43. An expired pick window is a miss; the third in a row writes the cassette off and ends the pick. (R27, R28, R30,
R32, R37, R40, R68, R85, R86, R94.) -/
def Obligations.MissesAndWriteOff : Prop :=
  (∀ (i : OrderSlot) (o : Order) (c : CassetteId) (a : Attempt) (s : State),
      s.heeds = true → s.path.state = .picking → s.path.holder = some (.order i) → s.order i = some o →
      s.pickTarget = some c → s.path.attempt = some a → a.last = false → s.path.misses ≠ 2 →
      Yields .pickWindowExpiry s fun t => EventLeaves { path := true, closes := true } s t ∧
        (∀ k, SessionSettles s t k) ∧
        t.path = { s.path with misses := s.path.misses + 1, attempt := t.path.attempt } ∧
        t.path.attempt = s.freshAttempt c) ∧
  (∀ (i : OrderSlot) (o : Order) (c : CassetteId) (a : Attempt) (s : State),
      s.heeds = true → s.path.state = .picking → s.path.holder = some (.order i) → s.order i = some o →
      o.state = .picking → s.pickTarget = some c → s.path.attempt = some a → a.last = false → s.path.misses = 2 →
      0 < o.need c → o.need c ≤ (s.cassette c).reserved → 0 < (s.cassette c).current →
      Yields .pickWindowExpiry s fun t => (t.cassette c).current = 0 ∧ (t.cassette c).state = .empty ∧
        (t.cassette c).mark = true ∧
        (t.cassette c).writtenOff = (s.cassette c).writtenOff + (s.cassette c).current ∧
        if o.acceptedTotal = 0
        then t.order i = some { o with
            state := .failed, reason := some .short, unresolved := 0, holdDeadline := none, presentDeadline := none,
            mark := true } ∧ t.path.state = .free
        else t.order i = some { o with state := .aborting, reason := some .short, mark := true } ∧
          t.path.state = .purging ∧ t.path.run = some 3000) ∧
  (∀ (i j : OrderSlot) (o p : Order) (c : CassetteId) (a : Attempt) (s : State),
      s.heeds = true → s.path.state = .picking → s.path.holder = some (.order i) → s.order i = some o →
      o.state = .picking → s.pickTarget = some c → s.path.attempt = some a → a.last = false → s.path.misses = 2 →
      0 < o.need c → 0 < (s.cassette c).reserved → s.order j = some p → j ≠ i →
      (p.state = .held ∨ p.state = .queued) → 0 < p.need c → j ∈ s.custody.placement → s.custody.placement.Nodup →
      Yields .pickWindowExpiry s fun t => if o.need c + s.youngerNeed c j < (s.cassette c).reserved
        then t.order j = some { p with
            state := .failed, reason := some .short, holdDeadline := none, presentDeadline := none, mark := true } ∧
          j ∉ t.custody.placement
        else t.order j = some p) ∧
  (∀ (c : CassetteId) (v : Leveling) (a : Attempt) (s : State),
      s.heeds = true → s.path.state = .leveling → s.path.holder = some (.leveling c) →
      (s.cassette c).leveling = some v → v.phase = .fetching → s.path.attempt = some a → a.last = false →
      (s.path.misses ≠ 2 ∨ a.noMiss = true) →
      Yields .pickWindowExpiry s fun t => EventLeaves { path := true } s t ∧
        t.path = { s.path with
            misses := if a.noMiss then s.path.misses else s.path.misses + 1, attempt := s.freshAttempt c }) ∧
  (∀ (c : CassetteId) (v : Leveling) (a : Attempt) (s : State),
      s.heeds = true → s.path.state = .leveling → s.path.holder = some (.leveling c) →
      (s.cassette c).leveling = some v → v.phase = .fetching → s.path.attempt = some a → a.last = false →
      a.noMiss = false → s.path.misses = 2 → s.path.heldReading = none →
      Yields .pickWindowExpiry s fun t => EventLeaves { cassettes := [c], path := true } s t ∧
        t.cassette c = { s.cassette c with
          current := 0, writtenOff := (s.cassette c).writtenOff + (s.cassette c).current, state := .empty,
            leveling := none, mark := true
          lowFlag := (s.cassette c).lowFlag || decide (0 < (s.cassette c).lowMark ∧
            (s.cassette c).lowMark ≤ (s.cassette c).current) } ∧
        t.path = { s.path with
          state := .free, holder := none, entry := none, misses := 0, attempt := none, run := none,
            heldReading := none, levelingIdle := none
          queue := s.path.queue.filter (· != .leveling c),
            shutterIdle := some (s.custody.settings.shutterIdleClose * 1000) }) ∧
  (∀ (c : CassetteId) (v : Leveling) (a : Attempt) (s : State),
      s.heeds = true → s.path.state = .leveling → s.path.holder = some (.leveling c) →
      (s.cassette c).leveling = some v → v.phase = .fetching → s.path.attempt = some a → a.last = true →
      s.path.heldReading = none →
      Yields .pickWindowExpiry s fun t => EventLeaves { cassettes := [c], path := true } s t ∧
        t.cassette c = { s.cassette c with
          state := if (s.cassette c).current = 0 then .empty else if (s.cassette c).reference ≠ 0 then .ready
              else .unleveled
          leveling := none, mark := true } ∧
        t.path = { s.path with
          state := .free, holder := none, entry := none, misses := 0, attempt := none, run := none,
            heldReading := none, levelingIdle := none
          queue := s.path.queue.filter (· != .leveling c),
            shutterIdle := some (s.custody.settings.shutterIdleClose * 1000) }) ∧
  (∀ (i : OrderSlot) (o : Order) (c : CassetteId) (a : Attempt) (s : State),
      s.heeds = true → s.path.state = .picking → s.path.holder = some (.order i) → s.order i = some o →
      o.state = .picking → s.pickTarget = some c → s.path.attempt = some a → a.last = true →
      Yields .pickWindowExpiry s fun t =>
        EventLeaves {
            cassettes := positions _, orders := [i], placement := true, path := true, closes := true } s t ∧
          Released o s t ∧ (∀ k, SessionSettles s t k) ∧
        if o.acceptedTotal = 0
        then t.order i = some { o with
            state := .failed, reason := some .lockdown, unresolved := 0
            holdDeadline := none, presentDeadline := none, mark := true } ∧
          t.path = { s.path.freed s with queue := s.path.queue.filter (· != .order i) } ∧
          t.custody.placement = s.custody.placement.filter (· != i)
        else t.order i = some { o with state := .aborting, reason := some .lockdown, mark := true } ∧
          t.path = s.path.purged ∧ t.custody.placement = s.custody.placement)

/-- O44. The routed bundle's arrival stages the order or dumps it; a late arrival only flags the jam. (R90, R91, R92,
R113.) -/
def Obligations.BundleArrivalAndLateArrival : Prop :=
  (∀ (l : LaneId) (i : OrderSlot) (o : Order) (s : State),
      s.heeds = true → s.path.state = .routing → s.path.holder = some (.order i) → s.order i = some o → o.lane = l →
      o.state = .routing → (s.lane l).session = .opened → s.lockdown = false → (s.lane l).head = none →
      Yields (.headArrival l) s fun t => EventLeaves { orders := [i], lanes := [l], path := true } s t ∧
        t.order i = some { o with state := .staged, mark := true } ∧
          t.lane l = { s.lane l with head := some i, mark := true } ∧
        t.path.state = .free ∧ t.path.holder = none ∧ t.path.run = none ∧
          t.path.shutterIdle = some (s.custody.settings.shutterIdleClose * 1000)) ∧
  (∀ (l : LaneId) (i : OrderSlot) (o : Order) (c : CloseCause) (s : State),
      s.heeds = true → s.path.state = .routing → s.path.holder = some (.order i) → s.order i = some o → o.lane = l →
      o.state = .routing → ((s.lane l).session = .closing c ∨ ((s.lane l).session = .opened ∧ s.lockdown = true)) →
      (s.lane l).head = none →
      Yields (.headArrival l) s fun t => EventLeaves { orders := [i], lanes := [l], path := true, work := [l] } s t ∧
        t.order i = some { o with
            state := .aborting, reason := some (if (s.lane l).session = .opened then .lockdown else c.reason),
            mark := true } ∧
        t.lane l = { s.lane l with head := some i, mark := true } ∧ (t.laneWork l).dump = some 3000 ∧
          t.path.state = .free ∧ t.path.holder = none) ∧
  (∀ (l : LaneId) (j : Jam) (s : State),
      s.heeds = true → s.path.state = .jammed → s.path.jam = some j →
      Yields (.headArrival l) s fun t => EventLeaves { path := true } s t ∧
        t.path = { s.path with jam := some { j with late := j.late || decide (j.lane = l) } }) ∧
  (∀ (l : LaneId) (i : OrderSlot) (o : Order) (s : State),
      s.heeds = true → s.path.state = .routing → s.path.holder = some (.order i) → s.order i = some o → o.lane ≠ l →
      Yields (.headArrival l) s fun t => EventLeaves {} s t) ∧
  (∀ (l : LaneId) (s : State),
      s.heeds = true → s.path.state ≠ .routing → s.path.state ≠ .jammed →
      Yields (.headArrival l) s fun t => EventLeaves {} s t)

/-- O45. A retract edge counts one note for the order that purges, dumps or is recalled there, up to its figure, and for
no other. (R76, R94, R95, R96, R110, R113.) -/
def Obligations.EdgesCountNotesIntoTheRetractBin : Prop :=
  (∀ (i : OrderSlot) (o : Order) (s : State),
      s.heeds = true → s.path.state = .purging → s.path.holder = some (.order i) → s.order i = some o →
      Yields (.retractEdge .transport) s fun t => if o.retracted < o.acceptedTotal
        then EventLeaves { orders := [i], bins := true } s t ∧
          t.order i = some { o with retracted := o.retracted + 1, mark := true } ∧
          t.custody.bins = { s.custody.bins with
              retractCount := if s.custody.bins.retractCounted then s.custody.bins.retractCount + 1
                else s.custody.bins.retractCount }
        else EventLeaves {} s t) ∧
  (∀ (l : LaneId) (i : OrderSlot) (o : Order) (s : State),
      s.heeds = true → (s.laneWork l).dump.isSome = true → (s.lane l).head = some i → s.order i = some o →
      Yields (.retractEdge (.chute l)) s fun t => if o.retracted < o.acceptedTotal
        then EventLeaves { orders := [i], bins := true } s t ∧
          t.order i = some { o with retracted := o.retracted + 1, mark := true } ∧
          t.custody.bins = { s.custody.bins with
              retractCount := if s.custody.bins.retractCounted then s.custody.bins.retractCount + 1
                else s.custody.bins.retractCount }
        else EventLeaves {} s t) ∧
  (∀ (l : LaneId) (i : OrderSlot) (o : Order) (s : State),
      s.heeds = true → (s.laneWork l).dump = none → (s.lane l).drawer = .retracting → (s.lane l).load = some i →
      s.order i = some o →
      Yields (.retractEdge (.chute l)) s fun t => if o.retracted < o.presented
        then EventLeaves { orders := [i], bins := true } s t ∧
          t.order i = some { o with retracted := o.retracted + 1, mark := true } ∧
          t.custody.bins = { s.custody.bins with
              retractCount := if s.custody.bins.retractCounted then s.custody.bins.retractCount + 1
                else s.custody.bins.retractCount }
        else EventLeaves {} s t) ∧
  (∀ (s : State),
      s.heeds = true → (∀ i, s.path.state = .purging → s.path.holder ≠ some (.order i)) →
      Yields (.retractEdge .transport) s fun t => EventLeaves {} s t) ∧
  (∀ (l : LaneId) (s : State),
      s.heeds = true → (s.laneWork l).dump = none → ((s.lane l).drawer ≠ .retracting ∨ (s.lane l).load = none) →
      Yields (.retractEdge (.chute l)) s fun t => EventLeaves {} s t) ∧
  (∀ (n : Nat) (s : State),
      s.heeds = true →
      Yields (.stackerCountReport n) s fun t => EventLeaves { path := true, levels := true } s t ∧
        t.path = { s.path with stackerNotes := n } ∧ t.levels = { s.levels with stacker := n })

/-- O46. ZONE SET writes a zone's configuration and BYPASS its manual bypass, both in service mode. (R143, R150.) -/
def Obligations.ZoneSetAndBypass : Prop :=
  (∀ (ps : List Byte) (z : ZoneId) (g : Group) (r : Response) (l : Option LaneId) (s : State),
      s.takes = true → carries 5 ps = true → s.alarm.service = true → zoneOf (byteAt ps 0) = some z →
      groupOf (byteAt ps 1) = some g → responseOf (byteAt ps 2) = some r → zoneLaneOf z (byteAt ps 3) = some l →
      (r ≠ .laneLock ∨ l ≠ none) → (s.zone z).state ≠ .delay → (s.zone z).state ≠ .latched →
      if s.groupArmed g = true ∧ s.bypassed z = false ∧ (s.zone z).input = .active
          then Refuses (.zoneSet ps) s .wrongState
      else Yields (.zoneSet ps) s fun t =>
        CommandLeaves { zones := [z] } { code := if 60 < byteAt ps 4 then .clamped else .ok, payload := .empty } s t ∧
        t.zone z = { s.zone z with
            group := g, response := r, lane := l, entryDelay := min 60 (byteAt ps 4),
            state := if s.bypassed z then .bypassed else .normal }) ∧
  (∀ (ps : List Byte) (z : ZoneId) (s : State),
      s.takes = true → carries 1 ps = true → s.alarm.service = true → zoneOf (byteAt ps 0) = some z →
      (s.zone z).state ≠ .delay → (s.zone z).state ≠ .latched →
      Yields (.bypass ps) s fun t => CommandLeaves { zones := [z] } okEmpty s t ∧
        t.zone z = { s.zone z with manualBypass := true, state := .bypassed }) ∧
  (∀ (ps : List Byte) (s : State),
      s.takes = true → carries 5 ps = true → s.alarm.service = false →
      Refuses (.zoneSet ps) s .notService ∧ Refuses (.bypass ps) s .notService) ∧
  (∀ (ps : List Byte) (z : ZoneId) (s : State),
      s.takes = true → carries 1 ps = true → s.alarm.service = true → zoneOf (byteAt ps 0) = some z →
      ((s.zone z).state = .delay ∨ (s.zone z).state = .latched) →
      Refuses (.bypass ps) s .wrongState) ∧
  (∀ (ps : List Byte) (z : ZoneId) (g : Group) (r : Response) (l : Option LaneId) (s : State),
      s.takes = true → carries 5 ps = true → s.alarm.service = true → zoneOf (byteAt ps 0) = some z →
      groupOf (byteAt ps 1) = some g → responseOf (byteAt ps 2) = some r → zoneLaneOf z (byteAt ps 3) = some l →
      (r ≠ .laneLock ∨ l ≠ none) → ((s.zone z).state = .delay ∨ (s.zone z).state = .latched) →
      Refuses (.zoneSet ps) s .wrongState) ∧
  (∀ (ps : List Byte) (s : State),
      s.takes = true → carries 5 ps = true → s.alarm.service = true →
      (zoneOf (byteAt ps 0) = none ∨ 3 ≤ byteAt ps 1 ∨ 4 ≤ byteAt ps 2 ∨ (∀ z, zoneOf (byteAt ps 0) = some z →
        zoneLaneOf z (byteAt ps 3) = none) ∨ (byteAt ps 2 = 1 ∧ byteAt ps 3 = 0)) →
      Refuses (.zoneSet ps) s .badParam ∧ (zoneOf (byteAt ps 0) = none → Refuses (.bypass ps) s .badParam))

/-- O47. ARM sets a group's armed flag unless an open zone bars it; DISARM clears it and ends the group's delays and
bypasses. (R145, R146, R9.) -/
def Obligations.ArmAndDisarm : Prop :=
  (∀ (ps : List Byte) (g : Group) (s : State),
      s.takes = true → carries 1 ps = true → armGroupOf (byteAt ps 0) = some g →
      (∀ z, (s.zone z).group = g → s.bypassed z = false → (s.zone z).input = .quiet) →
      Yields (.arm ps) s fun t => CommandLeaves { arms := true } okEmpty s t ∧
        t.custody.dayArmed = (s.custody.dayArmed || g == .day) ∧
          t.custody.nightArmed = (s.custody.nightArmed || g == .night)) ∧
  (∀ (ps : List Byte) (g : Group) (z : ZoneId) (s : State),
      s.takes = true → carries 1 ps = true → armGroupOf (byteAt ps 0) = some g →
      ((s.zone z).group = g ∧ s.bypassed z = false ∧ (s.zone z).input = .active) →
      (∀ y, y < z → (s.zone y).group = g → s.bypassed y = false → (s.zone y).input = .quiet) →
      Yields (.arm ps) s fun t => t.custody = s.custody ∧
        t.port.processing = some { code := .wrongState, payload := .bytes [BitVec.ofNat 8 (z.val + 1)] }) ∧
  (∀ (ps : List Byte) (g : Group) (s : State),
      s.takes = true → carries 1 ps = true → armGroupOf (byteAt ps 0) = some g →
      Yields (.disarm ps) s fun t => CommandLeaves { zones := positions _, arms := true, alarm := true } okEmpty s t ∧
        t.custody.dayArmed = (s.custody.dayArmed && g != .day) ∧
          t.custody.nightArmed = (s.custody.nightArmed && g != .night) ∧
        t.alarm = { s.alarm with delays := t.alarm.delays } ∧
        ∀ z, if (s.zone z).group = g
          then
            let q : Zone := { s.zone z with
              manualBypass := false
              state := if (s.zone z).state = .delay then .normal
                else if (s.zone z).state = .bypassed ∧ (s.zone z).manualBypass = true ∧
                  (s.alarm.service && serviceKind z) = false then .normal
                else (s.zone z).state }
            t.zone z = { q with mark := q.mark || decide (q ≠ s.zone z) } ∧
              t.alarm.delays.get z = if (s.zone z).state = .delay then none else s.alarm.delays.get z
          else t.zone z = s.zone z ∧ t.alarm.delays.get z = s.alarm.delays.get z) ∧
  (∀ (ps : List Byte) (s : State),
      s.takes = true → carries 1 ps = true → 2 ≤ byteAt ps 0 →
      Refuses (.arm ps) s .badParam ∧ Refuses (.disarm ps) s .badParam)

/-- O48. ALARM RESET checks in sequence and clears one latch with its response; ALARM SILENCE drops the siren. (R116,
R151, R152, R154, R155.) -/
def Obligations.AlarmResetClearsALatch : Prop :=
  (∀ (ps : List Byte) (z : ZoneId) (s : State),
      s.takes = true → carries 1 ps = true → zoneOf (byteAt ps 0) = some z →
      if (s.zone z).state ≠ .latched then Refuses (.alarmReset ps) s .wrongState
      else if ((s.zone z).response = .lockdown ∨ (s.zone z).group = .always) ∧ s.alarm.service = false
          then Refuses (.alarmReset ps) s .notService
      else if (s.zone z).input = .active ∨ ((s.zone z).group ≠ .always ∧ s.groupArmed (s.zone z).group = true)
          then Refuses (.alarmReset ps) s .wrongState
      else Yields (.alarmReset ps) s fun t =>
        CommandLeaves { zones := [z], trips := true, lanes := positions _, alarm := true } okEmpty s t ∧
        t.zone z = { s.zone z with state := if s.bypassed z then .bypassed else .normal } ∧
        t.custody.tripList = s.custody.tripList.filter (· != z) ∧
        t.alarm = { s.alarm with
          siren := s.alarm.siren && ((s.zone z).response != .lockdown || t.lockdown)
          silent := s.alarm.silent && ((s.zone z).response != .silent || t.silentLatched) } ∧
        ((s.zone z).response = .lockdown → t.lockdown = false →
          t.port.notices &&& Notice.alarm.bit = Notice.alarm.bit) ∧
        ∀ l, t.lane l = if (s.zone z).response = .laneLock ∧ (s.zone z).lane = some l ∧ (s.lane l).lock = .alarm z
          then { s.lane l with mark := true, lock := match t.lockZone l with
            | some y => .alarm y
            | none => if (s.lane l).drawer = .jammed then .jam else .none }
          else s.lane l) ∧
  (∀ (ps : List Byte) (s : State),
      s.takes = true → carries 1 ps = true → zoneOf (byteAt ps 0) = none →
      Refuses (.alarmReset ps) s .badParam) ∧
  (∀ (ps : List Byte) (s : State),
      s.takes = true → carries 0 ps = true →
      Yields (.alarmSilence ps) s fun t => CommandLeaves { alarm := true } okEmpty s t ∧
        t.alarm = { s.alarm with siren := false })

/-- O49. SERVICE ENTER bypasses the service zones and closes the shutters; SERVICE EXIT and the key drop end service mode.
(R35, R37, R84, R147, R150, R156, R157, R158.) -/
def Obligations.ServiceModeBeginsAndEnds : Prop :=
  (∀ (ps : List Byte) (s : State),
      s.awake = true → carries 0 ps = true → s.alarm.service = false → s.alarm.key = true →
      (∀ l, (s.lane l).session = .closed) → s.anyOrder (fun o => o.state.moving) = false →
      (∀ c, s.path.state = .leveling → s.path.holder = some (.leveling c) → (s.cassette c).shutter ≠ .opened ∧
        (s.cassette c).shutter ≠ .opening) →
      Yields (.serviceEnter ps) s fun t => CommandLeaves {
          cassettes := [0, 1, 2, 3, 4, 5], zones := positions _, path := true, alarm := true } okEmpty s t ∧
        t.alarm = { s.alarm with service := true, delays := t.alarm.delays } ∧
        (∀ z, t.alarm.delays.get z = if serviceKind z = true ∧ ((s.zone z).state = .normal ∨
          (s.zone z).state = .delay) then none else s.alarm.delays.get z) ∧
        (∀ z, t.zone z = if serviceKind z = true ∧ ((s.zone z).state = .normal ∨ (s.zone z).state = .delay)
          then { s.zone z with state := .bypassed, mark := true } else s.zone z) ∧
        (∀ c, t.cassette c = if (s.cassette c).shutter = .opened ∨ (s.cassette c).shutter = .opening
          then { s.cassette c with shutter := .closing, mark := true } else s.cassette c) ∧
        (∀ c, t.path.shutterTravel.get c = if (s.cassette c).shutter = .opened ∨ (s.cassette c).shutter = .opening
          then some 300 else s.path.shutterTravel.get c) ∧
        t.path = { s.path with shutterTravel := t.path.shutterTravel }) ∧
  (∀ (ps : List Byte) (c : CassetteId) (s : State),
      s.awake = true → carries 0 ps = true → s.alarm.service = false → s.alarm.key = true →
      (∀ l, (s.lane l).session = .closed) → s.anyOrder (fun o => o.state.moving) = false → s.path.state = .leveling →
      s.path.holder = some (.leveling c) → ((s.cassette c).shutter = .opened ∨ (s.cassette c).shutter = .opening) →
      Yields (.serviceEnter ps) s fun t => CommandLeaves {
          cassettes := [0, 1, 2, 3, 4, 5], zones := positions _, path := true, alarm := true } okEmpty s t ∧
        t.alarm = { s.alarm with service := true, delays := t.alarm.delays } ∧
        (∀ z, t.alarm.delays.get z = if serviceKind z = true ∧ ((s.zone z).state = .normal ∨
          (s.zone z).state = .delay) then none else s.alarm.delays.get z) ∧
        (∀ z, t.zone z = if serviceKind z = true ∧ ((s.zone z).state = .normal ∨ (s.zone z).state = .delay)
          then { s.zone z with state := .bypassed, mark := true } else s.zone z) ∧
        t.cassette c = { s.cassette c with
            shutter := .opening, mark := (s.cassette c).mark || (s.cassette c).shutter != .opening } ∧
        (∀ k, k ≠ c → t.cassette k = if (s.cassette k).shutter = .opened ∨ (s.cassette k).shutter = .opening
          then { s.cassette k with shutter := .closing, mark := true } else s.cassette k) ∧
        (∀ k, t.path.shutterTravel.get k = if (s.cassette k).shutter = .opened ∨ (s.cassette k).shutter = .opening
          then some 300 else s.path.shutterTravel.get k) ∧
        t.path = { s.path with
          shutterTravel := t.path.shutterTravel, attempt := s.path.attempt.map fun a => { a with noMiss := true } }) ∧
  (∀ (ps : List Byte) (s : State),
      s.awake = true → carries 0 ps = true →
      (s.alarm.service = true ∨ s.alarm.key = false ∨ (∃ l, (s.lane l).session ≠ .closed) ∨
        s.anyOrder (fun o => o.state.moving) = true) →
      Refuses (.serviceEnter ps) s .wrongState) ∧
  (∀ (ps : List Byte) (s : State),
      s.takes = true → carries 0 ps = true → s.alarm.service = true →
      (∀ z, serviceKind z = true → (s.zone z).input = .quiet) →
      (∀ z, (s.zone z).manualBypass = true → (s.zone z).group = .always → (s.zone z).input = .quiet) →
      Yields (.serviceExit ps) s fun t => CommandLeaves {
          zones := positions _, alarm := true, closes := true } okEmpty s t ∧ (∀ k, SessionSettles s t k) ∧
        t.alarm = { s.alarm with service := false } ∧ ∀ z,
          let q : Zone := { s.zone z with
            manualBypass := (s.zone z).manualBypass && (s.zone z).group != .always
            state := if (s.zone z).state = .bypassed ∧
              ((serviceKind z = true ∧ (s.zone z).manualBypass = false) ∨ ((s.zone z).group = .always ∧
                (s.zone z).manualBypass = true)) then .normal else (s.zone z).state }
          t.zone z = { q with mark := q.mark || decide (q ≠ s.zone z) }) ∧
  (∀ (ps : List Byte) (z : ZoneId) (s : State),
      s.takes = true → carries 0 ps = true → s.alarm.service = true →
      (serviceKind z = true ∧ (s.zone z).input = .active) →
      (∀ y, y < z → serviceKind y = true → (s.zone y).input = .quiet) →
      Yields (.serviceExit ps) s fun t => t.custody = s.custody ∧ t.alarm = s.alarm ∧
        t.port.processing = some { code := .wrongState, payload := .bytes [BitVec.ofNat 8 (z.val + 1)] }) ∧
  (∀ (ps : List Byte) (s : State),
      s.takes = true → carries 0 ps = true → s.alarm.service = false →
      Refuses (.serviceExit ps) s .notService) ∧
  (∀ (s : State),
      s.heeds = true → s.alarm.service = true → (∀ z, (s.zone z).state = .bypassed → (s.zone z).input = .quiet) →
      Yields (.keyLineReport false) s fun t =>
        EventLeaves { zones := positions _, alarm := true, closes := true, levels := true } s t ∧
        (∀ k, SessionSettles s t k) ∧
        t.alarm = { s.alarm with key := false, service := false } ∧ ∀ z,
          let q : Zone := { s.zone z with
            manualBypass := (s.zone z).manualBypass && (s.zone z).group != .always
            state := if (s.zone z).state = .bypassed ∧
              ((serviceKind z = true ∧ (s.zone z).manualBypass = false) ∨ ((s.zone z).group = .always ∧
                (s.zone z).manualBypass = true)) then .normal else (s.zone z).state }
          t.zone z = { q with mark := q.mark || decide (q ≠ s.zone z) }) ∧
  (∀ (ps : List Byte) (z : ZoneId) (s : State),
      s.takes = true → carries 0 ps = true → s.alarm.service = true →
      (∀ y, serviceKind y = true → (s.zone y).input = .quiet) → (s.zone z).state = .bypassed →
      (s.zone z).manualBypass = true → (s.zone z).group = .always → (s.zone z).input = .active →
      Yields (.serviceExit ps) s fun t => t.result = some .ok ∧ t.alarm.service = false ∧
        t.zone z = { s.zone z with
          manualBypass := false, tripCount := bump (s.zone z).tripCount, state := if (s.zone z).entryDelay = 0
              then .latched else .delay, mark := true } ∧
        ((s.zone z).entryDelay = 0 → z ∈ t.custody.tripList)) ∧
  (∀ (z : ZoneId) (s : State),
      s.heeds = true → s.alarm.service = true → (s.zone z).state = .bypassed → (s.zone z).manualBypass = true →
      (s.zone z).group = .always → (s.zone z).input = .active →
      Yields (.keyLineReport false) s fun t => t.alarm.service = false ∧
        t.zone z = { s.zone z with
          manualBypass := false, tripCount := bump (s.zone z).tripCount, state := if (s.zone z).entryDelay = 0
              then .latched else .delay, mark := true }) ∧
  (∀ (z : ZoneId) (s : State),
      s.heeds = true → s.alarm.service = true → serviceKind z = true → (s.zone z).state = .bypassed →
      (s.zone z).manualBypass = false → (s.zone z).input = .active → s.groupArmed (s.zone z).group = true →
      Yields (.keyLineReport false) s fun t => t.alarm.service = false ∧
        (t.zone z).tripCount = bump (s.zone z).tripCount ∧ (t.zone z).mark = true ∧
        (t.zone z).state = if (s.zone z).entryDelay = 0 then .latched else .delay) ∧
  (∀ (k : Bool) (s : State),
      s.heeds = true → (k = true ∨ s.alarm.service = false) →
      Yields (.keyLineReport k) s fun t => EventLeaves { alarm := true, levels := true } s t ∧
        t.alarm = { s.alarm with key := k } ∧ t.levels = { s.levels with key := k })

/-- O50. A zone report sets the input; an armed NORMAL zone is activated, delays or latches, and the latch acts by its
response. (R40, R86, R103, R116, R117, R144, R147, R148, R149, R152, R153, R155.) -/
def Obligations.ZoneReportsActivateAndLatch : Prop :=
  (∀ (z : ZoneId) (v : ZoneInput) (s : State),
      s.heeds = true →
      (v = .quiet ∨ (s.zone z).state ≠ .normal ∨ s.groupArmed (s.zone z).group = false ∨ s.bypassed z = true) →
      Yields (.zoneInputReport z v) s fun t =>
        EventLeaves { zones := [z], closes := v == .active, levels := true } s t ∧
        (v = .active → ∀ k, SessionSettles s t k) ∧
        t.zone z = { s.zone z with input := v, mark := (s.zone z).mark || decide ((s.zone z).input ≠ v) }) ∧
  (∀ (z : ZoneId) (s : State),
      s.heeds = true → (s.zone z).state = .normal → s.groupArmed (s.zone z).group = true → s.bypassed z = false →
      (s.zone z).entryDelay ≠ 0 →
      Yields (.zoneInputReport z .active) s fun t =>
        EventLeaves { zones := [z], alarm := true, closes := true, levels := true } s t ∧
        (∀ k, SessionSettles s t k) ∧
        t.zone z = { s.zone z with
            input := .active, tripCount := bump (s.zone z).tripCount, state := .delay, mark := true } ∧
        t.alarm = { s.alarm with delays := tableSet s.alarm.delays z (some ((s.zone z).entryDelay * 1000)) }) ∧
  (∀ (c : Instr) (z : ZoneId) (s : State),
      s.heeds = true → Latches c z s → ((s.zone z).response = .report ∨ (s.zone z).response = .silent) →
      Yields c s fun t => EventLeaves {
          zones := [z], trips := true, alarm := true, closes := true, levels := true } s t ∧
        (∀ k, SessionSettles s t k) ∧
        t.zone z = { s.zone z with
          input := if c = .zoneInputReport z .active then .active else (s.zone z).input
          tripCount := if c = .zoneInputReport z .active then bump (s.zone z).tripCount else (s.zone z).tripCount
          state := .latched, mark := true } ∧
        t.custody.tripList = s.custody.tripList ++ [z] ∧
          (if s.hushed then t.port.heldNotices else t.port.notices) &&& Notice.alarm.bit = Notice.alarm.bit ∧
        t.alarm = { s.alarm with
            delays := tableSet s.alarm.delays z none, silent := s.alarm.silent || (s.zone z).response == .silent }) ∧
  (∀ (c : Instr) (z : ZoneId) (l : LaneId) (s : State),
      s.heeds = true → Latches c z s → (s.zone z).response = .laneLock → (s.zone z).lane = some l →
      Yields c s fun t => t.zone z = { s.zone z with
          input := if c = .zoneInputReport z .active then .active else (s.zone z).input
          tripCount := if c = .zoneInputReport z .active then bump (s.zone z).tripCount else (s.zone z).tripCount
          state := .latched, mark := true } ∧
        t.custody.tripList = s.custody.tripList ++ [z] ∧
          (if s.hushed then t.port.heldNotices else t.port.notices) &&& Notice.alarm.bit = Notice.alarm.bit ∧
        (t.lane l).lock = (match (s.lane l).lock with
          | .alarm y => .alarm y
          | .none | .jam => .alarm z) ∧ ((s.lane l).lock = .none → (t.lane l).mark = true) ∧
        t.alarm = { s.alarm with delays := tableSet s.alarm.delays z none }) ∧
  (∀ (c : Instr) (z : ZoneId) (l : LaneId) (s : State),
      s.heeds = true → Latches c z s → (s.zone z).response = .laneLock → (s.zone z).lane = some l →
      (s.lane l).session ≠ .opened →
      Yields c s fun t => EventLeaves {
          zones := [z], trips := true, alarm := true, lanes := [l], closes := true, levels := true } s t ∧
        t.lane l = { s.lane l with
            lock := (t.lane l).lock, session := (t.lane l).session, mark := (t.lane l).mark } ∧ ∀ k,
          SessionSettles s t k) ∧
  (∀ (c : Instr) (z : ZoneId) (l : LaneId) (s : State),
      s.heeds = true → Latches c z s → (s.zone z).response = .laneLock → (s.zone z).lane = some l →
      (s.lane l).session = .opened →
      Yields c s fun t =>
        EventLeaves {
            cassettes := positions _, orders := positions _, placement := true, zones := [z], trips := true,
            alarm := true, lanes := [l], closes := true, path := true, work := [l], levels := true } s t ∧
        SessionCloses t l .laneLock ∧ (∀ k, k ≠ l → SessionSettles s t k) ∧
        t.path = { s.path with queue := s.path.queue.filter fun c => !s.claimWaits l c } ∧
        t.custody.placement = (s.custody.placement.filter fun i => !s.waits l i) ∧
        ∀ k, t.cassette k = { s.cassette k with
          reserved := (s.cassette k).reserved - (((positions _).filter (s.waits l)).map (s.heldNeed k)).sum
          mark := (s.cassette k).mark || decide ((t.cassette k).reserved ≠ (s.cassette k).reserved) }) ∧
  (∀ (c : Instr) (z : ZoneId) (l : LaneId) (i : OrderSlot) (o : Order) (s : State),
      s.heeds = true → Latches c z s → (s.zone z).response = .laneLock → (s.zone z).lane = some l →
      (s.lane l).session = .opened → s.order i = some o → s.waits l i = true →
      Yields c s fun t => t.order i = some { o with
          state := .cancelled, reason := some .laneLock, holdDeadline := none, presentDeadline := none,
          mark := true }) ∧
  (∀ (c : Instr) (z : ZoneId) (l : LaneId) (i : OrderSlot) (o : Order) (s : State),
      s.heeds = true → Latches c z s → (s.zone z).response = .laneLock → (s.zone z).lane = some l →
      (s.lane l).session = .opened → s.order i = some o → s.waits l i = false →
      ((s.lane l).head = some i → o.state ≠ .staged) →
      ((s.lane l).load = some i → o.state ≠ .presented ∨ (s.lane l).drawer ≠ .opened) →
      Yields c s fun t => t.order i = some o) ∧
  (∀ (c : Instr) (z : ZoneId) (l : LaneId) (i : OrderSlot) (o : Order) (s : State),
      s.heeds = true → Latches c z s → (s.zone z).response = .laneLock → (s.zone z).lane = some l →
      (s.lane l).session = .opened → (s.lane l).head = some i → s.order i = some o → o.state = .staged →
      Yields c s fun t => (t.laneWork l).dump = some 3000 ∧
        t.order i = some { o with state := .aborting, reason := some .laneLock, mark := true }) ∧
  (∀ (c : Instr) (z : ZoneId) (l : LaneId) (i : OrderSlot) (o : Order) (s : State),
      s.heeds = true → Latches c z s → (s.zone z).response = .laneLock → (s.zone z).lane = some l →
      (s.lane l).session = .opened → (s.lane l).drawer = .opened → (s.lane l).load = some i → s.order i = some o →
      o.state = .presented →
      Yields c s fun t => t.order i = some { o with
          state := .recalling, reason := some .laneLock, presentDeadline := none, mark := true }) ∧
  (∀ (c : Instr) (z : ZoneId) (l : LaneId) (s : State),
      s.heeds = true → Latches c z s → (s.zone z).response = .laneLock → (s.zone z).lane = some l →
      (s.lane l).session = .opened →
      Yields c s fun t => t.lane l = { s.lane l with
          session := (t.lane l).session, lock := (t.lane l).lock, drawer := (s.lane l).drawer.recalled,
            mark := true } ∧
        t.laneWork l = { (s.laneWork l).recalled (s.lane l).drawer .laneLock with
          dump := if s.dumpsHead l then some 3000 else (s.laneWork l).dump }) ∧
  (∀ (c : Instr) (z : ZoneId) (s : State),
      s.heeds = true → Latches c z s → (s.zone z).response = .lockdown →
      Yields c s fun t => t.zone z = { s.zone z with
          input := if c = .zoneInputReport z .active then .active else (s.zone z).input
          tripCount := if c = .zoneInputReport z .active then bump (s.zone z).tripCount else (s.zone z).tripCount
          state := .latched, mark := true } ∧
        t.custody.tripList = s.custody.tripList ++ [z] ∧
          (if s.hushed then t.port.heldNotices else t.port.notices) &&& Notice.alarm.bit = Notice.alarm.bit ∧
          t.lockdown = true ∧ t.alarm = { s.alarm with delays := tableSet s.alarm.delays z none, siren := true }) ∧
  (∀ (c : Instr) (z : ZoneId) (s : State),
      s.heeds = true → Latches c z s → (s.zone z).response = .lockdown → s.lockdown = true →
      Yields c s fun t => EventLeaves {
          zones := [z], trips := true, alarm := true, closes := true, levels := true } s t ∧ ∀ k,
        SessionSettles s t k) ∧
  (∀ (c : Instr) (z : ZoneId) (s : State),
      s.heeds = true → StartsLockdown c z s →
      Yields c s fun t =>
        EventLeaves {
            cassettes := positions _, orders := positions _, placement := true, zones := [z], trips := true,
            alarm := true, lanes := positions _, closes := true, bins := true, path := true, work := positions _,
            levels := true } s t ∧ (∀ k, SessionSettles s t k) ∧
        (∀ i, s.stopsPicking i = false →
          (∀ l, (s.lane l).head = some i → (s.order i).any (fun o => o.state == .staged) = false) →
          (∀ l, (s.lane l).load = some i → (s.lane l).drawer = .opened →
            (s.order i).any (fun o => o.state == .presented) = false) →
          t.order i = s.order i) ∧
        t.custody.placement = (s.custody.placement.filter fun i => !s.claimStops t (.order i)) ∧
        t.path.queue = (s.path.queue.filter fun q => !s.claimStops t q) ∧
        (∀ k, t.path.shutterTravel.get k = if (s.cassette k).shutter = .opened ∨ (s.cassette k).shutter = .opening
          then some 300 else s.path.shutterTravel.get k) ∧
        (s.path.state ≠ .picking → (∀ k, s.path.holder ≠ some (.leveling k) ∧
          (s.cassette k).leveling.any (fun v => v.phase == .fetching) = false) →
          t.path = { s.path with queue := t.path.queue, shutterTravel := t.path.shutterTravel }) ∧
        ((∀ k, s.gaugeHolds k = false) → t.custody.bins = s.custody.bins) ∧
        ∀ k, (s.cassette k).leveling = none →
          let r : Cassette := { s.cassette k with
            shutter := if (s.cassette k).shutter = .opened ∨ (s.cassette k).shutter = .opening then .closing
                else (s.cassette k).shutter
            reserved := (s.cassette k).reserved - (((positions _).filter s.stopsPicking).map (s.needOf k)).sum }
          t.cassette k = { r with mark := r.mark || decide (r ≠ s.cassette k) }) ∧
  (∀ (c : Instr) (z : ZoneId) (k : CassetteId) (s : State),
      s.heeds = true → StartsLockdown c z s → ((s.cassette k).shutter = .opened ∨ (s.cassette k).shutter = .opening) →
      Yields c s fun t => (t.cassette k).shutter = .closing ∧ t.path.shutterTravel.get k = some 300) ∧
  (∀ (c : Instr) (z : ZoneId) (l : LaneId) (s : State),
      s.heeds = true → StartsLockdown c z s →
      Yields c s fun t => SessionSettles s t l ∧
        t.lane l = { s.lane l with
          session := (t.lane l).session, drawer := (s.lane l).drawer.recalled
          mark := (s.lane l).mark || (s.lane l).drawer == .opened || decide ((t.lane l).session ≠ (s.lane l).session) } ∧
        t.laneWork l = { (s.laneWork l).recalled (s.lane l).drawer .lockdown with dump := (t.laneWork l).dump } ∧
        (s.dumpsHead l = false → (t.laneWork l).dump = (s.laneWork l).dump)) ∧
  (∀ (c : Instr) (z : ZoneId) (l : LaneId) (i : OrderSlot) (o : Order) (s : State),
      s.heeds = true → StartsLockdown c z s → (s.lane l).head = some i → (∀ k, k ≠ l → (s.lane k).head ≠ some i) →
      s.order i = some o → o.state = .staged → s.path.holder ≠ some (.order i) →
      Yields c s fun t => t.order i = some { o with state := .aborting, reason := some .lockdown, mark := true } ∧
        (t.laneWork l).dump = some 3000) ∧
  (∀ (c : Instr) (z : ZoneId) (l : LaneId) (i : OrderSlot) (o : Order) (s : State),
      s.heeds = true → StartsLockdown c z s → (s.lane l).drawer = .opened → (s.lane l).load = some i →
      s.order i = some o → o.state = .presented → s.path.holder ≠ some (.order i) →
      Yields c s fun t => t.order i = some { o with
          state := .recalling, reason := some .lockdown, presentDeadline := none, mark := true }) ∧
  (∀ (c : Instr) (z : ZoneId) (i : OrderSlot) (o : Order) (s : State),
      s.heeds = true → StartsLockdown c z s → s.order i = some o →
      (o.state = .held ∨ o.state = .queued ∨ o.state = .recalling ∨ o.state = .aborting) →
      s.path.holder ≠ some (.order i) →
      Yields c s fun t => t.order i = some o) ∧
  (∀ (c : Instr) (z : ZoneId) (i : OrderSlot) (a : Attempt) (s : State),
      s.heeds = true → StartsLockdown c z s → s.path.state = .picking → s.path.holder = some (.order i) →
      s.path.attempt = some a →
      Yields c s fun t => t.path = { s.path with
        attempt := some { a with last := true }, queue := t.path.queue, shutterTravel := t.path.shutterTravel }) ∧
  (∀ (c : Instr) (z : ZoneId) (i : OrderSlot) (o : Order) (s : State),
      s.heeds = true → StartsLockdown c z s → s.path.state = .picking → s.path.holder = some (.order i) →
      s.path.attempt = none → s.order i = some o → o.state = .picking →
      Yields c s fun t => if o.acceptedTotal = 0
        then t.order i = some { o with
            state := .failed, reason := some .lockdown, unresolved := 0, holdDeadline := none,
              presentDeadline := none, mark := true } ∧
          t.path = { s.path.freed s with queue := t.path.queue, shutterTravel := t.path.shutterTravel } ∧
            i ∉ t.custody.placement
        else t.order i = some { o with state := .aborting, reason := some .lockdown, mark := true } ∧
          t.path = { s.path.purged with queue := t.path.queue, shutterTravel := t.path.shutterTravel }) ∧
  (∀ (c : Instr) (z : ZoneId) (k : CassetteId) (v : Leveling) (s : State),
      s.heeds = true → StartsLockdown c z s → (s.cassette k).leveling = some v → v.phase = .holding →
      s.path.holder = some (.leveling k) → s.path.heldReading.isSome = true →
      Yields c s fun t => t.cassette k = { s.cassette k with
          current := (s.cassette k).current - 1, testNotes := (s.cassette k).testNotes + 1
          lowFlag := (s.cassette k).lowFlag || decide ((s.cassette k).lowMark ≤ (s.cassette k).current ∧
            (s.cassette k).current - 1 < (s.cassette k).lowMark)
          state := if (s.cassette k).current - 1 = 0 then .empty else if (s.cassette k).reference ≠ 0 then .ready
              else .unleveled
          leveling := none, shutter := (t.cassette k).shutter, mark := true } ∧
        t.custody.bins = { s.custody.bins with
            rejectCount := if s.custody.bins.rejectCounted then s.custody.bins.rejectCount + 1
              else s.custody.bins.rejectCount } ∧
        t.path = { s.path.freed s with
          queue := t.path.queue, shutterTravel := t.path.shutterTravel, rejectPause := t.pauseDue,
            rejectDiverter := t.path.rejectDiverter }) ∧
  (∀ (c : Instr) (z : ZoneId) (k : CassetteId) (v : Leveling) (s : State),
      s.heeds = true → StartsLockdown c z s → (s.cassette k).leveling = some v → v.phase = .waiting →
      s.path.holder ≠ some (.leveling k) →
      Yields c s fun t => t.cassette k = { s.cassette k with
          state := if (s.cassette k).current = 0 then .empty else if (s.cassette k).reference ≠ 0 then .ready
              else .unleveled
          leveling := none, reserved := (t.cassette k).reserved, shutter := (t.cassette k).shutter, mark := true } ∧
        .leveling k ∉ t.path.queue) ∧
  (∀ (c : Instr) (z : ZoneId) (k : CassetteId) (v : Leveling) (a : Attempt) (s : State),
      s.heeds = true → StartsLockdown c z s → s.path.state = .leveling → (s.cassette k).leveling = some v →
      v.phase = .fetching → s.path.holder = some (.leveling k) → s.path.attempt = some a →
      Yields c s fun t => (t.cassette k).leveling = some v ∧ t.path = { s.path with
        attempt := some { a with last := true }, queue := t.path.queue, shutterTravel := t.path.shutterTravel }) ∧
  (∀ (c : Instr) (z : ZoneId) (k : CassetteId) (v : Leveling) (s : State),
      s.heeds = true → StartsLockdown c z s → s.path.state = .leveling → (s.cassette k).leveling = some v →
      v.phase = .fetching → s.path.holder = some (.leveling k) → s.path.attempt = none → s.path.heldReading = none →
      Yields c s fun t => (t.cassette k).leveling = none ∧ (t.cassette k).current = (s.cassette k).current ∧
        (t.cassette k).mark = true ∧
        t.path = { s.path.freed s with queue := t.path.queue, shutterTravel := t.path.shutterTravel }) ∧
  (∀ (z : ZoneId) (s : State),
      s.heeds = true → (s.zone z).state ≠ .delay →
      Yields (.entryDelayExpiry z) s fun t => EventLeaves {} s t)

/-- O51. QUIET ENTER at rest closes the shutters and goes quiet; QUIET EXIT wakes the part after the dwell. (R35, R183,
R184.) -/
def Obligations.QuietEntryAndExit : Prop :=
  (∀ (ps : List Byte) (s : State),
      s.awake = true → carries 0 ps = true → s.sup.quietDwell = none → s.alarm.service = false →
      (∀ l, (s.lane l).session = .closed) → s.anyOrder (fun o => o.state.moving) = false →
      (∀ l, ((s.lane l).drawer = .closed ∨ (s.lane l).drawer = .jammed) ∧ (s.lane l).claim = false) →
      (∀ e ∈ s.custody.envelopes, e.state ≠ .intake ∧ e.state ≠ .conveying) → s.conveyor.clearance = none →
      s.path.state = .free → s.path.queue = [] → (∀ c, (s.cassette c).state ≠ .leveling) →
      Yields (.quietEnter ps) s fun t => CommandLeaves {
          cassettes := [0, 1, 2, 3, 4, 5], path := true, sup := true } okEmpty s t ∧
        (∀ c, t.cassette c = if (s.cassette c).shutter = .opened ∨ (s.cassette c).shutter = .opening
          then { s.cassette c with shutter := .closing, mark := true } else s.cassette c) ∧
        (∀ c, t.path.shutterTravel.get c = if (s.cassette c).shutter = .opened ∨ (s.cassette c).shutter = .opening
          then some 300 else s.path.shutterTravel.get c) ∧
        t.path = { s.path with shutterIdle := none, shutterTravel := t.path.shutterTravel } ∧
        t.sup = if ∀ c, (s.cassette c).shutter = .shut
          then { s.sup with mode := .quiet, rails := false, quietDwell := some 1000 }
              else { s.sup with mode := .enteringQuiet }) ∧
  (∀ (ps : List Byte) (s : State),
      s.awake = true → carries 0 ps = true →
      (s.sup.quietDwell.isSome = true ∨ s.alarm.service = true ∨ (∃ l, (s.lane l).session ≠ .closed) ∨
        s.anyOrder (fun o => o.state.moving) = true ∨ s.path.state ≠ .free) →
      Refuses (.quietEnter ps) s (if s.sup.quietDwell.isSome then .tooSoon else .wrongState)) ∧
  (∀ (ps : List Byte) (s : State),
      s.takes = true → carries 0 ps = true → (s.sup.mode = .enteringQuiet ∨ s.sup.mode = .quiet) →
      Yields (.quietEnter ps) s fun t => CommandLeaves {} okEmpty s t) ∧
  (∀ (ps : List Byte) (s : State),
      s.takes = true → carries 0 ps = true → s.sup.mode = .waking →
      Refuses (.quietEnter ps) s .waking ∧ Yields (.quietExit ps) s fun t => CommandLeaves {} okEmpty s t) ∧
  (∀ (ps : List Byte) (s : State),
      s.awake = true → carries 0 ps = true →
      Yields (.quietExit ps) s fun t => CommandLeaves {} okEmpty s t) ∧
  (∀ (ps : List Byte) (s : State),
      s.takes = true → carries 0 ps = true →
      (s.sup.mode = .enteringQuiet ∨ (s.sup.mode = .quiet ∧ s.sup.quietDwell.isSome = true)) →
      Refuses (.quietExit ps) s .tooSoon) ∧
  (∀ (ps : List Byte) (s : State),
      s.takes = true → carries 0 ps = true → s.sup.mode = .quiet → s.sup.quietDwell = none →
      Yields (.quietExit ps) s fun t => CommandLeaves { sup := true } okEmpty s t ∧
        t.sup = { s.sup with mode := .waking, rails := true, railSettle := some 200 }) ∧
  (∀ (s : State),
      s.heeds = true → s.sup.mode = .waking → s.sup.railSettle.isSome = true →
      Yields .railSettleExpiry s fun t => EventLeaves { sup := true } s t ∧
        t.sup = { s.sup with mode := .active, railSettle := none, quietDwell := some 1000 }) ∧
  (∀ (s : State),
      s.heeds = true →
      Yields .quietDwellExpiry s fun t => EventLeaves { sup := true } s t ∧ t.sup = { s.sup with quietDwell := none })

/-- O52. Power-on and the reset line start the part afresh; recovery deals with every record, and start-up ends ACTIVE.
(R18, R19, R22, R41, R75, R120, R126, R139, R159, R186, R187, R188.) -/
def Obligations.StartUpRecoversTheCustodyRecords : Prop :=
  (∀ (c : Instr) (s : State),
      (c = .powerOn ∨ c = .resetLine) →
      Yields c s fun t => t.custody = s.custody ∧
        t.levels = { s.levels with gaugeNote := s.levels.gaugeNote || s.path.heldReading.isSome } ∧
        t.sup = {
            mode := .starting, rails := false, phase := some .settle, phaseTimer := some 50, railSettle := none,
            quietDwell := none, clockMs := 0 } ∧
        t.port = {
            frame := none, processing := none, buffer := none, linkStatus := 0, notices := 0, heldNotices := 0,
            attention := false, settle := none } ∧
        t.watch.refused = none ∧ t.watch.refusals = 0 ∧
          (∀ k, t.watch.slots.get k = {
            enable := false, kind := .cassette, first := 1, span := 1, trigger := .stateChange, threshold := none, scope := none, hit := false, last := none }) ∧
        t.path.state = .free ∧ t.path.attempt = none ∧ t.path.run = none) ∧
  (∀ (found : FieldLevels) (s : State),
      s.sup.phase = some .settle →
      Yields (.settleExpiry found) s fun t => t.path.state = .purging ∧
        t.sup = { s.sup with rails := true, phase := some .purge, phaseTimer := some 3000 } ∧
        t.alarm.service = false ∧ t.alarm.key = found.key ∧ t.levels = { found with gaugeNote := false } ∧
        t.path.queue = [] ∧
        (∀ l, (t.lane l).session = .closed) ∧ (∀ c, (t.cassette c).leveling = none ∧ (t.cassette c).shutter = .shut ∧
          (found.seated.get c = false → (t.cassette c).state = .absent)) ∧ ∀ z,
            (t.zone z).input = found.zones.get z) ∧
  (∀ (found : FieldLevels) (s : State),
      s.sup.phase = some .settle → found.retentionGood = false →
      Yields (.settleExpiry found) s fun t => (s.lockdown = true →
        (if t.hushed then t.port.heldNotices else t.port.notices) &&& Notice.alarm.bit = Notice.alarm.bit) ∧
        t.custody.retention = .cleared ∧ t.custody.captureCounter = 1 ∧ t.custody.envelopes = [] ∧
        t.custody.placement = [] ∧ t.custody.dayArmed = false ∧ t.custody.nightArmed = false ∧
        t.custody.settings = {
            holdLimit := 300, presentLimit := 45, shutterIdleClose := 10, noteLimit := 40, maxRejects := 8,
            enables := 0x3ff } ∧
        t.custody.bins = {
            retractCount := 0, retractCounted := false, rejectCount := 0, rejectCounted := false,
            captureCounted := false, unexpected := 0 } ∧
        (∀ i, t.order i = none ∧ t.custody.tags.get i = 0) ∧
        (∀ z, let (g, r, l, d) := statedZone z
          let latches := g == .always && found.zones.get z == .active
          t.zone z = {
              group := g, response := r, lane := l, entryDelay := d, input := found.zones.get z,
              state := if latches then .latched else .normal, manualBypass := false,
              tripCount := if latches then 1 else 0, mark := found.zones.get z == .active }) ∧
        t.custody.tripList = ((positions _).filter fun z => (statedZone z).1 == .always && found.zones.get z == .active) ∧
        (∀ l, let lock : Lock := ((positions _).find? fun z => (statedZone z).2.1 == .laneLock && (statedZone z).2.2.1 == some l && found.zones.get z == .active).elim .none .alarm
          let drawer : Drawer := if found.limits.get l = .inner then .closed else .retracting
          t.lane l = {
              session := .closed, drawer := drawer, head := none, load := none, claim := false, lock := lock,
              mark := lock != .none || drawer != .closed }) ∧
        ∀ c, t.cassette c = {
            state := if found.seated.get c then .uncounted else .absent, value := 0, loaded := 0, current := 0,
            reserved := 0, guard := 5, lowMark := 100, lowFlag := false, reference := 0, accepted := 0,
            rejectNotes := 0, testNotes := 0, writtenOff := 0, shutter := .shut, leveling := none, mark := true }) ∧
  (∀ (found : FieldLevels) (i : OrderSlot) (o : Order) (s : State),
      s.sup.phase = some .settle → found.retentionGood = true → s.path.state = .free → s.order i = some o →
      (o.state = .held ∨ o.state = .queued) → (∀ l, (s.lane l).head ≠ some i ∧ (s.lane l).load ≠ some i) →
      Yields (.settleExpiry found) s fun t => t.order i = some { o with
          state := .cancelled, reason := some .power, holdDeadline := none, presentDeadline := none, mark := true }) ∧
  (∀ (found : FieldLevels) (c : CassetteId) (v : Leveling) (s : State),
      s.sup.phase = some .settle → found.retentionGood = true → found.gaugeNote = true →
      (s.cassette c).leveling = some v → v.phase ≠ .waiting →
      Yields (.settleExpiry found) s fun t => (t.cassette c).current = (s.cassette c).current - 1 ∧
        (t.cassette c).testNotes = (s.cassette c).testNotes + 1 ∧ (t.cassette c).mark = true) ∧
  (∀ (found : FieldLevels) (l : LaneId) (i : OrderSlot) (o : Order) (s : State),
      s.sup.phase = some .settle → found.retentionGood = true → (s.lane l).drawer ≠ .jammed →
      found.limits.get l ≠ .inner → (s.lane l).load = some i → s.order i = some o →
      (o.state = .staged ∨ o.state = .presented ∨ o.state = .recalling) → s.path.state = .free →
      (∀ k, (s.lane k).head ≠ some i ∧ (k ≠ l → (s.lane k).load ≠ some i)) →
      Yields (.settleExpiry found) s fun t => (t.lane l).drawer = .retracting ∧ (t.laneWork l).travel = some 4000 ∧
        (t.lane l).load = some i ∧
        let q : Order := { o with state := .recalling, reason := none, presentDeadline := none }
        t.order i = some { q with mark := q.mark || decide (q ≠ o) }) ∧
  (∀ (found : FieldLevels) (z : ZoneId) (s : State),
      s.sup.phase = some .settle → found.retentionGood = true → (s.zone z).state = .delay →
      Yields (.settleExpiry found) s fun t => (t.zone z).state = .latched ∧ z ∈ t.custody.tripList ∧
        (t.zone z).input = found.zones.get z ∧ (t.zone z).mark = true) ∧
  (∀ (found : FieldLevels) (i : OrderSlot) (o : Order) (s : State),
      s.sup.phase = some .settle → found.retentionGood = true → s.path.state = .free → s.order i = some o →
      (o.state = .picking ∨ o.state = .routing ∨ o.state = .aborting) →
      (∀ l, (s.lane l).head ≠ some i ∧ (s.lane l).load ≠ some i) →
      Yields (.settleExpiry found) s fun t => if o.acceptedTotal = 0
        then t.order i = some { o with
            state := .failed, reason := some .power, unresolved := 0, holdDeadline := none, presentDeadline := none,
              mark := true } ∧
          i ∉ t.custody.placement
        else (let q : Order := { o with state := .aborting, reason := some .power }
          t.order i = some { q with mark := q.mark || decide (q ≠ o) }) ∧
          ((∀ j, j ≠ i → (s.order j).any (fun p => p.acceptedTotal != 0 &&
              (p.state == .picking || p.state == .routing || (p.state == .aborting && !s.inHead j))) = false) →
                t.path.holder = some (.order i))) ∧
  (∀ (found : FieldLevels) (l : LaneId) (i : OrderSlot) (o : Order) (s : State),
      s.sup.phase = some .settle → found.retentionGood = true → s.path.state = .free → (s.lane l).head = some i →
      s.order i = some o → (o.state = .staged ∨ o.state = .aborting) →
      (∀ k, (k ≠ l → (s.lane k).head ≠ some i) ∧ (s.lane k).load ≠ some i) →
      Yields (.settleExpiry found) s fun t => (t.lane l).head = some i ∧ (t.laneWork l).dump = some 3000 ∧
        let q : Order := { o with state := .aborting, reason := some .power }
        t.order i = some { q with mark := q.mark || decide (q ≠ o) }) ∧
  (∀ (found : FieldLevels) (s : State),
      s.sup.phase = some .settle → SecondLaw s →
      Yields (.settleExpiry found) s fun t => ∀ c, (t.cassette c).reserved = 0) ∧
  (∀ (found : FieldLevels) (c : CassetteId) (s : State),
      s.sup.phase = some .settle → found.retentionGood = true → found.seated.get c = true →
      (s.cassette c).state = .absent → (s.cassette c).leveling = none →
      Yields (.settleExpiry found) s fun t => t.cassette c = { s.cassette c with
          state := .uncounted, value := 0, shutter := .shut, reserved := (t.cassette c).reserved, mark := true }) ∧
  (∀ (found : FieldLevels) (l : LaneId) (i : OrderSlot) (o : Order) (s : State),
      s.sup.phase = some .settle → found.retentionGood = true → (s.lane l).drawer ≠ .jammed →
      found.limits.get l = .inner → (s.lane l).load = some i → s.order i = some o →
      (o.state = .staged ∨ o.state = .presented ∨ o.state = .recalling) → o.retracted ≤ o.presented →
      s.path.state = .free → (∀ k, (s.lane k).head ≠ some i ∧ (k ≠ l → (s.lane k).load ≠ some i)) →
      Yields (.settleExpiry found) s fun t => t.order i = some { o with
          state := if o.retracted = 0 then .taken else if o.retracted = o.presented then .retracted else .partlyTaken
          reason := if o.retracted = o.presented ∧ o.retracted ≠ 0 then o.reason else none
          taken := if o.retracted = 0 then o.presented else if o.retracted = o.presented then 0
              else o.presented - o.retracted
          holdDeadline := none, presentDeadline := none, mark := true } ∧ i ∉ t.custody.placement) ∧
  (∀ (found : FieldLevels) (l : LaneId) (s : State),
      s.sup.phase = some .settle → found.retentionGood = true → (s.lane l).drawer ≠ .jammed →
      found.limits.get l = .inner →
      Yields (.settleExpiry found) s fun t => (t.lane l).load = none ∧
        (t.lane l).drawer = (if (s.lane l).claim = true ∧
          found.envelopes.get l = .oversize then .extending else .closed) ∧
        ((t.lane l).claim = true ↔ (s.lane l).claim = true ∧
          (found.envelopes.get l = .oversize ∨ (found.envelopes.get l = .present ∧ (s.gate l).isSome = true))) ∧
        ((s.lane l).claim = true → found.envelopes.get l = .present → s.gate l = none →
          (t.gate l).any (fun e => e.acceptedAt == s.clock && e.binPosition.isNone && e.declared.isNone && e.reference.isNone && e.mark) = true)) ∧
  (∀ (found : FieldLevels) (l : LaneId) (s : State),
      s.sup.phase = some .settle → found.retentionGood = true → (s.lane l).drawer ≠ .jammed →
      found.limits.get l ≠ .inner →
      Yields (.settleExpiry found) s fun t => (t.lane l).drawer = .retracting ∧ (t.laneWork l).travel = some 4000 ∧
        (t.lane l).load = (s.lane l).load ∧ (t.lane l).claim = (s.lane l).claim) ∧
  (∀ (found : FieldLevels) (l : LaneId) (s : State),
      s.sup.phase = some .settle → found.retentionGood = true → (s.lane l).drawer = .jammed →
      Yields (.settleExpiry found) s fun t => (t.lane l).drawer = .jammed ∧ (t.laneWork l).jamNote =
        if found.limits.get l = .inner then some .inner else if found.limits.get l = .outer then some .outer
            else none) ∧
  (∀ (found : FieldLevels) (s : State),
      s.sup.phase = some .settle → found.retentionGood = true →
      Yields (.settleExpiry found) s fun t => t.conveyor = { s.conveyor with
          state := .running, list := (s.custody.envelopes.filter fun e => e.state == .conveying).map (·.capture)
          binList := (s.custody.envelopes.filter fun e => e.state == .binned).map (·.capture)
          transit := if s.custody.envelopes.any (fun e => e.state == .conveying) then some 8000 else none
          spacing := none, clearance := none }) ∧
  (∀ (found : FieldLevels) (z : ZoneId) (s : State),
      s.sup.phase = some .settle → found.retentionGood = true →
      ((s.zone z).state = .normal ∨ ((s.zone z).state = .bypassed ∧ serviceKind z = true)) →
      (s.zone z).manualBypass = false → s.groupArmed (s.zone z).group = true → found.zones.get z = .active →
      Yields (.settleExpiry found) s fun t => (t.zone z).tripCount = bump (s.zone z).tripCount ∧
        (t.zone z).mark = true ∧
        (if (s.zone z).entryDelay = 0
          then (t.zone z).state = .latched ∧ z ∈ t.custody.tripList
          else (t.zone z).state = .delay ∧ t.alarm.delays.get z = some ((s.zone z).entryDelay * 1000))) ∧
  (∀ (found : FieldLevels) (s : State),
      s.sup.phase ≠ some .settle →
      Yields (.settleExpiry found) s fun t => t = s) ∧
  (∀ (s : State),
      s.sup.phase = some .purge → s.port.settle = none →
      Yields .startUpEnd s fun t => t.sup = { s.sup with mode := .active, phase := none, phaseTimer := none } ∧
        t.path.state = .free ∧ t.path.holder = none ∧ t.path.queue = [] ∧ t.path.jam = none ∧ t.path.attempt = none ∧
        t.path.stackerNotes = s.levels.stacker ∧ t.path.rejectPause = s.pauseDue ∧
        t.alarm = { s.alarm with siren := s.lockdown, silent := s.silentLatched } ∧
        t.port.notices &&& Notice.restart.bit = Notice.restart.bit ∧
          s.port.heldNotices ||| t.port.notices = t.port.notices ∧ t.port.heldNotices = 0 ∧
        t.conveyor = if s.custody.retention = .cleared
            then { s.conveyor with clearance := some 8000, gatesDriven := [0, 1, 2, 3] } else s.conveyor) ∧
  (∀ (i : OrderSlot) (o : Order) (s : State),
      s.sup.phase = some .purge → s.path.holder = some (.order i) → s.order i = some o → o.state = .aborting →
      o.reason = some .power →
      Yields .startUpEnd s fun t => t.order i = some { o with
          state := .failed, unresolved := o.acceptedTotal - o.retracted, holdDeadline := none,
          presentDeadline := none, mark := true })

/-- O53. Whatever an event of the field lines, the timers or the blocks changes in a record, it marks, and raises the
table's notice. (R9, R10, R175, R176.) -/
def Obligations.EventsMarkWhatTheyChange : Prop :=
  (∀ (c : Instr) (s : State),
      encodeFrame c = none → s.sup.phase ≠ some .settle → CaptureLaw s →
      Yields c s fun t =>
        (∀ k, t.cassette k = s.cassette k ∨ (t.cassette k).mark = true) ∧
          (∀ k, t.zone k = s.zone k ∨ (t.zone k).mark = true) ∧
        (∀ k, t.lane k = s.lane k ∨ (t.lane k).mark = true) ∧
        (∀ k, t.order k = s.order k ∨ (t.order k).any (·.mark) = true) ∧
        (∀ e ∈ t.custody.envelopes, e ∈ s.custody.envelopes ∨ e.mark = true) ∧
        ((∃ k, t.cassette k ≠ s.cassette k) →
          (if t.hushed then t.port.heldNotices else t.port.notices) &&& Notice.cassettes.bit = Notice.cassettes.bit) ∧
        ((∃ k, t.order k ≠ s.order k) →
          (if t.hushed then t.port.heldNotices else t.port.notices) &&& Notice.orders.bit = Notice.orders.bit) ∧
        ((∃ k, t.zone k ≠ s.zone k) →
          (if t.hushed then t.port.heldNotices else t.port.notices) &&& Notice.zones.bit = Notice.zones.bit) ∧
        ((∃ k, t.lane k ≠ s.lane k) →
          (if t.hushed then t.port.heldNotices else t.port.notices) &&& Notice.lanes.bit = Notice.lanes.bit) ∧
        ((∃ e ∈ t.custody.envelopes, e ∉ s.custody.envelopes) →
          (if t.hushed then t.port.heldNotices else t.port.notices) &&& Notice.envelopes.bit = Notice.envelopes.bit))

/-- O54. Every step keeps the agreement of mode, phase, settle, notices and attention, and the twelfth law of LANE
watches. (R165, R176, R182, R185.) -/
def Obligations.StepsKeepTheLinkAndLaneWatchLaws : Prop :=
  (∀ (s t : State),
      LinkLaw s → LaneWatchLaw s → step s = .next t →
      LinkLaw t ∧ LaneWatchLaw t)

/-- O55. Every step keeps the trip list the list of the LATCHED zones, each once, every configuration item in its range,
and CLOSING only for lanes with work in flight. (R103, R104, R120, R149, R151, R159, R178.) -/
def Obligations.StepsKeepTheTripSettingsAndClosingLaws : Prop :=
  (∀ (s t : State),
      TripLaw s → step s = .next t →
      TripLaw t) ∧
  (∀ (s t : State),
      SettingsLaw s → step s = .next t →
      SettingsLaw t) ∧
  (∀ (s t : State),
      ClosingLaw s → PlaceLaw s → LinkLaw s → step s = .next t →
      ClosingLaw t)

/-- O56. Every step keeps the capture budget of 120 and the capture numbers distinct and in range. (R5, R6, R133.) -/
def Obligations.StepsKeepTheCaptureLaw : Prop :=
  (∀ (s t : State),
      CaptureLaw s → step s = .next t →
      CaptureLaw t)

/-- O57. Every step keeps the first law: each note a cassette was loaded with is in it or in exactly one of its tallies.
(R29, R23, R25, R26, R27, R39, R40, R41.) -/
def Obligations.StepsKeepTheFirstLaw : Prop :=
  (∀ (s t : State),
      FirstLaw s → SecondLaw s → SessionLaw s → PlaceLaw s → LinkLaw s → step s = .next t →
      FirstLaw t)

/-- O58. At reset the part is STARTING in phase SETTLE with an empty link side, and every law of the other statements
holds. (R160, R167, R177, R182.) -/
def Obligations.ResetIsStartingWithLawsStanding : Prop :=
  (State.reset.pending = [] ∧ State.reset.port = {
      frame := none, processing := none, buffer := none, linkStatus := 0, notices := 0, heldNotices := 0, attention := false, settle := none } ∧
      State.reset.sup = {
          mode := .starting, rails := false, phase := some .settle, phaseTimer := some 50, railSettle := none,
          quietDwell := none, clockMs := 0 } ∧
      State.reset.watch.refused = none ∧ State.reset.watch.refusals = 0 ∧
        (∀ k, (State.reset.watch.slots.get k).enable = false ∧ (State.reset.watch.slots.get k).hit = false) ∧
      LinkLaw State.reset ∧ LaneWatchLaw State.reset ∧ TripLaw State.reset ∧ CaptureLaw State.reset ∧
        SettingsLaw State.reset ∧ ClosingLaw State.reset ∧ FirstLaw State.reset ∧
      SecondLaw State.reset ∧ SessionLaw State.reset ∧ PlaceLaw State.reset)

/-- O59. The frame of a well-formed station command is read back as that command, by the codes of section 10.7. (section
10.7, R169, R171.) -/
def Obligations.FramesCarryTheirCommands : Prop :=
  (∀ (i : Instr) (f : List Byte),
      i.wf = true → encodeFrame i = some f →
      decodeFrame f = some i) ∧
  (decodeFrame [0x03] = some (.linkStatusRead []) ∧
    decodeFrame [0x20, 1, 0, 100, 0, 0] = some (.orderPlace [1, 0, 100, 0, 0]) ∧
      decodeFrame [0x68] = some (.serviceEnter []) ∧ decodeFrame [0x72, 5] = some (.watchClear [5]) ∧
        decodeFrame [0x7F] = some (.unknownCommand 0x7F []))

/-- O60. The mix is the lexicographically greatest count vector over the READY cassettes in position order that meets the
four conditions, or none. (R46, R47, R48, R49, R50, R51, R54.) -/
def Obligations.MixIsTheGreatestVectorThatFits : Prop :=
  (∀ (places : List Place) (amount limit : Nat) (caps : List Cap) (v : List Nat),
      (∀ p ∈ places, 0 < p.value) → capsDistinct caps = true →
      (searchMix places amount limit caps = some v ↔
        MixFits places amount limit caps v ∧ ∀ w, MixFits places amount limit caps w → w = v ∨ w < v)) ∧
  (∀ (places : List Place) (amount limit : Nat) (caps : List Cap),
      (∀ p ∈ places, 0 < p.value) → capsDistinct caps = true →
      (searchMix places amount limit caps = none ↔ ¬ ∃ w, MixFits places amount limit caps w)) ∧
  (∀ (p : Place) (s : State),
      (p ∈ s.places ↔ (s.cassette p.slot).state = .ready ∧ p.value = (s.cassette p.slot).value ∧
        p.available = (s.cassette p.slot).current - (s.cassette p.slot).reserved - (s.cassette p.slot).guard)) ∧
  (∀ (s : State),
      (s.places.Pairwise fun a b => b.value < a.value ∨ (a.value = b.value ∧ (b.available < a.available ∨
        (a.available = b.available ∧ a.slot < b.slot))))) ∧
  (∀ (amount : Nat) (caps : List Cap) (s : State),
      (∀ c, (s.cassette c).state = .ready → 0 < (s.cassette c).value) → capsDistinct caps = true →
      ((∃ v, MixFits s.places amount s.custody.settings.noteLimit caps v) →
        ∃ v, MixFits s.places amount s.custody.settings.noteLimit caps v ∧
        (∀ w, MixFits s.places amount s.custody.settings.noteLimit caps w → w = v ∨ w < v) ∧
        s.findMix amount caps = some (((s.places.zip v).filter fun pc => 0 < pc.2).map fun pc =>
          { slot := pc.1.slot, value := pc.1.value, count := pc.2, accepted := 0 })) ∧
      ((¬ ∃ v, MixFits s.places amount s.custody.settings.noteLimit caps v) → s.findMix amount caps = none))
end

