-- ==== Sys2Proof/Laws/Tables.lean ====
section
/-! SUPPORT. The laws of the tables of fixed membership: reading after writing, rewriting, and going through the
positions. -/

namespace Sys2Proof.Machine

variable {α β σ : Type} {n : Nat}

/-- A table given position by position holds what each position was given. -/
@[simp] theorem tableOf_get (f : Fin n → α) (i : Fin n) : (tableOf f).get i = f i := by
  simp only [tableOf, Vector.get, List.getElem_toArray, List.getElem_ofFn]
  rfl

/-- Reading a table after a write, at any position. -/
theorem tableSet_get (t : Vector α n) (i j : Fin n) (a : α) :
    (tableSet t i a).get j = if i = j then a else t.get j := by
  simp only [tableSet, Vector.get_eq_getElem, Vector.getElem_set, Fin.ext_iff]

/-- The position written holds what was written. -/
@[simp] theorem tableSet_get_self (t : Vector α n) (i : Fin n) (a : α) : (tableSet t i a).get i = a := by
  simp [tableSet_get]

/-- Every other position is as it was. -/
theorem tableSet_get_ne (t : Vector α n) {i j : Fin n} (a : α) (h : i ≠ j) : (tableSet t i a).get j = t.get j := by
  simp [tableSet_get, h]

/-- Reading a rewritten table. -/
@[simp] theorem tableMap_get (f : Fin n → α → β) (t : Vector α n) (i : Fin n) :
    (tableMap f t).get i = f i (t.get i) := by
  simp [tableMap]

/-- Two tables that agree at every position are one. -/
theorem table_ext {t u : Vector α n} (h : ∀ i, t.get i = u.get i) : t = u := by
  apply Vector.ext
  intro i hi
  exact h ⟨i, hi⟩

/-- Writing back what stands changes nothing. -/
@[simp] theorem tableSet_same (t : Vector α n) (i : Fin n) : tableSet t i (t.get i) = t :=
  table_ext fun j => by
    rw [tableSet_get]
    split
    · next h => rw [h]
    · rfl

/-- Every position is one of the positions. -/
@[simp] theorem mem_positions (i : Fin n) : i ∈ positions n := by
  simp [positions]

/-- The positions stand once each. -/
theorem positions_nodup : (positions n).Nodup := by
  simp [positions, List.nodup_ofFn_ofInjective Function.injective_id]

/-- Some position meets p. -/
theorem tableAny_iff (p : α → Bool) (t : Vector α n) : tableAny p t = true ↔ ∃ i, p (t.get i) = true := by
  simp [tableAny]

/-- No position meets p. -/
theorem tableAny_false_iff (p : α → Bool) (t : Vector α n) : tableAny p t = false ↔ ∀ i, p (t.get i) = false := by
  simp [tableAny]

/-- Every position meets p. -/
theorem tableAll_iff (p : α → Bool) (t : Vector α n) : tableAll p t = true ↔ ∀ i, p (t.get i) = true := by
  simp [tableAll]

/-- What every turn of a passage through the positions keeps, the whole passage keeps. -/
theorem forEach_keeps (P : σ → Prop) (f : Fin n → σ → σ) (h : ∀ i s, P s → P (f i s)) (s : σ) (hs : P s) :
    P (forEach f s) := by
  unfold forEach
  induction positions n generalizing s with
  | nil => exact hs
  | cons i l ih => exact ih _ (h i s hs)

/-- What a passage does at one position: the turn of position i sees v of the state as it stood, and no later turn
changes what turn i made of it. -/
theorem forEach_at {γ : Type} (v : σ → γ) (f : Fin n → σ → σ) (i : Fin n) (g : γ → γ)
    (other : ∀ j s, j ≠ i → v (f j s) = v s) (own : ∀ s, v (f i s) = g (v s)) (s : σ) :
    v (forEach f s) = g (v s) := by
  have skip : ∀ (l : List (Fin n)) (s : σ), i ∉ l → v (l.foldl (fun s i => f i s) s) = v s := by
    intro l
    induction l with
    | nil => intro s _; rfl
    | cons j l ih =>
      intro s hi
      simp only [List.mem_cons, not_or] at hi
      simp only [List.foldl_cons]
      rw [ih _ hi.2, other j s (Ne.symm hi.1)]
  have go : ∀ (l : List (Fin n)) (s : σ), l.Nodup → i ∈ l → v (l.foldl (fun s i => f i s) s) = g (v s) := by
    intro l
    induction l with
    | nil => intro s _ hi; cases hi
    | cons j l ih =>
      intro s hd hi
      simp only [List.nodup_cons] at hd
      simp only [List.foldl_cons]
      rcases List.mem_cons.mp hi with rfl | hi
      · rw [skip l _ hd.1, own]
      · have hj : j ≠ i := fun e => hd.1 (e ▸ hi)
        rw [ih _ hd.2 hi, other j s hj]
  exact go _ s positions_nodup (mem_positions i)

end Sys2Proof.Machine
end

