-- ==== Sys2Proof/Laws/State.lean ====
section
/-! SUPPORT. The updates of the state, field by field: what each writes and what each leaves. No later proof unfolds a
record update. -/

namespace Sys2Proof.Machine

/-! ### modCassette -/

@[simp] theorem State.modCassette_pending (s : State) (c : CassetteId) (f : Cassette → Cassette) : (s.modCassette c f).pending = s.pending := rfl
@[simp] theorem State.modCassette_path (s : State) (c : CassetteId) (f : Cassette → Cassette) : (s.modCassette c f).path = s.path := rfl
@[simp] theorem State.modCassette_work (s : State) (c : CassetteId) (f : Cassette → Cassette) : (s.modCassette c f).work = s.work := rfl
@[simp] theorem State.modCassette_conveyor (s : State) (c : CassetteId) (f : Cassette → Cassette) : (s.modCassette c f).conveyor = s.conveyor := rfl
@[simp] theorem State.modCassette_alarm (s : State) (c : CassetteId) (f : Cassette → Cassette) : (s.modCassette c f).alarm = s.alarm := rfl
@[simp] theorem State.modCassette_port (s : State) (c : CassetteId) (f : Cassette → Cassette) : (s.modCassette c f).port = s.port := rfl
@[simp] theorem State.modCassette_watch (s : State) (c : CassetteId) (f : Cassette → Cassette) : (s.modCassette c f).watch = s.watch := rfl
@[simp] theorem State.modCassette_sup (s : State) (c : CassetteId) (f : Cassette → Cassette) : (s.modCassette c f).sup = s.sup := rfl
@[simp] theorem State.modCassette_levels (s : State) (c : CassetteId) (f : Cassette → Cassette) : (s.modCassette c f).levels = s.levels := rfl
@[simp] theorem State.modCassette_orders (s : State) (c : CassetteId) (f : Cassette → Cassette) :
    (s.modCassette c f).custody.orders = s.custody.orders := rfl
@[simp] theorem State.modCassette_tags (s : State) (c : CassetteId) (f : Cassette → Cassette) :
    (s.modCassette c f).custody.tags = s.custody.tags := rfl
@[simp] theorem State.modCassette_placement (s : State) (c : CassetteId) (f : Cassette → Cassette) :
    (s.modCassette c f).custody.placement = s.custody.placement := rfl
@[simp] theorem State.modCassette_envelopes (s : State) (c : CassetteId) (f : Cassette → Cassette) :
    (s.modCassette c f).custody.envelopes = s.custody.envelopes := rfl
@[simp] theorem State.modCassette_captureCounter (s : State) (c : CassetteId) (f : Cassette → Cassette) :
    (s.modCassette c f).custody.captureCounter = s.custody.captureCounter := rfl
@[simp] theorem State.modCassette_zones (s : State) (c : CassetteId) (f : Cassette → Cassette) :
    (s.modCassette c f).custody.zones = s.custody.zones := rfl
@[simp] theorem State.modCassette_dayArmed (s : State) (c : CassetteId) (f : Cassette → Cassette) :
    (s.modCassette c f).custody.dayArmed = s.custody.dayArmed := rfl
@[simp] theorem State.modCassette_nightArmed (s : State) (c : CassetteId) (f : Cassette → Cassette) :
    (s.modCassette c f).custody.nightArmed = s.custody.nightArmed := rfl
@[simp] theorem State.modCassette_tripList (s : State) (c : CassetteId) (f : Cassette → Cassette) :
    (s.modCassette c f).custody.tripList = s.custody.tripList := rfl
@[simp] theorem State.modCassette_lanes (s : State) (c : CassetteId) (f : Cassette → Cassette) :
    (s.modCassette c f).custody.lanes = s.custody.lanes := rfl
@[simp] theorem State.modCassette_bins (s : State) (c : CassetteId) (f : Cassette → Cassette) :
    (s.modCassette c f).custody.bins = s.custody.bins := rfl
@[simp] theorem State.modCassette_settings (s : State) (c : CassetteId) (f : Cassette → Cassette) :
    (s.modCassette c f).custody.settings = s.custody.settings := rfl
@[simp] theorem State.modCassette_retention (s : State) (c : CassetteId) (f : Cassette → Cassette) :
    (s.modCassette c f).custody.retention = s.custody.retention := rfl
@[simp] theorem State.modCassette_order (s : State) (c : CassetteId) (f : Cassette → Cassette) (k : OrderSlot) :
    (s.modCassette c f).order k = s.order k := rfl
@[simp] theorem State.modCassette_zone (s : State) (c : CassetteId) (f : Cassette → Cassette) (k : ZoneId) :
    (s.modCassette c f).zone k = s.zone k := rfl
@[simp] theorem State.modCassette_lane (s : State) (c : CassetteId) (f : Cassette → Cassette) (k : LaneId) :
    (s.modCassette c f).lane k = s.lane k := rfl
@[simp] theorem State.modCassette_laneWork (s : State) (c : CassetteId) (f : Cassette → Cassette) (k : LaneId) :
    (s.modCassette c f).laneWork k = s.laneWork k := rfl
@[simp] theorem State.modCassette_envelope (s : State) (c : CassetteId) (f : Cassette → Cassette) (k : Nat) :
    (s.modCassette c f).envelope k = s.envelope k := rfl
@[simp] theorem State.modCassette_clock (s : State) (c : CassetteId) (f : Cassette → Cassette) : (s.modCassette c f).clock = s.clock := rfl

/-! ### setOrder -/

@[simp] theorem State.setOrder_pending (s : State) (i : OrderSlot) (o : Option Order) : (s.setOrder i o).pending = s.pending := rfl
@[simp] theorem State.setOrder_path (s : State) (i : OrderSlot) (o : Option Order) : (s.setOrder i o).path = s.path := rfl
@[simp] theorem State.setOrder_work (s : State) (i : OrderSlot) (o : Option Order) : (s.setOrder i o).work = s.work := rfl
@[simp] theorem State.setOrder_conveyor (s : State) (i : OrderSlot) (o : Option Order) : (s.setOrder i o).conveyor = s.conveyor := rfl
@[simp] theorem State.setOrder_alarm (s : State) (i : OrderSlot) (o : Option Order) : (s.setOrder i o).alarm = s.alarm := rfl
@[simp] theorem State.setOrder_port (s : State) (i : OrderSlot) (o : Option Order) : (s.setOrder i o).port = s.port := rfl
@[simp] theorem State.setOrder_watch (s : State) (i : OrderSlot) (o : Option Order) : (s.setOrder i o).watch = s.watch := rfl
@[simp] theorem State.setOrder_sup (s : State) (i : OrderSlot) (o : Option Order) : (s.setOrder i o).sup = s.sup := rfl
@[simp] theorem State.setOrder_levels (s : State) (i : OrderSlot) (o : Option Order) : (s.setOrder i o).levels = s.levels := rfl
@[simp] theorem State.setOrder_cassettes (s : State) (i : OrderSlot) (o : Option Order) :
    (s.setOrder i o).custody.cassettes = s.custody.cassettes := rfl
@[simp] theorem State.setOrder_tags (s : State) (i : OrderSlot) (o : Option Order) :
    (s.setOrder i o).custody.tags = s.custody.tags := rfl
@[simp] theorem State.setOrder_placement (s : State) (i : OrderSlot) (o : Option Order) :
    (s.setOrder i o).custody.placement = s.custody.placement := rfl
@[simp] theorem State.setOrder_envelopes (s : State) (i : OrderSlot) (o : Option Order) :
    (s.setOrder i o).custody.envelopes = s.custody.envelopes := rfl
@[simp] theorem State.setOrder_captureCounter (s : State) (i : OrderSlot) (o : Option Order) :
    (s.setOrder i o).custody.captureCounter = s.custody.captureCounter := rfl
@[simp] theorem State.setOrder_zones (s : State) (i : OrderSlot) (o : Option Order) :
    (s.setOrder i o).custody.zones = s.custody.zones := rfl
@[simp] theorem State.setOrder_dayArmed (s : State) (i : OrderSlot) (o : Option Order) :
    (s.setOrder i o).custody.dayArmed = s.custody.dayArmed := rfl
@[simp] theorem State.setOrder_nightArmed (s : State) (i : OrderSlot) (o : Option Order) :
    (s.setOrder i o).custody.nightArmed = s.custody.nightArmed := rfl
@[simp] theorem State.setOrder_tripList (s : State) (i : OrderSlot) (o : Option Order) :
    (s.setOrder i o).custody.tripList = s.custody.tripList := rfl
@[simp] theorem State.setOrder_lanes (s : State) (i : OrderSlot) (o : Option Order) :
    (s.setOrder i o).custody.lanes = s.custody.lanes := rfl
@[simp] theorem State.setOrder_bins (s : State) (i : OrderSlot) (o : Option Order) :
    (s.setOrder i o).custody.bins = s.custody.bins := rfl
@[simp] theorem State.setOrder_settings (s : State) (i : OrderSlot) (o : Option Order) :
    (s.setOrder i o).custody.settings = s.custody.settings := rfl
@[simp] theorem State.setOrder_retention (s : State) (i : OrderSlot) (o : Option Order) :
    (s.setOrder i o).custody.retention = s.custody.retention := rfl
@[simp] theorem State.setOrder_cassette (s : State) (i : OrderSlot) (o : Option Order) (k : CassetteId) :
    (s.setOrder i o).cassette k = s.cassette k := rfl
@[simp] theorem State.setOrder_zone (s : State) (i : OrderSlot) (o : Option Order) (k : ZoneId) :
    (s.setOrder i o).zone k = s.zone k := rfl
@[simp] theorem State.setOrder_lane (s : State) (i : OrderSlot) (o : Option Order) (k : LaneId) :
    (s.setOrder i o).lane k = s.lane k := rfl
@[simp] theorem State.setOrder_laneWork (s : State) (i : OrderSlot) (o : Option Order) (k : LaneId) :
    (s.setOrder i o).laneWork k = s.laneWork k := rfl
@[simp] theorem State.setOrder_envelope (s : State) (i : OrderSlot) (o : Option Order) (k : Nat) :
    (s.setOrder i o).envelope k = s.envelope k := rfl
@[simp] theorem State.setOrder_clock (s : State) (i : OrderSlot) (o : Option Order) : (s.setOrder i o).clock = s.clock := rfl

/-! ### modOrder -/

@[simp] theorem State.modOrder_pending (s : State) (i : OrderSlot) (f : Order → Order) : (s.modOrder i f).pending = s.pending := rfl
@[simp] theorem State.modOrder_path (s : State) (i : OrderSlot) (f : Order → Order) : (s.modOrder i f).path = s.path := rfl
@[simp] theorem State.modOrder_work (s : State) (i : OrderSlot) (f : Order → Order) : (s.modOrder i f).work = s.work := rfl
@[simp] theorem State.modOrder_conveyor (s : State) (i : OrderSlot) (f : Order → Order) : (s.modOrder i f).conveyor = s.conveyor := rfl
@[simp] theorem State.modOrder_alarm (s : State) (i : OrderSlot) (f : Order → Order) : (s.modOrder i f).alarm = s.alarm := rfl
@[simp] theorem State.modOrder_port (s : State) (i : OrderSlot) (f : Order → Order) : (s.modOrder i f).port = s.port := rfl
@[simp] theorem State.modOrder_watch (s : State) (i : OrderSlot) (f : Order → Order) : (s.modOrder i f).watch = s.watch := rfl
@[simp] theorem State.modOrder_sup (s : State) (i : OrderSlot) (f : Order → Order) : (s.modOrder i f).sup = s.sup := rfl
@[simp] theorem State.modOrder_levels (s : State) (i : OrderSlot) (f : Order → Order) : (s.modOrder i f).levels = s.levels := rfl
@[simp] theorem State.modOrder_cassettes (s : State) (i : OrderSlot) (f : Order → Order) :
    (s.modOrder i f).custody.cassettes = s.custody.cassettes := rfl
@[simp] theorem State.modOrder_tags (s : State) (i : OrderSlot) (f : Order → Order) :
    (s.modOrder i f).custody.tags = s.custody.tags := rfl
@[simp] theorem State.modOrder_placement (s : State) (i : OrderSlot) (f : Order → Order) :
    (s.modOrder i f).custody.placement = s.custody.placement := rfl
@[simp] theorem State.modOrder_envelopes (s : State) (i : OrderSlot) (f : Order → Order) :
    (s.modOrder i f).custody.envelopes = s.custody.envelopes := rfl
@[simp] theorem State.modOrder_captureCounter (s : State) (i : OrderSlot) (f : Order → Order) :
    (s.modOrder i f).custody.captureCounter = s.custody.captureCounter := rfl
@[simp] theorem State.modOrder_zones (s : State) (i : OrderSlot) (f : Order → Order) :
    (s.modOrder i f).custody.zones = s.custody.zones := rfl
@[simp] theorem State.modOrder_dayArmed (s : State) (i : OrderSlot) (f : Order → Order) :
    (s.modOrder i f).custody.dayArmed = s.custody.dayArmed := rfl
@[simp] theorem State.modOrder_nightArmed (s : State) (i : OrderSlot) (f : Order → Order) :
    (s.modOrder i f).custody.nightArmed = s.custody.nightArmed := rfl
@[simp] theorem State.modOrder_tripList (s : State) (i : OrderSlot) (f : Order → Order) :
    (s.modOrder i f).custody.tripList = s.custody.tripList := rfl
@[simp] theorem State.modOrder_lanes (s : State) (i : OrderSlot) (f : Order → Order) :
    (s.modOrder i f).custody.lanes = s.custody.lanes := rfl
@[simp] theorem State.modOrder_bins (s : State) (i : OrderSlot) (f : Order → Order) :
    (s.modOrder i f).custody.bins = s.custody.bins := rfl
@[simp] theorem State.modOrder_settings (s : State) (i : OrderSlot) (f : Order → Order) :
    (s.modOrder i f).custody.settings = s.custody.settings := rfl
@[simp] theorem State.modOrder_retention (s : State) (i : OrderSlot) (f : Order → Order) :
    (s.modOrder i f).custody.retention = s.custody.retention := rfl
@[simp] theorem State.modOrder_cassette (s : State) (i : OrderSlot) (f : Order → Order) (k : CassetteId) :
    (s.modOrder i f).cassette k = s.cassette k := rfl
@[simp] theorem State.modOrder_zone (s : State) (i : OrderSlot) (f : Order → Order) (k : ZoneId) :
    (s.modOrder i f).zone k = s.zone k := rfl
@[simp] theorem State.modOrder_lane (s : State) (i : OrderSlot) (f : Order → Order) (k : LaneId) :
    (s.modOrder i f).lane k = s.lane k := rfl
@[simp] theorem State.modOrder_laneWork (s : State) (i : OrderSlot) (f : Order → Order) (k : LaneId) :
    (s.modOrder i f).laneWork k = s.laneWork k := rfl
@[simp] theorem State.modOrder_envelope (s : State) (i : OrderSlot) (f : Order → Order) (k : Nat) :
    (s.modOrder i f).envelope k = s.envelope k := rfl
@[simp] theorem State.modOrder_clock (s : State) (i : OrderSlot) (f : Order → Order) : (s.modOrder i f).clock = s.clock := rfl

/-! ### modZone -/

@[simp] theorem State.modZone_pending (s : State) (z : ZoneId) (f : Zone → Zone) : (s.modZone z f).pending = s.pending := rfl
@[simp] theorem State.modZone_path (s : State) (z : ZoneId) (f : Zone → Zone) : (s.modZone z f).path = s.path := rfl
@[simp] theorem State.modZone_work (s : State) (z : ZoneId) (f : Zone → Zone) : (s.modZone z f).work = s.work := rfl
@[simp] theorem State.modZone_conveyor (s : State) (z : ZoneId) (f : Zone → Zone) : (s.modZone z f).conveyor = s.conveyor := rfl
@[simp] theorem State.modZone_alarm (s : State) (z : ZoneId) (f : Zone → Zone) : (s.modZone z f).alarm = s.alarm := rfl
@[simp] theorem State.modZone_port (s : State) (z : ZoneId) (f : Zone → Zone) : (s.modZone z f).port = s.port := rfl
@[simp] theorem State.modZone_watch (s : State) (z : ZoneId) (f : Zone → Zone) : (s.modZone z f).watch = s.watch := rfl
@[simp] theorem State.modZone_sup (s : State) (z : ZoneId) (f : Zone → Zone) : (s.modZone z f).sup = s.sup := rfl
@[simp] theorem State.modZone_levels (s : State) (z : ZoneId) (f : Zone → Zone) : (s.modZone z f).levels = s.levels := rfl
@[simp] theorem State.modZone_cassettes (s : State) (z : ZoneId) (f : Zone → Zone) :
    (s.modZone z f).custody.cassettes = s.custody.cassettes := rfl
@[simp] theorem State.modZone_orders (s : State) (z : ZoneId) (f : Zone → Zone) :
    (s.modZone z f).custody.orders = s.custody.orders := rfl
@[simp] theorem State.modZone_tags (s : State) (z : ZoneId) (f : Zone → Zone) :
    (s.modZone z f).custody.tags = s.custody.tags := rfl
@[simp] theorem State.modZone_placement (s : State) (z : ZoneId) (f : Zone → Zone) :
    (s.modZone z f).custody.placement = s.custody.placement := rfl
@[simp] theorem State.modZone_envelopes (s : State) (z : ZoneId) (f : Zone → Zone) :
    (s.modZone z f).custody.envelopes = s.custody.envelopes := rfl
@[simp] theorem State.modZone_captureCounter (s : State) (z : ZoneId) (f : Zone → Zone) :
    (s.modZone z f).custody.captureCounter = s.custody.captureCounter := rfl
@[simp] theorem State.modZone_dayArmed (s : State) (z : ZoneId) (f : Zone → Zone) :
    (s.modZone z f).custody.dayArmed = s.custody.dayArmed := rfl
@[simp] theorem State.modZone_nightArmed (s : State) (z : ZoneId) (f : Zone → Zone) :
    (s.modZone z f).custody.nightArmed = s.custody.nightArmed := rfl
@[simp] theorem State.modZone_tripList (s : State) (z : ZoneId) (f : Zone → Zone) :
    (s.modZone z f).custody.tripList = s.custody.tripList := rfl
@[simp] theorem State.modZone_lanes (s : State) (z : ZoneId) (f : Zone → Zone) :
    (s.modZone z f).custody.lanes = s.custody.lanes := rfl
@[simp] theorem State.modZone_bins (s : State) (z : ZoneId) (f : Zone → Zone) :
    (s.modZone z f).custody.bins = s.custody.bins := rfl
@[simp] theorem State.modZone_settings (s : State) (z : ZoneId) (f : Zone → Zone) :
    (s.modZone z f).custody.settings = s.custody.settings := rfl
@[simp] theorem State.modZone_retention (s : State) (z : ZoneId) (f : Zone → Zone) :
    (s.modZone z f).custody.retention = s.custody.retention := rfl
@[simp] theorem State.modZone_cassette (s : State) (z : ZoneId) (f : Zone → Zone) (k : CassetteId) :
    (s.modZone z f).cassette k = s.cassette k := rfl
@[simp] theorem State.modZone_order (s : State) (z : ZoneId) (f : Zone → Zone) (k : OrderSlot) :
    (s.modZone z f).order k = s.order k := rfl
@[simp] theorem State.modZone_lane (s : State) (z : ZoneId) (f : Zone → Zone) (k : LaneId) :
    (s.modZone z f).lane k = s.lane k := rfl
@[simp] theorem State.modZone_laneWork (s : State) (z : ZoneId) (f : Zone → Zone) (k : LaneId) :
    (s.modZone z f).laneWork k = s.laneWork k := rfl
@[simp] theorem State.modZone_envelope (s : State) (z : ZoneId) (f : Zone → Zone) (k : Nat) :
    (s.modZone z f).envelope k = s.envelope k := rfl
@[simp] theorem State.modZone_clock (s : State) (z : ZoneId) (f : Zone → Zone) : (s.modZone z f).clock = s.clock := rfl

/-! ### modLane -/

@[simp] theorem State.modLane_pending (s : State) (l : LaneId) (f : Lane → Lane) : (s.modLane l f).pending = s.pending := rfl
@[simp] theorem State.modLane_path (s : State) (l : LaneId) (f : Lane → Lane) : (s.modLane l f).path = s.path := rfl
@[simp] theorem State.modLane_work (s : State) (l : LaneId) (f : Lane → Lane) : (s.modLane l f).work = s.work := rfl
@[simp] theorem State.modLane_conveyor (s : State) (l : LaneId) (f : Lane → Lane) : (s.modLane l f).conveyor = s.conveyor := rfl
@[simp] theorem State.modLane_alarm (s : State) (l : LaneId) (f : Lane → Lane) : (s.modLane l f).alarm = s.alarm := rfl
@[simp] theorem State.modLane_port (s : State) (l : LaneId) (f : Lane → Lane) : (s.modLane l f).port = s.port := rfl
@[simp] theorem State.modLane_watch (s : State) (l : LaneId) (f : Lane → Lane) : (s.modLane l f).watch = s.watch := rfl
@[simp] theorem State.modLane_sup (s : State) (l : LaneId) (f : Lane → Lane) : (s.modLane l f).sup = s.sup := rfl
@[simp] theorem State.modLane_levels (s : State) (l : LaneId) (f : Lane → Lane) : (s.modLane l f).levels = s.levels := rfl
@[simp] theorem State.modLane_cassettes (s : State) (l : LaneId) (f : Lane → Lane) :
    (s.modLane l f).custody.cassettes = s.custody.cassettes := rfl
@[simp] theorem State.modLane_orders (s : State) (l : LaneId) (f : Lane → Lane) :
    (s.modLane l f).custody.orders = s.custody.orders := rfl
@[simp] theorem State.modLane_tags (s : State) (l : LaneId) (f : Lane → Lane) :
    (s.modLane l f).custody.tags = s.custody.tags := rfl
@[simp] theorem State.modLane_placement (s : State) (l : LaneId) (f : Lane → Lane) :
    (s.modLane l f).custody.placement = s.custody.placement := rfl
@[simp] theorem State.modLane_envelopes (s : State) (l : LaneId) (f : Lane → Lane) :
    (s.modLane l f).custody.envelopes = s.custody.envelopes := rfl
@[simp] theorem State.modLane_captureCounter (s : State) (l : LaneId) (f : Lane → Lane) :
    (s.modLane l f).custody.captureCounter = s.custody.captureCounter := rfl
@[simp] theorem State.modLane_zones (s : State) (l : LaneId) (f : Lane → Lane) :
    (s.modLane l f).custody.zones = s.custody.zones := rfl
@[simp] theorem State.modLane_dayArmed (s : State) (l : LaneId) (f : Lane → Lane) :
    (s.modLane l f).custody.dayArmed = s.custody.dayArmed := rfl
@[simp] theorem State.modLane_nightArmed (s : State) (l : LaneId) (f : Lane → Lane) :
    (s.modLane l f).custody.nightArmed = s.custody.nightArmed := rfl
@[simp] theorem State.modLane_tripList (s : State) (l : LaneId) (f : Lane → Lane) :
    (s.modLane l f).custody.tripList = s.custody.tripList := rfl
@[simp] theorem State.modLane_bins (s : State) (l : LaneId) (f : Lane → Lane) :
    (s.modLane l f).custody.bins = s.custody.bins := rfl
@[simp] theorem State.modLane_settings (s : State) (l : LaneId) (f : Lane → Lane) :
    (s.modLane l f).custody.settings = s.custody.settings := rfl
@[simp] theorem State.modLane_retention (s : State) (l : LaneId) (f : Lane → Lane) :
    (s.modLane l f).custody.retention = s.custody.retention := rfl
@[simp] theorem State.modLane_cassette (s : State) (l : LaneId) (f : Lane → Lane) (k : CassetteId) :
    (s.modLane l f).cassette k = s.cassette k := rfl
@[simp] theorem State.modLane_order (s : State) (l : LaneId) (f : Lane → Lane) (k : OrderSlot) :
    (s.modLane l f).order k = s.order k := rfl
@[simp] theorem State.modLane_zone (s : State) (l : LaneId) (f : Lane → Lane) (k : ZoneId) :
    (s.modLane l f).zone k = s.zone k := rfl
@[simp] theorem State.modLane_laneWork (s : State) (l : LaneId) (f : Lane → Lane) (k : LaneId) :
    (s.modLane l f).laneWork k = s.laneWork k := rfl
@[simp] theorem State.modLane_envelope (s : State) (l : LaneId) (f : Lane → Lane) (k : Nat) :
    (s.modLane l f).envelope k = s.envelope k := rfl
@[simp] theorem State.modLane_clock (s : State) (l : LaneId) (f : Lane → Lane) : (s.modLane l f).clock = s.clock := rfl

/-! ### modEnvelope -/

@[simp] theorem State.modEnvelope_pending (s : State) (n : Nat) (f : Envelope → Envelope) : (s.modEnvelope n f).pending = s.pending := rfl
@[simp] theorem State.modEnvelope_path (s : State) (n : Nat) (f : Envelope → Envelope) : (s.modEnvelope n f).path = s.path := rfl
@[simp] theorem State.modEnvelope_work (s : State) (n : Nat) (f : Envelope → Envelope) : (s.modEnvelope n f).work = s.work := rfl
@[simp] theorem State.modEnvelope_conveyor (s : State) (n : Nat) (f : Envelope → Envelope) : (s.modEnvelope n f).conveyor = s.conveyor := rfl
@[simp] theorem State.modEnvelope_alarm (s : State) (n : Nat) (f : Envelope → Envelope) : (s.modEnvelope n f).alarm = s.alarm := rfl
@[simp] theorem State.modEnvelope_port (s : State) (n : Nat) (f : Envelope → Envelope) : (s.modEnvelope n f).port = s.port := rfl
@[simp] theorem State.modEnvelope_watch (s : State) (n : Nat) (f : Envelope → Envelope) : (s.modEnvelope n f).watch = s.watch := rfl
@[simp] theorem State.modEnvelope_sup (s : State) (n : Nat) (f : Envelope → Envelope) : (s.modEnvelope n f).sup = s.sup := rfl
@[simp] theorem State.modEnvelope_levels (s : State) (n : Nat) (f : Envelope → Envelope) : (s.modEnvelope n f).levels = s.levels := rfl
@[simp] theorem State.modEnvelope_cassettes (s : State) (n : Nat) (f : Envelope → Envelope) :
    (s.modEnvelope n f).custody.cassettes = s.custody.cassettes := rfl
@[simp] theorem State.modEnvelope_orders (s : State) (n : Nat) (f : Envelope → Envelope) :
    (s.modEnvelope n f).custody.orders = s.custody.orders := rfl
@[simp] theorem State.modEnvelope_tags (s : State) (n : Nat) (f : Envelope → Envelope) :
    (s.modEnvelope n f).custody.tags = s.custody.tags := rfl
@[simp] theorem State.modEnvelope_placement (s : State) (n : Nat) (f : Envelope → Envelope) :
    (s.modEnvelope n f).custody.placement = s.custody.placement := rfl
@[simp] theorem State.modEnvelope_captureCounter (s : State) (n : Nat) (f : Envelope → Envelope) :
    (s.modEnvelope n f).custody.captureCounter = s.custody.captureCounter := rfl
@[simp] theorem State.modEnvelope_zones (s : State) (n : Nat) (f : Envelope → Envelope) :
    (s.modEnvelope n f).custody.zones = s.custody.zones := rfl
@[simp] theorem State.modEnvelope_dayArmed (s : State) (n : Nat) (f : Envelope → Envelope) :
    (s.modEnvelope n f).custody.dayArmed = s.custody.dayArmed := rfl
@[simp] theorem State.modEnvelope_nightArmed (s : State) (n : Nat) (f : Envelope → Envelope) :
    (s.modEnvelope n f).custody.nightArmed = s.custody.nightArmed := rfl
@[simp] theorem State.modEnvelope_tripList (s : State) (n : Nat) (f : Envelope → Envelope) :
    (s.modEnvelope n f).custody.tripList = s.custody.tripList := rfl
@[simp] theorem State.modEnvelope_lanes (s : State) (n : Nat) (f : Envelope → Envelope) :
    (s.modEnvelope n f).custody.lanes = s.custody.lanes := rfl
@[simp] theorem State.modEnvelope_bins (s : State) (n : Nat) (f : Envelope → Envelope) :
    (s.modEnvelope n f).custody.bins = s.custody.bins := rfl
@[simp] theorem State.modEnvelope_settings (s : State) (n : Nat) (f : Envelope → Envelope) :
    (s.modEnvelope n f).custody.settings = s.custody.settings := rfl
@[simp] theorem State.modEnvelope_retention (s : State) (n : Nat) (f : Envelope → Envelope) :
    (s.modEnvelope n f).custody.retention = s.custody.retention := rfl
@[simp] theorem State.modEnvelope_cassette (s : State) (n : Nat) (f : Envelope → Envelope) (k : CassetteId) :
    (s.modEnvelope n f).cassette k = s.cassette k := rfl
@[simp] theorem State.modEnvelope_order (s : State) (n : Nat) (f : Envelope → Envelope) (k : OrderSlot) :
    (s.modEnvelope n f).order k = s.order k := rfl
@[simp] theorem State.modEnvelope_zone (s : State) (n : Nat) (f : Envelope → Envelope) (k : ZoneId) :
    (s.modEnvelope n f).zone k = s.zone k := rfl
@[simp] theorem State.modEnvelope_lane (s : State) (n : Nat) (f : Envelope → Envelope) (k : LaneId) :
    (s.modEnvelope n f).lane k = s.lane k := rfl
@[simp] theorem State.modEnvelope_laneWork (s : State) (n : Nat) (f : Envelope → Envelope) (k : LaneId) :
    (s.modEnvelope n f).laneWork k = s.laneWork k := rfl
@[simp] theorem State.modEnvelope_clock (s : State) (n : Nat) (f : Envelope → Envelope) : (s.modEnvelope n f).clock = s.clock := rfl

/-! ### modBins -/

@[simp] theorem State.modBins_pending (s : State) (f : Bins → Bins) : (s.modBins f).pending = s.pending := rfl
@[simp] theorem State.modBins_path (s : State) (f : Bins → Bins) : (s.modBins f).path = s.path := rfl
@[simp] theorem State.modBins_work (s : State) (f : Bins → Bins) : (s.modBins f).work = s.work := rfl
@[simp] theorem State.modBins_conveyor (s : State) (f : Bins → Bins) : (s.modBins f).conveyor = s.conveyor := rfl
@[simp] theorem State.modBins_alarm (s : State) (f : Bins → Bins) : (s.modBins f).alarm = s.alarm := rfl
@[simp] theorem State.modBins_port (s : State) (f : Bins → Bins) : (s.modBins f).port = s.port := rfl
@[simp] theorem State.modBins_watch (s : State) (f : Bins → Bins) : (s.modBins f).watch = s.watch := rfl
@[simp] theorem State.modBins_sup (s : State) (f : Bins → Bins) : (s.modBins f).sup = s.sup := rfl
@[simp] theorem State.modBins_levels (s : State) (f : Bins → Bins) : (s.modBins f).levels = s.levels := rfl
@[simp] theorem State.modBins_cassettes (s : State) (f : Bins → Bins) :
    (s.modBins f).custody.cassettes = s.custody.cassettes := rfl
@[simp] theorem State.modBins_orders (s : State) (f : Bins → Bins) :
    (s.modBins f).custody.orders = s.custody.orders := rfl
@[simp] theorem State.modBins_tags (s : State) (f : Bins → Bins) :
    (s.modBins f).custody.tags = s.custody.tags := rfl
@[simp] theorem State.modBins_placement (s : State) (f : Bins → Bins) :
    (s.modBins f).custody.placement = s.custody.placement := rfl
@[simp] theorem State.modBins_envelopes (s : State) (f : Bins → Bins) :
    (s.modBins f).custody.envelopes = s.custody.envelopes := rfl
@[simp] theorem State.modBins_captureCounter (s : State) (f : Bins → Bins) :
    (s.modBins f).custody.captureCounter = s.custody.captureCounter := rfl
@[simp] theorem State.modBins_zones (s : State) (f : Bins → Bins) :
    (s.modBins f).custody.zones = s.custody.zones := rfl
@[simp] theorem State.modBins_dayArmed (s : State) (f : Bins → Bins) :
    (s.modBins f).custody.dayArmed = s.custody.dayArmed := rfl
@[simp] theorem State.modBins_nightArmed (s : State) (f : Bins → Bins) :
    (s.modBins f).custody.nightArmed = s.custody.nightArmed := rfl
@[simp] theorem State.modBins_tripList (s : State) (f : Bins → Bins) :
    (s.modBins f).custody.tripList = s.custody.tripList := rfl
@[simp] theorem State.modBins_lanes (s : State) (f : Bins → Bins) :
    (s.modBins f).custody.lanes = s.custody.lanes := rfl
@[simp] theorem State.modBins_settings (s : State) (f : Bins → Bins) :
    (s.modBins f).custody.settings = s.custody.settings := rfl
@[simp] theorem State.modBins_retention (s : State) (f : Bins → Bins) :
    (s.modBins f).custody.retention = s.custody.retention := rfl
@[simp] theorem State.modBins_bins (s : State) (f : Bins → Bins) : (s.modBins f).custody.bins = f s.custody.bins := rfl
@[simp] theorem State.modBins_cassette (s : State) (f : Bins → Bins) (k : CassetteId) :
    (s.modBins f).cassette k = s.cassette k := rfl
@[simp] theorem State.modBins_order (s : State) (f : Bins → Bins) (k : OrderSlot) :
    (s.modBins f).order k = s.order k := rfl
@[simp] theorem State.modBins_zone (s : State) (f : Bins → Bins) (k : ZoneId) :
    (s.modBins f).zone k = s.zone k := rfl
@[simp] theorem State.modBins_lane (s : State) (f : Bins → Bins) (k : LaneId) :
    (s.modBins f).lane k = s.lane k := rfl
@[simp] theorem State.modBins_laneWork (s : State) (f : Bins → Bins) (k : LaneId) :
    (s.modBins f).laneWork k = s.laneWork k := rfl
@[simp] theorem State.modBins_envelope (s : State) (f : Bins → Bins) (k : Nat) :
    (s.modBins f).envelope k = s.envelope k := rfl
@[simp] theorem State.modBins_clock (s : State) (f : Bins → Bins) : (s.modBins f).clock = s.clock := rfl

/-! ### modWork -/

@[simp] theorem State.modWork_pending (s : State) (l : LaneId) (f : LaneWork → LaneWork) : (s.modWork l f).pending = s.pending := rfl
@[simp] theorem State.modWork_path (s : State) (l : LaneId) (f : LaneWork → LaneWork) : (s.modWork l f).path = s.path := rfl
@[simp] theorem State.modWork_conveyor (s : State) (l : LaneId) (f : LaneWork → LaneWork) : (s.modWork l f).conveyor = s.conveyor := rfl
@[simp] theorem State.modWork_alarm (s : State) (l : LaneId) (f : LaneWork → LaneWork) : (s.modWork l f).alarm = s.alarm := rfl
@[simp] theorem State.modWork_port (s : State) (l : LaneId) (f : LaneWork → LaneWork) : (s.modWork l f).port = s.port := rfl
@[simp] theorem State.modWork_watch (s : State) (l : LaneId) (f : LaneWork → LaneWork) : (s.modWork l f).watch = s.watch := rfl
@[simp] theorem State.modWork_sup (s : State) (l : LaneId) (f : LaneWork → LaneWork) : (s.modWork l f).sup = s.sup := rfl
@[simp] theorem State.modWork_levels (s : State) (l : LaneId) (f : LaneWork → LaneWork) : (s.modWork l f).levels = s.levels := rfl
@[simp] theorem State.modWork_custody (s : State) (l : LaneId) (f : LaneWork → LaneWork) : (s.modWork l f).custody = s.custody := rfl
@[simp] theorem State.modWork_cassette (s : State) (l : LaneId) (f : LaneWork → LaneWork) (k : CassetteId) :
    (s.modWork l f).cassette k = s.cassette k := rfl
@[simp] theorem State.modWork_order (s : State) (l : LaneId) (f : LaneWork → LaneWork) (k : OrderSlot) :
    (s.modWork l f).order k = s.order k := rfl
@[simp] theorem State.modWork_zone (s : State) (l : LaneId) (f : LaneWork → LaneWork) (k : ZoneId) :
    (s.modWork l f).zone k = s.zone k := rfl
@[simp] theorem State.modWork_lane (s : State) (l : LaneId) (f : LaneWork → LaneWork) (k : LaneId) :
    (s.modWork l f).lane k = s.lane k := rfl
@[simp] theorem State.modWork_envelope (s : State) (l : LaneId) (f : LaneWork → LaneWork) (k : Nat) :
    (s.modWork l f).envelope k = s.envelope k := rfl
@[simp] theorem State.modWork_clock (s : State) (l : LaneId) (f : LaneWork → LaneWork) : (s.modWork l f).clock = s.clock := rfl

/-! ### modPath -/

@[simp] theorem State.modPath_pending (s : State) (f : NotePath → NotePath) : (s.modPath f).pending = s.pending := rfl
@[simp] theorem State.modPath_path (s : State) (f : NotePath → NotePath) : (s.modPath f).path = f s.path := rfl
@[simp] theorem State.modPath_work (s : State) (f : NotePath → NotePath) : (s.modPath f).work = s.work := rfl
@[simp] theorem State.modPath_conveyor (s : State) (f : NotePath → NotePath) : (s.modPath f).conveyor = s.conveyor := rfl
@[simp] theorem State.modPath_alarm (s : State) (f : NotePath → NotePath) : (s.modPath f).alarm = s.alarm := rfl
@[simp] theorem State.modPath_port (s : State) (f : NotePath → NotePath) : (s.modPath f).port = s.port := rfl
@[simp] theorem State.modPath_watch (s : State) (f : NotePath → NotePath) : (s.modPath f).watch = s.watch := rfl
@[simp] theorem State.modPath_sup (s : State) (f : NotePath → NotePath) : (s.modPath f).sup = s.sup := rfl
@[simp] theorem State.modPath_levels (s : State) (f : NotePath → NotePath) : (s.modPath f).levels = s.levels := rfl
@[simp] theorem State.modPath_custody (s : State) (f : NotePath → NotePath) : (s.modPath f).custody = s.custody := rfl
@[simp] theorem State.modPath_cassette (s : State) (f : NotePath → NotePath) (k : CassetteId) :
    (s.modPath f).cassette k = s.cassette k := rfl
@[simp] theorem State.modPath_order (s : State) (f : NotePath → NotePath) (k : OrderSlot) :
    (s.modPath f).order k = s.order k := rfl
@[simp] theorem State.modPath_zone (s : State) (f : NotePath → NotePath) (k : ZoneId) :
    (s.modPath f).zone k = s.zone k := rfl
@[simp] theorem State.modPath_lane (s : State) (f : NotePath → NotePath) (k : LaneId) :
    (s.modPath f).lane k = s.lane k := rfl
@[simp] theorem State.modPath_laneWork (s : State) (f : NotePath → NotePath) (k : LaneId) :
    (s.modPath f).laneWork k = s.laneWork k := rfl
@[simp] theorem State.modPath_envelope (s : State) (f : NotePath → NotePath) (k : Nat) :
    (s.modPath f).envelope k = s.envelope k := rfl
@[simp] theorem State.modPath_clock (s : State) (f : NotePath → NotePath) : (s.modPath f).clock = s.clock := rfl

/-! ### modConveyor -/

@[simp] theorem State.modConveyor_pending (s : State) (f : Conveyor → Conveyor) : (s.modConveyor f).pending = s.pending := rfl
@[simp] theorem State.modConveyor_path (s : State) (f : Conveyor → Conveyor) : (s.modConveyor f).path = s.path := rfl
@[simp] theorem State.modConveyor_work (s : State) (f : Conveyor → Conveyor) : (s.modConveyor f).work = s.work := rfl
@[simp] theorem State.modConveyor_conveyor (s : State) (f : Conveyor → Conveyor) : (s.modConveyor f).conveyor = f s.conveyor := rfl
@[simp] theorem State.modConveyor_alarm (s : State) (f : Conveyor → Conveyor) : (s.modConveyor f).alarm = s.alarm := rfl
@[simp] theorem State.modConveyor_port (s : State) (f : Conveyor → Conveyor) : (s.modConveyor f).port = s.port := rfl
@[simp] theorem State.modConveyor_watch (s : State) (f : Conveyor → Conveyor) : (s.modConveyor f).watch = s.watch := rfl
@[simp] theorem State.modConveyor_sup (s : State) (f : Conveyor → Conveyor) : (s.modConveyor f).sup = s.sup := rfl
@[simp] theorem State.modConveyor_levels (s : State) (f : Conveyor → Conveyor) : (s.modConveyor f).levels = s.levels := rfl
@[simp] theorem State.modConveyor_custody (s : State) (f : Conveyor → Conveyor) : (s.modConveyor f).custody = s.custody := rfl
@[simp] theorem State.modConveyor_cassette (s : State) (f : Conveyor → Conveyor) (k : CassetteId) :
    (s.modConveyor f).cassette k = s.cassette k := rfl
@[simp] theorem State.modConveyor_order (s : State) (f : Conveyor → Conveyor) (k : OrderSlot) :
    (s.modConveyor f).order k = s.order k := rfl
@[simp] theorem State.modConveyor_zone (s : State) (f : Conveyor → Conveyor) (k : ZoneId) :
    (s.modConveyor f).zone k = s.zone k := rfl
@[simp] theorem State.modConveyor_lane (s : State) (f : Conveyor → Conveyor) (k : LaneId) :
    (s.modConveyor f).lane k = s.lane k := rfl
@[simp] theorem State.modConveyor_laneWork (s : State) (f : Conveyor → Conveyor) (k : LaneId) :
    (s.modConveyor f).laneWork k = s.laneWork k := rfl
@[simp] theorem State.modConveyor_envelope (s : State) (f : Conveyor → Conveyor) (k : Nat) :
    (s.modConveyor f).envelope k = s.envelope k := rfl
@[simp] theorem State.modConveyor_clock (s : State) (f : Conveyor → Conveyor) : (s.modConveyor f).clock = s.clock := rfl

/-! ### modAlarm -/

@[simp] theorem State.modAlarm_pending (s : State) (f : AlarmUnit → AlarmUnit) : (s.modAlarm f).pending = s.pending := rfl
@[simp] theorem State.modAlarm_path (s : State) (f : AlarmUnit → AlarmUnit) : (s.modAlarm f).path = s.path := rfl
@[simp] theorem State.modAlarm_work (s : State) (f : AlarmUnit → AlarmUnit) : (s.modAlarm f).work = s.work := rfl
@[simp] theorem State.modAlarm_conveyor (s : State) (f : AlarmUnit → AlarmUnit) : (s.modAlarm f).conveyor = s.conveyor := rfl
@[simp] theorem State.modAlarm_alarm (s : State) (f : AlarmUnit → AlarmUnit) : (s.modAlarm f).alarm = f s.alarm := rfl
@[simp] theorem State.modAlarm_port (s : State) (f : AlarmUnit → AlarmUnit) : (s.modAlarm f).port = s.port := rfl
@[simp] theorem State.modAlarm_watch (s : State) (f : AlarmUnit → AlarmUnit) : (s.modAlarm f).watch = s.watch := rfl
@[simp] theorem State.modAlarm_sup (s : State) (f : AlarmUnit → AlarmUnit) : (s.modAlarm f).sup = s.sup := rfl
@[simp] theorem State.modAlarm_levels (s : State) (f : AlarmUnit → AlarmUnit) : (s.modAlarm f).levels = s.levels := rfl
@[simp] theorem State.modAlarm_custody (s : State) (f : AlarmUnit → AlarmUnit) : (s.modAlarm f).custody = s.custody := rfl
@[simp] theorem State.modAlarm_cassette (s : State) (f : AlarmUnit → AlarmUnit) (k : CassetteId) :
    (s.modAlarm f).cassette k = s.cassette k := rfl
@[simp] theorem State.modAlarm_order (s : State) (f : AlarmUnit → AlarmUnit) (k : OrderSlot) :
    (s.modAlarm f).order k = s.order k := rfl
@[simp] theorem State.modAlarm_zone (s : State) (f : AlarmUnit → AlarmUnit) (k : ZoneId) :
    (s.modAlarm f).zone k = s.zone k := rfl
@[simp] theorem State.modAlarm_lane (s : State) (f : AlarmUnit → AlarmUnit) (k : LaneId) :
    (s.modAlarm f).lane k = s.lane k := rfl
@[simp] theorem State.modAlarm_laneWork (s : State) (f : AlarmUnit → AlarmUnit) (k : LaneId) :
    (s.modAlarm f).laneWork k = s.laneWork k := rfl
@[simp] theorem State.modAlarm_envelope (s : State) (f : AlarmUnit → AlarmUnit) (k : Nat) :
    (s.modAlarm f).envelope k = s.envelope k := rfl
@[simp] theorem State.modAlarm_clock (s : State) (f : AlarmUnit → AlarmUnit) : (s.modAlarm f).clock = s.clock := rfl

/-! ### modPort -/

@[simp] theorem State.modPort_pending (s : State) (f : Port → Port) : (s.modPort f).pending = s.pending := rfl
@[simp] theorem State.modPort_path (s : State) (f : Port → Port) : (s.modPort f).path = s.path := rfl
@[simp] theorem State.modPort_work (s : State) (f : Port → Port) : (s.modPort f).work = s.work := rfl
@[simp] theorem State.modPort_conveyor (s : State) (f : Port → Port) : (s.modPort f).conveyor = s.conveyor := rfl
@[simp] theorem State.modPort_alarm (s : State) (f : Port → Port) : (s.modPort f).alarm = s.alarm := rfl
@[simp] theorem State.modPort_port (s : State) (f : Port → Port) : (s.modPort f).port = f s.port := rfl
@[simp] theorem State.modPort_watch (s : State) (f : Port → Port) : (s.modPort f).watch = s.watch := rfl
@[simp] theorem State.modPort_sup (s : State) (f : Port → Port) : (s.modPort f).sup = s.sup := rfl
@[simp] theorem State.modPort_levels (s : State) (f : Port → Port) : (s.modPort f).levels = s.levels := rfl
@[simp] theorem State.modPort_custody (s : State) (f : Port → Port) : (s.modPort f).custody = s.custody := rfl
@[simp] theorem State.modPort_cassette (s : State) (f : Port → Port) (k : CassetteId) :
    (s.modPort f).cassette k = s.cassette k := rfl
@[simp] theorem State.modPort_order (s : State) (f : Port → Port) (k : OrderSlot) :
    (s.modPort f).order k = s.order k := rfl
@[simp] theorem State.modPort_zone (s : State) (f : Port → Port) (k : ZoneId) :
    (s.modPort f).zone k = s.zone k := rfl
@[simp] theorem State.modPort_lane (s : State) (f : Port → Port) (k : LaneId) :
    (s.modPort f).lane k = s.lane k := rfl
@[simp] theorem State.modPort_laneWork (s : State) (f : Port → Port) (k : LaneId) :
    (s.modPort f).laneWork k = s.laneWork k := rfl
@[simp] theorem State.modPort_envelope (s : State) (f : Port → Port) (k : Nat) :
    (s.modPort f).envelope k = s.envelope k := rfl
@[simp] theorem State.modPort_clock (s : State) (f : Port → Port) : (s.modPort f).clock = s.clock := rfl

/-! ### modWatch -/

@[simp] theorem State.modWatch_pending (s : State) (f : WatchUnit → WatchUnit) : (s.modWatch f).pending = s.pending := rfl
@[simp] theorem State.modWatch_path (s : State) (f : WatchUnit → WatchUnit) : (s.modWatch f).path = s.path := rfl
@[simp] theorem State.modWatch_work (s : State) (f : WatchUnit → WatchUnit) : (s.modWatch f).work = s.work := rfl
@[simp] theorem State.modWatch_conveyor (s : State) (f : WatchUnit → WatchUnit) : (s.modWatch f).conveyor = s.conveyor := rfl
@[simp] theorem State.modWatch_alarm (s : State) (f : WatchUnit → WatchUnit) : (s.modWatch f).alarm = s.alarm := rfl
@[simp] theorem State.modWatch_port (s : State) (f : WatchUnit → WatchUnit) : (s.modWatch f).port = s.port := rfl
@[simp] theorem State.modWatch_watch (s : State) (f : WatchUnit → WatchUnit) : (s.modWatch f).watch = f s.watch := rfl
@[simp] theorem State.modWatch_sup (s : State) (f : WatchUnit → WatchUnit) : (s.modWatch f).sup = s.sup := rfl
@[simp] theorem State.modWatch_levels (s : State) (f : WatchUnit → WatchUnit) : (s.modWatch f).levels = s.levels := rfl
@[simp] theorem State.modWatch_custody (s : State) (f : WatchUnit → WatchUnit) : (s.modWatch f).custody = s.custody := rfl
@[simp] theorem State.modWatch_cassette (s : State) (f : WatchUnit → WatchUnit) (k : CassetteId) :
    (s.modWatch f).cassette k = s.cassette k := rfl
@[simp] theorem State.modWatch_order (s : State) (f : WatchUnit → WatchUnit) (k : OrderSlot) :
    (s.modWatch f).order k = s.order k := rfl
@[simp] theorem State.modWatch_zone (s : State) (f : WatchUnit → WatchUnit) (k : ZoneId) :
    (s.modWatch f).zone k = s.zone k := rfl
@[simp] theorem State.modWatch_lane (s : State) (f : WatchUnit → WatchUnit) (k : LaneId) :
    (s.modWatch f).lane k = s.lane k := rfl
@[simp] theorem State.modWatch_laneWork (s : State) (f : WatchUnit → WatchUnit) (k : LaneId) :
    (s.modWatch f).laneWork k = s.laneWork k := rfl
@[simp] theorem State.modWatch_envelope (s : State) (f : WatchUnit → WatchUnit) (k : Nat) :
    (s.modWatch f).envelope k = s.envelope k := rfl
@[simp] theorem State.modWatch_clock (s : State) (f : WatchUnit → WatchUnit) : (s.modWatch f).clock = s.clock := rfl

/-! ### modSup -/

@[simp] theorem State.modSup_pending (s : State) (f : Supervisor → Supervisor) : (s.modSup f).pending = s.pending := rfl
@[simp] theorem State.modSup_path (s : State) (f : Supervisor → Supervisor) : (s.modSup f).path = s.path := rfl
@[simp] theorem State.modSup_work (s : State) (f : Supervisor → Supervisor) : (s.modSup f).work = s.work := rfl
@[simp] theorem State.modSup_conveyor (s : State) (f : Supervisor → Supervisor) : (s.modSup f).conveyor = s.conveyor := rfl
@[simp] theorem State.modSup_alarm (s : State) (f : Supervisor → Supervisor) : (s.modSup f).alarm = s.alarm := rfl
@[simp] theorem State.modSup_port (s : State) (f : Supervisor → Supervisor) : (s.modSup f).port = s.port := rfl
@[simp] theorem State.modSup_watch (s : State) (f : Supervisor → Supervisor) : (s.modSup f).watch = s.watch := rfl
@[simp] theorem State.modSup_sup (s : State) (f : Supervisor → Supervisor) : (s.modSup f).sup = f s.sup := rfl
@[simp] theorem State.modSup_levels (s : State) (f : Supervisor → Supervisor) : (s.modSup f).levels = s.levels := rfl
@[simp] theorem State.modSup_custody (s : State) (f : Supervisor → Supervisor) : (s.modSup f).custody = s.custody := rfl
@[simp] theorem State.modSup_cassette (s : State) (f : Supervisor → Supervisor) (k : CassetteId) :
    (s.modSup f).cassette k = s.cassette k := rfl
@[simp] theorem State.modSup_order (s : State) (f : Supervisor → Supervisor) (k : OrderSlot) :
    (s.modSup f).order k = s.order k := rfl
@[simp] theorem State.modSup_zone (s : State) (f : Supervisor → Supervisor) (k : ZoneId) :
    (s.modSup f).zone k = s.zone k := rfl
@[simp] theorem State.modSup_lane (s : State) (f : Supervisor → Supervisor) (k : LaneId) :
    (s.modSup f).lane k = s.lane k := rfl
@[simp] theorem State.modSup_laneWork (s : State) (f : Supervisor → Supervisor) (k : LaneId) :
    (s.modSup f).laneWork k = s.laneWork k := rfl
@[simp] theorem State.modSup_envelope (s : State) (f : Supervisor → Supervisor) (k : Nat) :
    (s.modSup f).envelope k = s.envelope k := rfl

/-! ### modLevels -/

@[simp] theorem State.modLevels_pending (s : State) (f : FieldLevels → FieldLevels) : (s.modLevels f).pending = s.pending := rfl
@[simp] theorem State.modLevels_path (s : State) (f : FieldLevels → FieldLevels) : (s.modLevels f).path = s.path := rfl
@[simp] theorem State.modLevels_work (s : State) (f : FieldLevels → FieldLevels) : (s.modLevels f).work = s.work := rfl
@[simp] theorem State.modLevels_conveyor (s : State) (f : FieldLevels → FieldLevels) : (s.modLevels f).conveyor = s.conveyor := rfl
@[simp] theorem State.modLevels_alarm (s : State) (f : FieldLevels → FieldLevels) : (s.modLevels f).alarm = s.alarm := rfl
@[simp] theorem State.modLevels_port (s : State) (f : FieldLevels → FieldLevels) : (s.modLevels f).port = s.port := rfl
@[simp] theorem State.modLevels_watch (s : State) (f : FieldLevels → FieldLevels) : (s.modLevels f).watch = s.watch := rfl
@[simp] theorem State.modLevels_sup (s : State) (f : FieldLevels → FieldLevels) : (s.modLevels f).sup = s.sup := rfl
@[simp] theorem State.modLevels_levels (s : State) (f : FieldLevels → FieldLevels) : (s.modLevels f).levels = f s.levels := rfl
@[simp] theorem State.modLevels_custody (s : State) (f : FieldLevels → FieldLevels) : (s.modLevels f).custody = s.custody := rfl
@[simp] theorem State.modLevels_cassette (s : State) (f : FieldLevels → FieldLevels) (k : CassetteId) :
    (s.modLevels f).cassette k = s.cassette k := rfl
@[simp] theorem State.modLevels_order (s : State) (f : FieldLevels → FieldLevels) (k : OrderSlot) :
    (s.modLevels f).order k = s.order k := rfl
@[simp] theorem State.modLevels_zone (s : State) (f : FieldLevels → FieldLevels) (k : ZoneId) :
    (s.modLevels f).zone k = s.zone k := rfl
@[simp] theorem State.modLevels_lane (s : State) (f : FieldLevels → FieldLevels) (k : LaneId) :
    (s.modLevels f).lane k = s.lane k := rfl
@[simp] theorem State.modLevels_laneWork (s : State) (f : FieldLevels → FieldLevels) (k : LaneId) :
    (s.modLevels f).laneWork k = s.laneWork k := rfl
@[simp] theorem State.modLevels_envelope (s : State) (f : FieldLevels → FieldLevels) (k : Nat) :
    (s.modLevels f).envelope k = s.envelope k := rfl
@[simp] theorem State.modLevels_clock (s : State) (f : FieldLevels → FieldLevels) : (s.modLevels f).clock = s.clock := rfl

/-! ### What a table update writes -/

/-- Reading a cassette record after an update. -/
theorem State.modCassette_cassette (s : State) (c : CassetteId) (f : Cassette → Cassette) (k : CassetteId) :
    (s.modCassette c f).cassette k = if c = k then f (s.cassette k) else s.cassette k := by
  simp only [State.cassette, State.modCassette, tableSet_get]
  split
  · next h => rw [h]
  · rfl

/-- Reading an order slot after it was set. -/
theorem State.setOrder_order (s : State) (i : OrderSlot) (o : Option Order) (k : OrderSlot) :
    (s.setOrder i o).order k = if i = k then o else s.order k := by
  simp only [State.order, State.setOrder, tableSet_get]

/-- Reading an order after an update. -/
theorem State.modOrder_order (s : State) (i : OrderSlot) (f : Order → Order) (k : OrderSlot) :
    (s.modOrder i f).order k = if i = k then (s.order k).map f else s.order k := by
  simp only [State.modOrder, State.setOrder_order]
  split
  · next h => rw [h]
  · rfl

/-- Reading a zone record after an update. -/
theorem State.modZone_zone (s : State) (z : ZoneId) (f : Zone → Zone) (k : ZoneId) :
    (s.modZone z f).zone k = if z = k then f (s.zone k) else s.zone k := by
  simp only [State.zone, State.modZone, tableSet_get]
  split
  · next h => rw [h]
  · rfl

/-- Reading a lane record after an update. -/
theorem State.modLane_lane (s : State) (l : LaneId) (f : Lane → Lane) (k : LaneId) :
    (s.modLane l f).lane k = if l = k then f (s.lane k) else s.lane k := by
  simp only [State.lane, State.modLane, tableSet_get]
  split
  · next h => rw [h]
  · rfl

/-- Reading the working state of a lane after an update. -/
theorem State.modWork_laneWork (s : State) (l : LaneId) (f : LaneWork → LaneWork) (k : LaneId) :
    (s.modWork l f).laneWork k = if l = k then f (s.laneWork k) else s.laneWork k := by
  simp only [State.laneWork, State.modWork, tableSet_get]
  split
  · next h => rw [h]
  · rfl

@[simp] theorem State.modCassette_cassette_self (s : State) (c : CassetteId) (f : Cassette → Cassette) :
    (s.modCassette c f).cassette c = f (s.cassette c) := by simp [State.modCassette_cassette]
@[simp] theorem State.setOrder_order_self (s : State) (i : OrderSlot) (o : Option Order) :
    (s.setOrder i o).order i = o := by simp [State.setOrder_order]
@[simp] theorem State.modOrder_order_self (s : State) (i : OrderSlot) (f : Order → Order) :
    (s.modOrder i f).order i = (s.order i).map f := by simp [State.modOrder_order]
@[simp] theorem State.modZone_zone_self (s : State) (z : ZoneId) (f : Zone → Zone) :
    (s.modZone z f).zone z = f (s.zone z) := by simp [State.modZone_zone]
@[simp] theorem State.modLane_lane_self (s : State) (l : LaneId) (f : Lane → Lane) :
    (s.modLane l f).lane l = f (s.lane l) := by simp [State.modLane_lane]
@[simp] theorem State.modWork_laneWork_self (s : State) (l : LaneId) (f : LaneWork → LaneWork) :
    (s.modWork l f).laneWork l = f (s.laneWork l) := by simp [State.modWork_laneWork]

/-- The envelope table after an update of one record. -/
theorem State.modEnvelope_envelopes (s : State) (n : Nat) (f : Envelope → Envelope) :
    (s.modEnvelope n f).custody.envelopes = s.custody.envelopes.map fun e => if e.capture = n then f e else e := rfl

end Sys2Proof.Machine
end

