-- ==== Sys2Proof/Laws/Frames.lean ====
section
/-! SUPPORT. Frames before the end of an event: `Touches f s t` says that an event's own effect, which sets no mark, has
changed nothing outside the footprint f. Each shared operation has one lemma that gives it for every footprint that
holds what the operation may change, so that the lemmas compose by `Touches.trans`. -/

namespace Sys2Proof.Machine

/-- The CLOSING session of a lane is completed, and nothing else of the lane has changed (R104). -/
def Ended (r q : Lane) : Prop :=
  (∃ c, r.session = .closing c) ∧ q = { r with session := .closed }

/-- The effect of an event, its marks left aside, within a footprint. -/
structure Touches (f : Footprint) (s t : State) : Prop where
  cassettes : ∀ c, c ∈ f.cassettes ∨ t.cassette c = s.cassette c
  orders : ∀ i, i ∈ f.orders ∨ t.order i = s.order i
  tags : f.tags = true ∨ t.custody.tags = s.custody.tags
  placement : f.placement = true ∨ t.custody.placement = s.custody.placement
  envelopes : (t.custody.envelopes.filter fun e => !f.envelopes.contains e.capture) =
    (s.custody.envelopes.filter fun e => !f.envelopes.contains e.capture)
  counter : f.counter = true ∨ t.custody.captureCounter = s.custody.captureCounter
  zones : ∀ z, z ∈ f.zones ∨ t.zone z = s.zone z
  arms : f.arms = true ∨ (t.custody.dayArmed = s.custody.dayArmed ∧ t.custody.nightArmed = s.custody.nightArmed)
  trips : f.trips = true ∨ t.custody.tripList = s.custody.tripList
  lanes : ∀ l, l ∈ f.lanes ∨ t.lane l = s.lane l ∨ (f.closes = true ∧ Ended (s.lane l) (t.lane l))
  bins : f.bins = true ∨ t.custody.bins = s.custody.bins
  settings : f.settings = true ∨ t.custody.settings = s.custody.settings
  retention : t.custody.retention = s.custody.retention
  path : f.path = true ∨ t.path = s.path
  work : ∀ l, l ∈ f.work ∨ t.laneWork l = s.laneWork l
  conveyor : f.conveyor = true ∨ t.conveyor = s.conveyor
  alarm : f.alarm = true ∨ t.alarm = s.alarm
  sup : f.sup = true ∨ t.sup = s.sup
  levels : f.levels = true ∨ t.levels = s.levels
  pending : t.pending = s.pending
  frame : t.port.frame = s.port.frame
  processing : t.port.processing = s.port.processing
  buffer : t.port.buffer = s.port.buffer
  linkStatus : t.port.linkStatus = s.port.linkStatus
  settle : t.port.settle = s.port.settle
  notices : s.port.notices ||| t.port.notices = t.port.notices
  held : s.port.heldNotices ||| t.port.heldNotices = t.port.heldNotices
  watch : t.watch = s.watch

namespace Touches

variable {f : Footprint} {s t u : State}

theorem refl (f : Footprint) (s : State) : Touches f s s := by
  constructor <;> simp

theorem of_eq (h : t = s) : Touches f s t := h ▸ refl f s

/-- What is left alone twice is left alone. -/
theorem or_trans {α : Type} {p : Prop} {a b c : α} (h : p ∨ b = a) (k : p ∨ c = b) : p ∨ c = a := by
  rcases h with h | h
  · exact .inl h
  · rcases k with k | k
    · exact .inl k
    · exact .inr (k.trans h)

/-- A set of notices that stands in a later one, which stands in a later one still. -/
theorem stands_trans {a b c : BitVec 10} (h : a ||| b = b) (k : b ||| c = c) : a ||| c = c := by
  rw [← k, ← BitVec.or_assoc, h]

theorem trans (h : Touches f s t) (k : Touches f t u) : Touches f s u where
  cassettes c := or_trans (h.cassettes c) (k.cassettes c)
  orders i := or_trans (h.orders i) (k.orders i)
  tags := or_trans h.tags k.tags
  placement := or_trans h.placement k.placement
  envelopes := k.envelopes.trans h.envelopes
  counter := or_trans h.counter k.counter
  zones z := or_trans (h.zones z) (k.zones z)
  arms := by
    rcases h.arms with a | a
    · exact .inl a
    · rcases k.arms with b | b
      · exact .inl b
      · exact .inr ⟨b.1.trans a.1, b.2.trans a.2⟩
  trips := or_trans h.trips k.trips
  lanes l := by
    rcases h.lanes l with a | a | ⟨a, ⟨c, ac⟩, a'⟩
    · exact .inl a
    · rcases k.lanes l with b | b | b
      · exact .inl b
      · exact .inr (.inl (b.trans a))
      · exact .inr (.inr ⟨b.1, a ▸ b.2⟩)
    · rcases k.lanes l with b | b | ⟨_, ⟨d, bd⟩, _⟩
      · exact .inl b
      · exact .inr (.inr ⟨a, ⟨c, ac⟩, b.trans a'⟩)
      · rw [a'] at bd
        cases bd
  bins := or_trans h.bins k.bins
  settings := or_trans h.settings k.settings
  retention := k.retention.trans h.retention
  path := or_trans h.path k.path
  work l := or_trans (h.work l) (k.work l)
  conveyor := or_trans h.conveyor k.conveyor
  alarm := or_trans h.alarm k.alarm
  sup := or_trans h.sup k.sup
  levels := or_trans h.levels k.levels
  pending := k.pending.trans h.pending
  frame := k.frame.trans h.frame
  processing := k.processing.trans h.processing
  buffer := k.buffer.trans h.buffer
  linkStatus := k.linkStatus.trans h.linkStatus
  settle := k.settle.trans h.settle
  notices := stands_trans h.notices k.notices
  held := stands_trans h.held k.held
  watch := k.watch.trans h.watch

/-- A passage through the positions touches what its turns may touch. -/
theorem forEach {n : Nat} {g : Fin n → State → State} (h : ∀ i s, Touches f s (g i s)) (s : State) :
    Touches f s (Machine.forEach g s) :=
  forEach_keeps (fun t => Touches f s t) g (fun i t k => k.trans (h i t)) s (refl f s)

/-- A passage along a list touches what its turns may touch. -/
theorem foldl {α : Type} {g : State → α → State} (h : ∀ a s, Touches f s (g s a)) (l : List α) (s : State) :
    Touches f s (l.foldl g s) := by
  induction l generalizing s with
  | nil => exact refl f s
  | cons a l ih => exact (h a s).trans (ih _)

/-! ### The updates -/

theorem modCassette {c : CassetteId} (h : c ∈ f.cassettes) (g : Cassette → Cassette) :
    Touches f s (s.modCassette c g) := by
  constructor <;> simp [State.modCassette_cassette]
  intro k
  by_cases e : c = k
  · exact .inl (e ▸ h)
  · simp [e]

theorem setOrder {i : OrderSlot} (h : i ∈ f.orders) (o : Option Order) : Touches f s (s.setOrder i o) := by
  constructor <;> simp [State.setOrder_order]
  intro k
  by_cases e : i = k
  · exact .inl (e ▸ h)
  · simp [e]

theorem modOrder {i : OrderSlot} (h : i ∈ f.orders) (g : Order → Order) : Touches f s (s.modOrder i g) :=
  setOrder h _

theorem modZone {z : ZoneId} (h : z ∈ f.zones) (g : Zone → Zone) : Touches f s (s.modZone z g) := by
  constructor <;> simp [State.modZone_zone]
  intro k
  by_cases e : z = k
  · exact .inl (e ▸ h)
  · simp [e]

theorem modLane {l : LaneId} (h : l ∈ f.lanes) (g : Lane → Lane) : Touches f s (s.modLane l g) := by
  constructor <;> simp [State.modLane_lane]
  intro k
  by_cases e : l = k
  · exact .inl (e ▸ h)
  · simp [e]

theorem modWork {l : LaneId} (h : l ∈ f.work) (g : LaneWork → LaneWork) : Touches f s (s.modWork l g) := by
  constructor <;> simp [State.modWork_laneWork]
  intro k
  by_cases e : l = k
  · exact .inl (e ▸ h)
  · simp [e]

theorem modEnvelope {n : Nat} (h : n ∈ f.envelopes) (g : Envelope → Envelope) (hg : ∀ e, (g e).capture = e.capture) :
    Touches f s (s.modEnvelope n g) := by
  constructor <;> simp [State.modEnvelope_envelopes]
  induction s.custody.envelopes with
  | nil => rfl
  | cons e l ih =>
    by_cases he : e.capture = n
    · simp [he, hg, h, ih]
    · simp [he, List.filter_cons, ih]

theorem modBins (h : f.bins = true) (g : Bins → Bins) : Touches f s (s.modBins g) := by
  constructor <;> simp [h]

theorem modPath (h : f.path = true) (g : NotePath → NotePath) : Touches f s (s.modPath g) := by
  constructor <;> simp [h]

theorem modConveyor (h : f.conveyor = true) (g : Conveyor → Conveyor) : Touches f s (s.modConveyor g) := by
  constructor <;> simp [h]

theorem modAlarm (h : f.alarm = true) (g : AlarmUnit → AlarmUnit) : Touches f s (s.modAlarm g) := by
  constructor <;> simp [h]

theorem modSup (h : f.sup = true) (g : Supervisor → Supervisor) : Touches f s (s.modSup g) := by
  constructor <;> simp [h]

theorem modLevels (h : f.levels = true) (g : FieldLevels → FieldLevels) : Touches f s (s.modLevels g) := by
  constructor <;> simp [h]

/-- The table of cassettes rewritten as a whole. -/
theorem setCassettes (h : ∀ c, c ∈ f.cassettes) (v : Vector Cassette Config.cassetteCount) :
    Touches f s { s with custody := { s.custody with cassettes := v } } := by
  constructor <;> simp [h, State.order, State.zone, State.lane, State.laneWork]

/-- The placement order rewritten. -/
theorem setPlacement (h : f.placement = true) (l : List OrderSlot) :
    Touches f s { s with custody := { s.custody with placement := l } } := by
  constructor <;> simp [h, State.cassette, State.order, State.zone, State.lane, State.laneWork]

/-- The trip list rewritten. -/
theorem setTripList (h : f.trips = true) (l : List ZoneId) :
    Touches f s { s with custody := { s.custody with tripList := l } } := by
  constructor <;> simp [h, State.cassette, State.order, State.zone, State.lane, State.laneWork]

/-- A notice raised. -/
theorem raise (n : Notice) : Touches f s (s.raise n) := by
  unfold State.raise
  split <;> constructor <;> simp [← BitVec.or_assoc]

/-- A notice raised if its cause has come. -/
theorem raiseIf (b : Bool) (n : Notice) : Touches f s (s.raiseIf b n) := by
  unfold State.raiseIf
  split
  · exact raise n
  · exact refl f s

end Touches

end Sys2Proof.Machine
end

