-- ==== Sys2Proof/Laws/Finish.lean ====
section
/-! SUPPORT. What the end of an event leaves: `finish` read field by field, and the frame it turns `Touches` into. -/

namespace Sys2Proof.Machine

variable {f : Footprint} {before after s t : State} {named access : Option RecordRef}

/-! ### Raising a notice -/

@[simp] theorem State.raise_pending (s : State) (n : Notice) : (s.raise n).pending = s.pending := by
  unfold State.raise; (repeat' split) <;> rfl
@[simp] theorem State.raise_custody (s : State) (n : Notice) : (s.raise n).custody = s.custody := by
  unfold State.raise; (repeat' split) <;> rfl
@[simp] theorem State.raise_path (s : State) (n : Notice) : (s.raise n).path = s.path := by
  unfold State.raise; (repeat' split) <;> rfl
@[simp] theorem State.raise_work (s : State) (n : Notice) : (s.raise n).work = s.work := by
  unfold State.raise; (repeat' split) <;> rfl
@[simp] theorem State.raise_conveyor (s : State) (n : Notice) : (s.raise n).conveyor = s.conveyor := by
  unfold State.raise; (repeat' split) <;> rfl
@[simp] theorem State.raise_alarm (s : State) (n : Notice) : (s.raise n).alarm = s.alarm := by
  unfold State.raise; (repeat' split) <;> rfl
@[simp] theorem State.raise_watch (s : State) (n : Notice) : (s.raise n).watch = s.watch := by
  unfold State.raise; (repeat' split) <;> rfl
@[simp] theorem State.raise_sup (s : State) (n : Notice) : (s.raise n).sup = s.sup := by
  unfold State.raise; (repeat' split) <;> rfl
@[simp] theorem State.raise_levels (s : State) (n : Notice) : (s.raise n).levels = s.levels := by
  unfold State.raise; (repeat' split) <;> rfl
@[simp] theorem State.raise_frame (s : State) (n : Notice) : (s.raise n).port.frame = s.port.frame := by
  unfold State.raise; (repeat' split) <;> rfl
@[simp] theorem State.raise_processing (s : State) (n : Notice) : (s.raise n).port.processing = s.port.processing := by
  unfold State.raise; (repeat' split) <;> rfl
@[simp] theorem State.raise_buffer (s : State) (n : Notice) : (s.raise n).port.buffer = s.port.buffer := by
  unfold State.raise; (repeat' split) <;> rfl
@[simp] theorem State.raise_linkStatus (s : State) (n : Notice) : (s.raise n).port.linkStatus = s.port.linkStatus := by
  unfold State.raise; (repeat' split) <;> rfl
@[simp] theorem State.raise_settle (s : State) (n : Notice) : (s.raise n).port.settle = s.port.settle := by
  unfold State.raise; (repeat' split) <;> rfl
@[simp] theorem State.raise_cassette (s : State) (n : Notice) (k) : (s.raise n).cassette k = s.cassette k := by
  simp [State.cassette]
@[simp] theorem State.raise_order (s : State) (n : Notice) (k) : (s.raise n).order k = s.order k := by
  simp [State.order]
@[simp] theorem State.raise_zone (s : State) (n : Notice) (k) : (s.raise n).zone k = s.zone k := by
  simp [State.zone]
@[simp] theorem State.raise_lane (s : State) (n : Notice) (k) : (s.raise n).lane k = s.lane k := by
  simp [State.lane]
@[simp] theorem State.raise_laneWork (s : State) (n : Notice) (k) : (s.raise n).laneWork k = s.laneWork k := by
  simp [State.laneWork]
@[simp] theorem State.raise_envelope (s : State) (n : Notice) (k) : (s.raise n).envelope k = s.envelope k := by
  simp [State.envelope]
@[simp] theorem State.raise_hushed (s : State) (n : Notice) : (s.raise n).hushed = s.hushed := by
  simp [State.hushed]
@[simp] theorem State.raiseIf_pending (s : State) (b : Bool) (n : Notice) : (s.raiseIf b n).pending = s.pending := by
  unfold State.raiseIf State.raise; (repeat' split) <;> rfl
@[simp] theorem State.raiseIf_custody (s : State) (b : Bool) (n : Notice) : (s.raiseIf b n).custody = s.custody := by
  unfold State.raiseIf State.raise; (repeat' split) <;> rfl
@[simp] theorem State.raiseIf_path (s : State) (b : Bool) (n : Notice) : (s.raiseIf b n).path = s.path := by
  unfold State.raiseIf State.raise; (repeat' split) <;> rfl
@[simp] theorem State.raiseIf_work (s : State) (b : Bool) (n : Notice) : (s.raiseIf b n).work = s.work := by
  unfold State.raiseIf State.raise; (repeat' split) <;> rfl
@[simp] theorem State.raiseIf_conveyor (s : State) (b : Bool) (n : Notice) : (s.raiseIf b n).conveyor = s.conveyor := by
  unfold State.raiseIf State.raise; (repeat' split) <;> rfl
@[simp] theorem State.raiseIf_alarm (s : State) (b : Bool) (n : Notice) : (s.raiseIf b n).alarm = s.alarm := by
  unfold State.raiseIf State.raise; (repeat' split) <;> rfl
@[simp] theorem State.raiseIf_watch (s : State) (b : Bool) (n : Notice) : (s.raiseIf b n).watch = s.watch := by
  unfold State.raiseIf State.raise; (repeat' split) <;> rfl
@[simp] theorem State.raiseIf_sup (s : State) (b : Bool) (n : Notice) : (s.raiseIf b n).sup = s.sup := by
  unfold State.raiseIf State.raise; (repeat' split) <;> rfl
@[simp] theorem State.raiseIf_levels (s : State) (b : Bool) (n : Notice) : (s.raiseIf b n).levels = s.levels := by
  unfold State.raiseIf State.raise; (repeat' split) <;> rfl
@[simp] theorem State.raiseIf_frame (s : State) (b : Bool) (n : Notice) : (s.raiseIf b n).port.frame = s.port.frame := by
  unfold State.raiseIf State.raise; (repeat' split) <;> rfl
@[simp] theorem State.raiseIf_processing (s : State) (b : Bool) (n : Notice) : (s.raiseIf b n).port.processing = s.port.processing := by
  unfold State.raiseIf State.raise; (repeat' split) <;> rfl
@[simp] theorem State.raiseIf_buffer (s : State) (b : Bool) (n : Notice) : (s.raiseIf b n).port.buffer = s.port.buffer := by
  unfold State.raiseIf State.raise; (repeat' split) <;> rfl
@[simp] theorem State.raiseIf_linkStatus (s : State) (b : Bool) (n : Notice) : (s.raiseIf b n).port.linkStatus = s.port.linkStatus := by
  unfold State.raiseIf State.raise; (repeat' split) <;> rfl
@[simp] theorem State.raiseIf_settle (s : State) (b : Bool) (n : Notice) : (s.raiseIf b n).port.settle = s.port.settle := by
  unfold State.raiseIf State.raise; (repeat' split) <;> rfl
@[simp] theorem State.raiseIf_cassette (s : State) (b : Bool) (n : Notice) (k) : (s.raiseIf b n).cassette k = s.cassette k := by
  simp [State.cassette]
@[simp] theorem State.raiseIf_order (s : State) (b : Bool) (n : Notice) (k) : (s.raiseIf b n).order k = s.order k := by
  simp [State.order]
@[simp] theorem State.raiseIf_zone (s : State) (b : Bool) (n : Notice) (k) : (s.raiseIf b n).zone k = s.zone k := by
  simp [State.zone]
@[simp] theorem State.raiseIf_lane (s : State) (b : Bool) (n : Notice) (k) : (s.raiseIf b n).lane k = s.lane k := by
  simp [State.lane]
@[simp] theorem State.raiseIf_laneWork (s : State) (b : Bool) (n : Notice) (k) : (s.raiseIf b n).laneWork k = s.laneWork k := by
  simp [State.laneWork]
@[simp] theorem State.raiseIf_envelope (s : State) (b : Bool) (n : Notice) (k) : (s.raiseIf b n).envelope k = s.envelope k := by
  simp [State.envelope]
@[simp] theorem State.raiseIf_hushed (s : State) (b : Bool) (n : Notice) : (s.raiseIf b n).hushed = s.hushed := by
  simp [State.hushed]

/-- The notices after a raise: the flag is set unless the part starts or settles (R175, R176). -/
theorem raiseIf_notices (b : Bool) (n : Notice) (s : State) :
    (s.raiseIf b n).port.notices = if b = true ∧ s.hushed = false then s.port.notices ||| n.bit else s.port.notices := by
  unfold State.raiseIf State.raise
  cases b <;> cases h : s.hushed <;> simp

/-- The held notices after a raise: the cause is held while the part starts or settles (R176). -/
theorem raiseIf_heldNotices (b : Bool) (n : Notice) (s : State) :
    (s.raiseIf b n).port.heldNotices =
      if b = true ∧ s.hushed = true then s.port.heldNotices ||| n.bit else s.port.heldNotices := by
  unfold State.raiseIf State.raise
  cases b <;> cases h : s.hushed <;> simp

/-! ### The end of an event, field by field -/

@[simp] theorem finish_pending : (finish before after named access).pending = after.pending := by
  simp [finish, watchRecords, raiseTables, markRecords, State.syncAttention]
@[simp] theorem finish_path : (finish before after named access).path = after.path := by
  simp [finish, watchRecords, raiseTables, markRecords, State.syncAttention]
@[simp] theorem finish_work : (finish before after named access).work = after.work := by
  simp [finish, watchRecords, raiseTables, markRecords, State.syncAttention]
@[simp] theorem finish_conveyor : (finish before after named access).conveyor = after.conveyor := by
  simp [finish, watchRecords, raiseTables, markRecords, State.syncAttention]
@[simp] theorem finish_alarm : (finish before after named access).alarm = after.alarm := by
  simp [finish, watchRecords, raiseTables, markRecords, State.syncAttention]
@[simp] theorem finish_sup : (finish before after named access).sup = after.sup := by
  simp [finish, watchRecords, raiseTables, markRecords, State.syncAttention]
@[simp] theorem finish_levels : (finish before after named access).levels = after.levels := by
  simp [finish, watchRecords, raiseTables, markRecords, State.syncAttention]
@[simp] theorem finish_frame : (finish before after named access).port.frame = after.port.frame := by
  simp [finish, watchRecords, raiseTables, markRecords, State.syncAttention]
@[simp] theorem finish_processing : (finish before after named access).port.processing = after.port.processing := by
  simp [finish, watchRecords, raiseTables, markRecords, State.syncAttention]
@[simp] theorem finish_buffer : (finish before after named access).port.buffer = after.port.buffer := by
  simp [finish, watchRecords, raiseTables, markRecords, State.syncAttention]
@[simp] theorem finish_linkStatus : (finish before after named access).port.linkStatus = after.port.linkStatus := by
  simp [finish, watchRecords, raiseTables, markRecords, State.syncAttention]
@[simp] theorem finish_settle : (finish before after named access).port.settle = after.port.settle := by
  simp [finish, watchRecords, raiseTables, markRecords, State.syncAttention]
@[simp] theorem finish_tags :
    (finish before after named access).custody.tags = after.custody.tags := by
  simp [finish, watchRecords, raiseTables, markRecords, State.syncAttention]
@[simp] theorem finish_placement :
    (finish before after named access).custody.placement = after.custody.placement := by
  simp [finish, watchRecords, raiseTables, markRecords, State.syncAttention]
@[simp] theorem finish_captureCounter :
    (finish before after named access).custody.captureCounter = after.custody.captureCounter := by
  simp [finish, watchRecords, raiseTables, markRecords, State.syncAttention]
@[simp] theorem finish_dayArmed :
    (finish before after named access).custody.dayArmed = after.custody.dayArmed := by
  simp [finish, watchRecords, raiseTables, markRecords, State.syncAttention]
@[simp] theorem finish_nightArmed :
    (finish before after named access).custody.nightArmed = after.custody.nightArmed := by
  simp [finish, watchRecords, raiseTables, markRecords, State.syncAttention]
@[simp] theorem finish_tripList :
    (finish before after named access).custody.tripList = after.custody.tripList := by
  simp [finish, watchRecords, raiseTables, markRecords, State.syncAttention]
@[simp] theorem finish_bins :
    (finish before after named access).custody.bins = after.custody.bins := by
  simp [finish, watchRecords, raiseTables, markRecords, State.syncAttention]
@[simp] theorem finish_settings :
    (finish before after named access).custody.settings = after.custody.settings := by
  simp [finish, watchRecords, raiseTables, markRecords, State.syncAttention]
@[simp] theorem finish_retention :
    (finish before after named access).custody.retention = after.custody.retention := by
  simp [finish, watchRecords, raiseTables, markRecords, State.syncAttention]
@[simp] theorem finish_laneWork (k) : (finish before after named access).laneWork k = after.laneWork k := by
  simp [State.laneWork]
@[simp] theorem finish_hushed : (finish before after named access).hushed = after.hushed := by
  simp [State.hushed]
/-- A cassette record after an event: as the event's own effect left it, and marked if the event moved it (R9). -/
theorem finish_cassette (k) : (finish before after named access).cassette k =
    if cassetteMoved before after named k then { after.cassette k with mark := true } else after.cassette k := by
  simp [State.cassette, finish, watchRecords, raiseTables, markRecords, State.syncAttention]
/-- A zone record after an event: as the event's own effect left it, and marked if the event moved it (R9). -/
theorem finish_zone (k) : (finish before after named access).zone k =
    if zoneMoved before after named k then { after.zone k with mark := true } else after.zone k := by
  simp [State.zone, finish, watchRecords, raiseTables, markRecords, State.syncAttention]
/-- A lane record after an event: as the event's own effect left it, and marked if the event moved it (R9). -/
theorem finish_lane (k) : (finish before after named access).lane k =
    if laneMoved before after named k then { after.lane k with mark := true } else after.lane k := by
  simp [State.lane, finish, watchRecords, raiseTables, markRecords, State.syncAttention]
/-- An order after an event: as the event's own effect left it, and marked if the event moved it (R9). -/
theorem finish_order (k) : (finish before after named access).order k =
    if orderMoved before after named k then (after.order k).map fun o => { o with mark := true } else after.order k := by
  simp [State.order, finish, watchRecords, raiseTables, markRecords, State.syncAttention]

/-- The envelope table after an event: as the event's own effect left it, the records it moved being marked (R9). -/
theorem finish_envelopes : (finish before after named access).custody.envelopes =
    after.custody.envelopes.map fun e => if envelopeMoved before named e then { e with mark := true } else e := by
  simp [finish, watchRecords, raiseTables, markRecords, State.syncAttention]

/-- A watch slot after an event (R164, R165). -/
theorem finish_slot (k) : (finish before after named access).watch.slots.get k =
    ((after.watch.slots.get k).record (watchHits before after access (before.watch.slots.get k))).afterSessions before after := by
  simp [finish, watchRecords, raiseTables, markRecords, State.syncAttention]

@[simp] theorem finish_refused : (finish before after named access).watch.refused = after.watch.refused := by
  simp [finish, watchRecords, raiseTables, markRecords, State.syncAttention]
@[simp] theorem finish_refusals : (finish before after named access).watch.refusals = after.watch.refusals := by
  simp [finish, watchRecords, raiseTables, markRecords, State.syncAttention]

/-- The attention line after an event follows the notices (R176). -/
theorem finish_attention :
    (finish before after named access).port.attention = (finish before after named access).attentionDue := rfl

/-- No notice falls in a raise. -/
theorem raiseIf_stands (b : Bool) (n : Notice) (s : State) :
    s.port.notices ||| (s.raiseIf b n).port.notices = (s.raiseIf b n).port.notices ∧
    s.port.heldNotices ||| (s.raiseIf b n).port.heldNotices = (s.raiseIf b n).port.heldNotices := by
  rw [raiseIf_notices, raiseIf_heldNotices]
  constructor <;> split <;> simp [← BitVec.or_assoc]

/-- No notice falls at the end of an event (R175). -/
theorem finish_stands : NoticesStand after (finish before after named access) := by
  have step : ∀ (b : Bool) (n : Notice) (s t : State), NoticesStand s t → NoticesStand s (t.raiseIf b n) := fun b n s t h =>
    ⟨Touches.stands_trans h.1 (raiseIf_stands b n t).1, Touches.stands_trans h.2 (raiseIf_stands b n t).2⟩
  have base : NoticesStand after (markRecords before named after) := by constructor <;> simp [markRecords]
  have tables : NoticesStand after (raiseTables before after named (markRecords before named after)) := by
    unfold raiseTables
    exact step _ _ _ _ (step _ _ _ _ (step _ _ _ _ (step _ _ _ _ (step _ _ _ _ base))))
  unfold finish watchRecords
  have moved := fun g => step
    ((positions _).any fun k => !(watchHits before after access (before.watch.slots.get k)).isEmpty) .watch after
    ((raiseTables before after named (markRecords before named after)).modWatch g) tables
  exact moved _

/-- A notice that an event raises for a table stands, or is held, when the event has ended. -/
theorem notice_after_raise (b : Bool) (n : Notice) (s : State) (h : b = true) :
    (if s.hushed then (s.raiseIf b n).port.heldNotices else (s.raiseIf b n).port.notices) &&& n.bit = n.bit := by
  rw [raiseIf_notices, raiseIf_heldNotices]
  subst h
  have absorbs : ∀ x y : BitVec 10, (x ||| y) &&& y = y := fun x y => by
    ext i hi
    simp only [BitVec.getElem_and, BitVec.getElem_or]
    cases x[i] <;> cases y[i] <;> rfl
  cases hs : s.hushed <;> simp [absorbs]

end Sys2Proof.Machine
end

