-- ==== Sys2Proof/Laws/Leaves.lean ====
section
/-! SUPPORT. From the effect of an event to the frame that the statements speak of: `Touches` becomes `EventLeaves` and
`CommandLeaves`; and the outcomes of the two shapes of a meaning. -/

namespace Sys2Proof.Machine

variable {f : Footprint} {before after s t : State} {named access : Option RecordRef}

/-! ### Records that an event leaves alone are not marked -/

theorem cassetteMoved_of_eq {c : CassetteId} (h : after.cassette c = before.cassette c) :
    cassetteMoved before after named c = false := by
  simp [cassetteMoved, Cassette.same, h]

theorem zoneMoved_of_eq {z : ZoneId} (h : after.zone z = before.zone z) : zoneMoved before after named z = false := by
  simp [zoneMoved, Zone.same, h]

theorem laneMoved_of_eq {l : LaneId} (h : after.lane l = before.lane l) : laneMoved before after named l = false := by
  simp [laneMoved, Lane.same, h]

theorem orderMoved_of_eq {i : OrderSlot} (h : after.order i = before.order i) :
    orderMoved before after named i = false := by
  unfold orderMoved
  rw [h]
  cases before.order i <;> simp [Order.same]

theorem envelopeMoved_of_mem {e : Envelope} (h : e ∈ before.custody.envelopes) :
    envelopeMoved before named e = false := by
  unfold envelopeMoved
  simp only [Bool.and_eq_false_iff, Bool.not_eq_false', List.any_eq_true]
  exact .inl ⟨e, h, by simp [Envelope.same]⟩

/-- A record that the effect left alone stands at the end of the event. -/
theorem finish_cassette_of_eq {c : CassetteId} (h : after.cassette c = before.cassette c) :
    (finish before after named access).cassette c = before.cassette c := by
  rw [finish_cassette, cassetteMoved_of_eq h, h]
  rfl

theorem finish_order_of_eq {i : OrderSlot} (h : after.order i = before.order i) :
    (finish before after named access).order i = before.order i := by
  rw [finish_order, orderMoved_of_eq h, h]
  rfl

theorem finish_zone_of_eq {z : ZoneId} (h : after.zone z = before.zone z) :
    (finish before after named access).zone z = before.zone z := by
  rw [finish_zone, zoneMoved_of_eq h, h]
  rfl

theorem finish_lane_of_eq {l : LaneId} (h : after.lane l = before.lane l) :
    (finish before after named access).lane l = before.lane l := by
  rw [finish_lane, laneMoved_of_eq h, h]
  rfl

/-- A session that an event completes is marked with it. -/
theorem finish_lane_of_ended {l : LaneId} (h : Ended (before.lane l) (after.lane l)) (hn : named ≠ some (.lane l)) :
    Completed (before.lane l) ((finish before after named access).lane l) := by
  obtain ⟨⟨c, hc⟩, ha⟩ := h
  have moved : laneMoved before after named l = true := by
    simp [laneMoved, Lane.same, ha, hc, hn]
  rw [finish_lane, moved, ha, Completed, hc]
  rfl

/-- The records outside a footprint of envelopes stand at the end of the event. -/
theorem finish_envelopes_outside (h : Touches f before after) :
    ((finish before after named access).custody.envelopes.filter fun e => !f.envelopes.contains e.capture) =
      (before.custody.envelopes.filter fun e => !f.envelopes.contains e.capture) := by
  rw [finish_envelopes, ← h.envelopes, List.filter_map]
  have same : ∀ e ∈ after.custody.envelopes.filter fun e => !f.envelopes.contains e.capture,
      (if envelopeMoved before named e then { e with mark := true } else e) = e := by
    intro e he
    rw [h.envelopes] at he
    rw [envelopeMoved_of_mem (List.mem_filter.mp he).1]
    rfl
  have keep : ((fun e : Envelope => !f.envelopes.contains e.capture) ∘
      fun e => if envelopeMoved before named e then { e with mark := true } else e) =
      fun e : Envelope => !f.envelopes.contains e.capture := by
    funext e
    simp only [Function.comp]
    split <;> rfl
  rw [keep]
  conv => rhs; rw [← List.map_id (List.filter _ after.custody.envelopes)]
  exact List.map_congr_left same

/-! ### Frames -/

/-- The records and the working state outside the footprint of an event stand when it has ended. -/
theorem within_finish (h : Touches f before after) (hn : ∀ l, named = some (.lane l) → l ∈ f.lanes) :
    Within f before (finish before after named access) := by
  refine ⟨fun c => (h.cassettes c).imp id finish_cassette_of_eq, fun i => (h.orders i).imp id finish_order_of_eq,
    by simpa using h.tags, by simpa using h.placement, finish_envelopes_outside h, by simpa using h.counter,
    fun z => (h.zones z).imp id finish_zone_of_eq, by simpa using h.arms, by simpa using h.trips, fun l => ?_,
    by simpa using h.bins, by simpa using h.settings, by simpa using h.retention, by simpa using h.path,
    fun l => by simpa using h.work l, by simpa using h.conveyor, by simpa using h.alarm, by simpa using h.sup,
    by simpa using h.levels, by simpa using h.pending⟩
  by_cases hl : l ∈ f.lanes
  · exact .inl hl
  · rcases h.lanes l with k | k | k
    · exact .inl k
    · exact .inr (.inl (finish_lane_of_eq k))
    · exact .inr (.inr ⟨k.1, finish_lane_of_ended k.2 fun e => hl (hn l e)⟩)

/-- The watch slots keep their configuration and their hits through an event. -/
theorem watchStands_finish (h : after.watch = before.watch) : WatchStands before (finish before after named access) := by
  refine ⟨by simp [h], by simp [h], fun k => ?_⟩
  rw [finish_slot, h]
  generalize watchHits before after access (before.watch.slots.get k) = hits
  simp only [WatchSlot.record, WatchSlot.afterSessions]
  cases hits.getLast? <;> simp only [] <;> split <;> (try split) <;> simp

/-- The frame of an event. -/
theorem eventLeaves_finish (h : Touches f before after) : EventLeaves f before (finish before after none access) := by
  have stands := finish_stands (before := before) (after := after) (named := none) (access := access)
  exact ⟨within_finish h (by simp), by simp [h.frame], by simp [h.processing], by simp [h.buffer], by simp [h.linkStatus],
    by simp [h.settle], finish_attention, ⟨Touches.stands_trans h.notices stands.1, Touches.stands_trans h.held stands.2⟩,
    watchStands_finish h.watch⟩

/-! ### The release of a frame -/

@[simp] theorem taken_pending (s : State) : s.released.written.pending = s.pending := by
  unfold State.written State.released; split <;> rfl
@[simp] theorem taken_custody (s : State) : s.released.written.custody = s.custody := by
  unfold State.written State.released; split <;> rfl
@[simp] theorem taken_path (s : State) : s.released.written.path = s.path := by
  unfold State.written State.released; split <;> rfl
@[simp] theorem taken_work (s : State) : s.released.written.work = s.work := by
  unfold State.written State.released; split <;> rfl
@[simp] theorem taken_conveyor (s : State) : s.released.written.conveyor = s.conveyor := by
  unfold State.written State.released; split <;> rfl
@[simp] theorem taken_alarm (s : State) : s.released.written.alarm = s.alarm := by
  unfold State.written State.released; split <;> rfl
@[simp] theorem taken_watch (s : State) : s.released.written.watch = s.watch := by
  unfold State.written State.released; split <;> rfl
@[simp] theorem taken_sup (s : State) : s.released.written.sup = s.sup := by
  unfold State.written State.released; split <;> rfl
@[simp] theorem taken_levels (s : State) : s.released.written.levels = s.levels := by
  unfold State.written State.released; split <;> rfl
@[simp] theorem taken_linkStatus (s : State) : s.released.written.port.linkStatus = s.port.linkStatus := by
  unfold State.written State.released; split <;> rfl
@[simp] theorem taken_settle (s : State) : s.released.written.port.settle = s.port.settle := by
  unfold State.written State.released; split <;> rfl
@[simp] theorem taken_notices (s : State) : s.released.written.port.notices = s.port.notices := by
  unfold State.written State.released; split <;> rfl
@[simp] theorem taken_heldNotices (s : State) : s.released.written.port.heldNotices = s.port.heldNotices := by
  unfold State.written State.released; split <;> rfl
@[simp] theorem taken_attention (s : State) : s.released.written.port.attention = s.port.attention := by
  unfold State.written State.released; split <;> rfl
@[simp] theorem taken_frame (s : State) : s.released.written.port.frame = none := by
  unfold State.written State.released; split <;> rfl
@[simp] theorem taken_processing (s : State) : s.released.written.port.processing = none := by
  unfold State.written
  split
  · rfl
  · next h => exact h
@[simp] theorem taken_buffer (s : State) : s.released.written.port.buffer = s.written.port.buffer := by
  unfold State.written State.released
  simp only [State.modPort_port]
  cases s.port.processing <;> rfl
@[simp] theorem taken_cassette (s : State) (k) : s.released.written.cassette k = s.cassette k := by
  simp [State.cassette]
@[simp] theorem taken_order (s : State) (k) : s.released.written.order k = s.order k := by
  simp [State.order]
@[simp] theorem taken_zone (s : State) (k) : s.released.written.zone k = s.zone k := by
  simp [State.zone]
@[simp] theorem taken_lane (s : State) (k) : s.released.written.lane k = s.lane k := by
  simp [State.lane]
@[simp] theorem taken_laneWork (s : State) (k) : s.released.written.laneWork k = s.laneWork k := by
  simp [State.laneWork]
@[simp] theorem taken_envelope (s : State) (k) : s.released.written.envelope k = s.envelope k := by
  simp [State.envelope]
@[simp] theorem taken_clock (s : State) : s.released.written.clock = s.clock := by
  simp [State.clock]
@[simp] theorem taken_hushed (s : State) : s.released.written.hushed = s.hushed := by
  simp [State.hushed]

/-- The frame of a command that was taken and carried out. -/
theorem commandLeaves_finish {c : ResultCode} {p : Payload} (h : Touches f s.released.written after)
    (hn : ∀ l, named = some (.lane l) → l ∈ f.lanes) :
    CommandLeaves f { code := c, payload := p } s ((finish s.released.written after named access).answering c p) := by
  have stands := finish_stands (before := s.released.written) (after := after) (named := named) (access := access)
  have inside := within_finish (access := access) h hn
  have watched := watchStands_finish (before := s.released.written) (named := named) (access := access) h.watch
  refine ⟨?_, by simp [State.answering, h.frame], rfl, by simp [State.answering, h.buffer],
    by simp [State.answering, h.linkStatus], by simp [State.answering, h.settle], finish_attention, ?_, ?_⟩
  · simpa [Within, State.answering] using inside
  · exact ⟨by simpa [State.answering] using Touches.stands_trans h.notices stands.1,
      by simpa [State.answering] using Touches.stands_trans h.held stands.2⟩
  · simpa [WatchStands, State.answering] using watched

/-! ### The two shapes of a meaning -/

/-- A frame that is taken and long enough has its command carried out (R171, R173). -/
theorem station_taken {code : Byte} {required : List Byte → Nat} {body : List Byte → State → Reply} {ps : List Byte}
    (ht : s.takes = true) (hl : ps.length ≤ 63) (hr : required ps ≤ ps.length) :
    station code required body ps s = .next (s.released.written.answer code ps (body ps s.released.written)) := by
  simp only [State.takes, Bool.and_eq_true, Bool.not_eq_true'] at ht
  unfold station
  rw [if_neg (by simp [ht.1]), if_neg (by simp [ht.2]), List.take_of_length_le hl, if_neg (Nat.not_lt.mpr hr)]

/-- A frame that is taken and too short is refused FRAME_LENGTH (R173). -/
theorem station_short {code : Byte} {required : List Byte → Nat} {body : List Byte → State → Reply} {ps : List Byte}
    (ht : s.takes = true) (hl : ps.length ≤ 63) (hr : ps.length < required ps) :
    station code required body ps s =
      .next (((s.released.written.noteRefusal code ps .frameLength).linkFault frameFlag).answering .frameLength .empty) := by
  simp only [State.takes, Bool.and_eq_true, Bool.not_eq_true'] at ht
  unfold station
  rw [if_neg (by simp [ht.1]), if_neg (by simp [ht.2]), List.take_of_length_le hl, if_pos hr]

/-- While the part starts or settles a frame only ends (R171). -/
theorem station_hushed {code : Byte} {required : List Byte → Nat} {body : List Byte → State → Reply} {ps : List Byte}
    (h : s.hushed = true) : station code required body ps s = .next s.released := by
  unfold station
  rw [if_pos h]

/-- A frame that saw BUSY is discarded (R171, R172). -/
theorem station_busy {code : Byte} {required : List Byte → Nat} {body : List Byte → State → Reply} {ps : List Byte}
    (h : s.hushed = false) (hb : s.sawBusy = true) :
    station code required body ps s = .next (s.released.linkFault overrunFlag) := by
  unfold station
  rw [if_neg (by simp [h]), if_pos hb]

/-- A command that is carried out ends as an event ends, with its result in processing. -/
theorem answer_done (u : State) (code : Byte) (ps : List Byte) (r : ResultCode) (p : Payload) (x : Option RecordRef) :
    s.answer code ps (.done u r p x) = (finish s u x x).answering r p := rfl

/-- The result of a refusal. -/
theorem answer_refuse_result (code : Byte) (ps : List Byte) (r : ResultCode) (p : Payload) (x : Option RecordRef) :
    (s.answer code ps (.refuse r p x)).result = some r := rfl

/-- An event outside phase SETTLE has its effect and ends. -/
theorem event_heeded {g : State → State} (h : s.heeds = true) : event g s = .next (finish s (g s) none none) := by
  unfold event
  rw [if_neg (by simpa [State.heeds] using h)]

/-- A field event outside phase SETTLE has its effect on the level it reports and ends. -/
theorem fieldEvent_heeded {level : FieldLevels → FieldLevels} {g : State → State} (h : s.heeds = true) :
    fieldEvent level g s = .next (finish s (g (s.modLevels level)) none none) := by
  unfold fieldEvent
  rw [if_neg (by simpa [State.heeds] using h)]

/-- What a command yields, read from the state it answers. -/
theorem yields_of {c : Instr} {P : State → Prop} (h : exec c s = .next t) (ht : P t) : Yields c s P := by
  unfold Yields
  rw [h]
  exact ht

end Sys2Proof.Machine
end

