-- ==== Sys2Proof/Laws/Ops.lean ====
section
/-! SUPPORT. One lemma for each shared operation: whatever it does stays within every footprint that holds what it may
change. A meaning that is a chain of them has its frame by `Touches.trans`. Last, the bytes of the frame out, the
sessions that complete, and a recall cause at a drawer. -/

namespace Sys2Proof.Machine

variable {f : Footprint} {s : State}

/-! ### Queue, reservations, the end of an order -/

theorem dropClaim_touches (p : f.path = true) (c : Claim) (s : State) : Touches f s (dropClaim c s) :=
  .modPath p _

theorem joinQueue_touches (p : f.path = true) (c : Claim) (s : State) : Touches f s (joinQueue c s) :=
  .modPath p _

theorem releaseReservations_touches (cs : ∀ c, c ∈ f.cassettes) (i : OrderSlot) (s : State) :
    Touches f s (releaseReservations i s) := by
  unfold releaseReservations
  split
  · exact .setCassettes cs _
  · exact .refl f s

theorem endOrder_touches {i : OrderSlot} (o : i ∈ f.orders) (pl : f.placement = true) (p : f.path = true)
    (g : Order → Order) (s : State) : Touches f s (endOrder i g s) :=
  ((Touches.modOrder o _).trans (.setPlacement pl _)).trans (dropClaim_touches p _ _)

theorem stopOrder_touches {i : OrderSlot} (cs : ∀ c, c ∈ f.cassettes) (o : i ∈ f.orders) (pl : f.placement = true)
    (p : f.path = true) (st : OrderState) (r : Reason) (s : State) : Touches f s (stopOrder i st r s) :=
  (releaseReservations_touches cs i s).trans (endOrder_touches o pl p _ _)

/-! ### The transport -/

theorem releaseTransport_touches (p : f.path = true) (s : State) : Touches f s (releaseTransport s) :=
  .modPath p _

theorem readStacker_touches (p : f.path = true) (s : State) : Touches f s (readStacker s) :=
  .modPath p _

theorem pickingOrder_some {i : OrderSlot} {o : Order} (h : s.pickingOrder = some (i, o)) :
    s.path.state = .picking ∧ s.path.holder = some (.order i) ∧ s.order i = some o := by
  unfold State.pickingOrder at h
  split at h
  · next j hs hh =>
    simp only [Option.map_eq_some_iff, Prod.mk.injEq] at h
    obtain ⟨a, ha, rfl, rfl⟩ := h
    exact ⟨hs, hh, ha⟩
  · cases h

theorem abortPicking_touches (cs : ∀ c, c ∈ f.cassettes) (os : ∀ i, i ∈ f.orders) (pl : f.placement = true)
    (p : f.path = true) (r : Reason) (s : State) : Touches f s (abortPicking r s) := by
  unfold abortPicking
  split
  · split
    · exact ((releaseReservations_touches cs _ s).trans (endOrder_touches (os _) pl p _ _)).trans
        (releaseTransport_touches p _)
    · exact ((releaseReservations_touches cs _ s).trans (.modOrder (os _) _)).trans (.modPath p _)
  · exact .refl f s

/-! ### Bins -/

theorem evalPause_touches (p : f.path = true) (s : State) : Touches f s (evalPause s) :=
  (Touches.modPath p _).trans (.raiseIf _ _)

theorem addRejects_touches (b : f.bins = true) (p : f.path = true) (n : Nat) (s : State) :
    Touches f s (addRejects n s) :=
  (Touches.modBins b _).trans (evalPause_touches p _)

theorem countRetracted_touches {i : OrderSlot} (o : i ∈ f.orders) (b : f.bins = true) (s : State) :
    Touches f s (countRetracted i s) :=
  (Touches.modOrder o _).trans (.modBins b _)

theorem countEdge_touches {i : OrderSlot} (o : i ∈ f.orders) (b : f.bins = true) (top : Order → Nat) (s : State) :
    Touches f s (countEdge i top s) := by
  unfold countEdge
  split
  · split
    · exact countRetracted_touches o b s
    · exact .refl f s
  · exact .refl f s

/-! ### Cassettes -/

theorem writeOff_touches {c : CassetteId} (h : c ∈ f.cassettes) (s : State) : Touches f s (writeOff c s) :=
  .modCassette h _

theorem testNote_touches {c : CassetteId} (h : c ∈ f.cassettes) (b : f.bins = true) (p : f.path = true) (s : State) :
    Touches f s (testNote c s) :=
  (Touches.modCassette h _).trans (addRejects_touches b p _ _)

theorem failHolder_touches (cs : ∀ c, c ∈ f.cassettes) (os : ∀ i, i ∈ f.orders) (pl : f.placement = true)
    (p : f.path = true) (c : CassetteId) (s : State) (i : OrderSlot) : Touches f s (failHolder c s i) := by
  unfold failHolder
  split
  · split
    · exact stopOrder_touches cs (os i) pl p _ _ _
    · exact .refl f s
  · exact .refl f s

theorem abortShort_touches (cs : ∀ c, c ∈ f.cassettes) (os : ∀ i, i ∈ f.orders) (pl : f.placement = true)
    (p : f.path = true) (c : CassetteId) (s : State) : Touches f s (abortShort c s) := by
  unfold abortShort
  split
  · split
    · exact abortPicking_touches cs os pl p _ _
    · exact .refl f s
  · exact .refl f s

theorem shortCascade_touches (cs : ∀ c, c ∈ f.cassettes) (os : ∀ i, i ∈ f.orders) (pl : f.placement = true)
    (p : f.path = true) (c : CassetteId) (s : State) : Touches f s (shortCascade c s) :=
  (abortShort_touches cs os pl p c s).trans (.foldl (fun i s => failHolder_touches cs os pl p c s i) _ _)

/-! ### Shutters and attempts -/

theorem openShutter_touches {c : CassetteId} (h : c ∈ f.cassettes) (p : f.path = true) (s : State) :
    Touches f s (openShutter c s) := by
  unfold openShutter
  split
  · exact (Touches.modCassette h _).trans (.modPath p _)
  · exact (Touches.modCassette h _).trans (.modPath p _)
  · exact .refl f s
  · exact .refl f s

theorem closeShutter_touches {c : CassetteId} (h : c ∈ f.cassettes) (p : f.path = true) (s : State) :
    Touches f s (closeShutter c s) := by
  unfold closeShutter
  split
  · exact (Touches.modCassette h _).trans (.modPath p _)
  · exact (Touches.modCassette h _).trans (.modPath p _)
  · exact .refl f s
  · exact .refl f s

theorem closeShutters_touches (cs : ∀ c, c ∈ f.cassettes) (p : f.path = true) (s : State) :
    Touches f s (closeShutters s) :=
  .forEach (fun c s => closeShutter_touches (cs c) p s) s

theorem shutNow_touches {c : CassetteId} (h : c ∈ f.cassettes) (p : f.path = true) (s : State) :
    Touches f s (shutNow c s) :=
  (Touches.modCassette h _).trans (.modPath p _)

theorem completeQuiet_touches (u : f.sup = true) (s : State) : Touches f s (completeQuiet s) := by
  unfold completeQuiet
  split
  · exact .modSup u _
  · exact .refl f s

theorem beginAttempt_touches (p : f.path = true) (s : State) : Touches f s (beginAttempt s) := by
  unfold beginAttempt
  split
  · split
    · exact .modPath p _
    · exact .refl f s
  · exact .refl f s

/-- What an attempt that begins writes: the attempt alone, and only where its conditions hold (R37, R84 to R86). -/
theorem beginAttempt_eq (s : State) : beginAttempt s =
    if ∃ c, s.pickTarget = some c ∧ s.path.attempt = none ∧ (s.cassette c).shutter = .opened ∧ s.lockdown = false ∧
      s.sup.rails = true then
      s.modPath fun p => { p with attempt := some { left := pickWindow, last := false, noMiss := false } }
    else s := by
  unfold beginAttempt
  cases s.pickTarget <;> simp

theorem endLeveling_touches {c : CassetteId} (h : c ∈ f.cassettes) (b : f.bins = true) (p : f.path = true) (s : State) :
    Touches f s (endLeveling c s) := by
  have spent : Touches f s
      (if s.path.holder = some (.leveling c) ∧ s.path.heldReading.isSome then testNote c s else s) := by
    split
    · exact testNote_touches h b p s
    · exact .refl f s
  unfold endLeveling
  simp only []
  split
  · exact ((spent.trans (.modCassette h _)).trans (dropClaim_touches p _ _)).trans (releaseTransport_touches p _)
  · exact (spent.trans (.modCassette h _)).trans (dropClaim_touches p _ _)

/-! ### Drawers, heads and sessions -/

theorem driveDrawer_touches {l : LaneId} (h : l ∈ f.lanes) (w : l ∈ f.work) (d : Drawer) (s : State) :
    Touches f s (driveDrawer l d s) :=
  (Touches.modLane h _).trans (.modWork w _)

theorem standDrawer_touches {l : LaneId} (h : l ∈ f.lanes) (w : l ∈ f.work) (d : Drawer) (s : State) :
    Touches f s (standDrawer l d s) :=
  (Touches.modLane h _).trans (.modWork w _)

theorem recallDrawer_touches {l : LaneId} (h : l ∈ f.lanes) (w : l ∈ f.work) (os : ∀ i, i ∈ f.orders)
    (r : Option Reason) (s : State) : Touches f s (recallDrawer l r s) := by
  unfold recallDrawer
  simp only []
  split
  · exact ((driveDrawer_touches h w _ s).trans (.modWork w _)).trans (.modOrder (os _) _)
  · exact (driveDrawer_touches h w _ s).trans (.modWork w _)

theorem pendRecall_touches {l : LaneId} (w : l ∈ f.work) (c : RecallCause) (s : State) :
    Touches f s (pendRecall l c s) :=
  .modWork w _

theorem recallCause_touches {l : LaneId} (h : l ∈ f.lanes) (w : l ∈ f.work) (os : ∀ i, i ∈ f.orders)
    (c : RecallCause) (s : State) : Touches f s (recallCause l c s) := by
  unfold recallCause
  split
  · exact recallDrawer_touches h w os _ s
  · exact pendRecall_touches w c s
  all_goals exact .refl f s

theorem endRecall_touches {l : LaneId} (h : l ∈ f.lanes) (os : ∀ i, i ∈ f.orders) (pl : f.placement = true)
    (p : f.path = true) (s : State) : Touches f s (endRecall l s) := by
  unfold endRecall
  split
  · exact (Touches.modLane h _).trans (endOrder_touches (os _) pl p _ _)
  · exact .refl f s

theorem dumpHead_touches {l : LaneId} {i : OrderSlot} (o : i ∈ f.orders) (w : l ∈ f.work) (r : Reason) (s : State) :
    Touches f s (dumpHead l i r s) :=
  (Touches.modOrder o _).trans (.modWork w _)

theorem dumpStaged_touches {l : LaneId} (os : ∀ i, i ∈ f.orders) (w : l ∈ f.work) (r : Reason) (s : State) :
    Touches f s (dumpStaged l r s) := by
  unfold dumpStaged
  (repeat' split) <;> first | exact dumpHead_touches (os _) w r s | exact .refl f s

theorem closeOrder_touches (cs : ∀ c, c ∈ f.cassettes) (os : ∀ i, i ∈ f.orders) (pl : f.placement = true)
    (p : f.path = true) (l : LaneId) (r : Reason) (i : OrderSlot) (s : State) : Touches f s (closeOrder l r i s) := by
  unfold closeOrder
  (repeat' split) <;> first | exact stopOrder_touches cs (os i) pl p _ _ s | exact .refl f s

theorem closeSession_touches {l : LaneId} (cs : ∀ c, c ∈ f.cassettes) (os : ∀ i, i ∈ f.orders)
    (pl : f.placement = true) (p : f.path = true) (h : l ∈ f.lanes) (w : l ∈ f.work) (c : CloseCause) (s : State) :
    Touches f s (closeSession l c s) :=
  (((Touches.modLane h _).trans (.forEach (fun i s => closeOrder_touches cs os pl p l _ i s) _)).trans
    (dumpStaged_touches os w _ _)).trans (recallCause_touches h w os _ _)

/-- A session is completed or left: the lane is ended or as it was (R104). -/
theorem completeSession_lane (l k : LaneId) (s : State) :
    (completeSession l s).lane k = s.lane k ∨ (k = l ∧ Ended (s.lane k) ((completeSession l s).lane k)) := by
  unfold completeSession
  split
  · next c hc =>
    split
    · by_cases h : l = k
      · subst h
        exact .inr ⟨rfl, ⟨c, hc⟩, by simp⟩
      · exact .inl (by simp [State.modLane_lane, h])
    · exact .inl rfl
  · exact .inl rfl
  · exact .inl rfl

theorem completeSession_touches (cl : f.closes = true) (l : LaneId) (s : State) : Touches f s (completeSession l s) := by
  have lane := fun k => completeSession_lane l k s
  have rest : completeSession l s = s ∨ ∃ g, completeSession l s = s.modLane l g := by
    unfold completeSession
    split
    · split
      · exact .inr ⟨_, rfl⟩
      · exact .inl rfl
    · exact .inl rfl
    · exact .inl rfl
  rcases rest with e | ⟨g, e⟩
  · rw [e]
    exact .refl f s
  · rw [e] at lane ⊢
    constructor <;> try simp
    intro k
    rcases lane k with h | h
    · exact .inr (.inl h)
    · exact .inr (.inr ⟨cl, h.2⟩)

theorem completeSessions_touches (cl : f.closes = true) (s : State) : Touches f s (completeSessions s) :=
  .forEach (fun l s => completeSession_touches cl l s) s

theorem lockLane_touches {l : LaneId} (cs : ∀ c, c ∈ f.cassettes) (os : ∀ i, i ∈ f.orders)
    (pl : f.placement = true) (p : f.path = true) (h : l ∈ f.lanes) (w : l ∈ f.work) (z : ZoneId) (s : State) :
    Touches f s (lockLane l z s) := by
  unfold lockLane
  simp only []
  split
  · exact (Touches.modLane h _).trans (closeSession_touches cs os pl p h w _ _)
  · exact .modLane h _

theorem moveLock_touches {l : LaneId} (h : l ∈ f.lanes) (z : ZoneId) (s : State) : Touches f s (moveLock l z s) := by
  unfold moveLock
  split
  · exact .modLane h _
  · exact .refl f s

/-! ### Envelopes -/

/-- A record that joins the envelope table, with its number and the claim it consumes (R5, R6, R112, R121). -/
theorem dropEnvelope_touches {l : LaneId} (h : l ∈ f.lanes) (c : f.counter = true) (n : s.issueNumber ∈ f.envelopes) :
    Touches f s (dropEnvelope l s) := by
  refine (Touches.modLane h fun r => { r with claim := false }).trans ?_
  constructor <;> simp [dropEnvelope, c, n, State.cassette, State.order, State.zone, State.lane, State.laneWork]

theorem removeEnvelope_touches {n : Nat} (h : n ∈ f.envelopes) (s : State) : Touches f s (removeEnvelope n s) := by
  constructor <;> simp [removeEnvelope, State.cassette, State.order, State.zone, State.lane, State.laneWork]
  refine List.filter_congr fun e _ => ?_
  by_cases he : e.capture = n
  · simp [he, h]
  · simp [he]

theorem takeEnvelope_touches {l : LaneId} (h : l ∈ f.lanes) (w : l ∈ f.work) (c : f.counter = true)
    (n : s.issueNumber ∈ f.envelopes) (e : EnvelopeReport) : Touches f s (takeEnvelope l e s) := by
  unfold takeEnvelope
  (repeat' split) <;> first
    | exact .modLane h _
    | exact .refl f s
    | exact dropEnvelope_touches h c n
    | exact driveDrawer_touches h w _ s

/-! ### The Alarm Unit -/

theorem stopDelay_touches (a : f.alarm = true) (z : ZoneId) (s : State) : Touches f s (stopDelay z s) :=
  .modAlarm a _

theorem lockdownPicking_touches (cs : ∀ c, c ∈ f.cassettes) (os : ∀ i, i ∈ f.orders) (pl : f.placement = true)
    (p : f.path = true) (s : State) : Touches f s (lockdownPicking s) := by
  unfold lockdownPicking
  split
  · exact .modPath p _
  · exact abortPicking_touches cs os pl p _ s
  · exact .refl f s

theorem lockdownLeveling_touches {c : CassetteId} (h : c ∈ f.cassettes) (b : f.bins = true) (p : f.path = true)
    (s : State) : Touches f s (lockdownLeveling c s) := by
  unfold lockdownLeveling
  split
  · split
    · exact .modPath p _
    · exact endLeveling_touches h b p s
  · exact .refl f s

theorem lockdownLane_touches {l : LaneId} (h : l ∈ f.lanes) (w : l ∈ f.work) (os : ∀ i, i ∈ f.orders) (s : State) :
    Touches f s (lockdownLane l s) :=
  (dumpStaged_touches os w _ s).trans (recallCause_touches h w os _ _)

/-- What lockdown may reach: the cassettes, the orders, the lanes with their work, the transport and the bins. -/
structure LockdownRoom (f : Footprint) : Prop where
  cassettes : ∀ c, c ∈ f.cassettes
  orders : ∀ i, i ∈ f.orders
  placement : f.placement = true
  lanes : ∀ l, l ∈ f.lanes
  work : ∀ l, l ∈ f.work
  path : f.path = true
  bins : f.bins = true
  alarm : f.alarm = true

theorem startLockdown_touches (r : LockdownRoom f) (s : State) : Touches f s (startLockdown s) :=
  (((((Touches.modAlarm r.alarm _).trans (.raise _)).trans
    (lockdownPicking_touches r.cassettes r.orders r.placement r.path _)).trans
    (closeShutters_touches r.cassettes r.path _)).trans
    (.forEach (fun c s => lockdownLeveling_touches (r.cassettes c) r.bins r.path s) _)).trans
    (.forEach (fun l s => lockdownLane_touches (r.lanes l) (r.work l) r.orders s) _)

theorem respond_touches (r : LockdownRoom f) (z : ZoneId) (stood : Bool) (s : State) :
    Touches f s (respond z stood s) := by
  unfold respond
  cases (s.zone z).response with
  | lockdown =>
    cases stood
    · exact startLockdown_touches r s
    · simp only [if_true]
      exact .modAlarm r.alarm _
  | laneLock =>
    simp only []
    split
    · exact lockLane_touches r.cassettes r.orders r.placement r.path (r.lanes _) (r.work _) z s
    · exact .refl f s
  | silent => exact .modAlarm r.alarm _
  | report => exact .refl f s

theorem latch_touches {z : ZoneId} (r : LockdownRoom f) (h : z ∈ f.zones) (t : f.trips = true) (s : State) :
    Touches f s (latch z s) :=
  ((((Touches.modZone h _).trans (stopDelay_touches r.alarm z _)).trans (.setTripList t _)).trans
    (respond_touches r z _ _)).trans (.raise _)

theorem activate_touches {z : ZoneId} (r : LockdownRoom f) (h : z ∈ f.zones) (t : f.trips = true) (s : State) :
    Touches f s (activate z s) := by
  unfold activate
  simp only []
  split
  · exact (Touches.modZone h _).trans (latch_touches r h t _)
  · exact ((Touches.modZone h _).trans (.modZone h _)).trans (.modAlarm r.alarm _)

theorem activateIfOpen_touches {z : ZoneId} (r : LockdownRoom f) (h : z ∈ f.zones) (t : f.trips = true) (s : State) :
    Touches f s (activateIfOpen z s) := by
  unfold activateIfOpen
  split
  · exact activate_touches r h t s
  · exact .refl f s

theorem leaveBypass_touches {z : ZoneId} (r : LockdownRoom f) (h : z ∈ f.zones) (t : f.trips = true)
    (g : ZoneId → Zone → Zone) (s : State) : Touches f s (leaveBypass g z s) := by
  unfold leaveBypass
  split
  · exact (Touches.modZone h _).trans (activateIfOpen_touches r h t _)
  · exact .modZone h _

theorem endService_touches (r : LockdownRoom f) (zs : ∀ z, z ∈ f.zones) (t : f.trips = true) (s : State) :
    Touches f s (endService s) :=
  ((Touches.modAlarm r.alarm _).trans (.forEach (fun z s => leaveBypass_touches r (zs z) t _ s) _)).trans
    (.forEach (fun z s => leaveBypass_touches r (zs z) t _ s) _)

theorem enterServiceZone_touches {z : ZoneId} (h : z ∈ f.zones) (a : f.alarm = true) (s : State) :
    Touches f s (enterServiceZone z s) := by
  unfold enterServiceZone
  split
  · exact (Touches.modZone h _).trans (stopDelay_touches a z _)
  · exact .refl f s

theorem releaseResponse_touches (ls : ∀ l, l ∈ f.lanes) (a : f.alarm = true) (z : ZoneId) (s : State) :
    Touches f s (releaseResponse z s) := by
  unfold releaseResponse
  (repeat' split) <;> first
    | exact (Touches.modAlarm a _).trans (.raise _)
    | exact .modAlarm a _
    | exact moveLock_touches (ls _) z s
    | exact .refl f s

theorem unlatch_touches {z : ZoneId} (h : z ∈ f.zones) (t : f.trips = true) (ls : ∀ l, l ∈ f.lanes)
    (a : f.alarm = true) (s : State) : Touches f s (unlatch z s) :=
  ((Touches.modZone h _).trans (.setTripList t _)).trans (releaseResponse_touches ls a z _)

/-! ### The frame out -/

/-- Byte 0 of the frame out is its status byte (R170). -/
@[simp] theorem FrameOut.byte_zero (o : FrameOut) : o.byte 0 = o.status := rfl

/-- The bytes between the status byte and the 65th are the result's, then filler (R170, R181). -/
theorem FrameOut.byte_succ (o : FrameOut) {k : Nat} (h : k < 63) : o.byte (k + 1) = o.payload.data.getD k filler := by
  simp [FrameOut.byte, h]

/-- Beyond the 64th byte the data out line carries filler (R169). -/
theorem FrameOut.byte_past (o : FrameOut) {k : Nat} (h : 64 ≤ k) : o.byte k = filler := by
  have z : k ≠ 0 := by omega
  have p : ¬ k < 64 := by omega
  simp [FrameOut.byte, z, p]

/-- While a command is processed and the part neither starts nor settles, every byte after the status byte is filler
(R170). -/
theorem frameOut_busy_byte (h : s.hushed = false) (b : s.port.processing.isSome = true) (k : Nat) :
    s.frameOut.byte (k + 1) = filler := by
  obtain ⟨r, hr⟩ := Option.isSome_iff_exists.mp b
  have e : s.frameOut.payload = .empty := by simp [State.frameOut, h, hr]
  by_cases p : k < 63
  · simp [FrameOut.byte_succ _ p, e, Payload.data]
  · exact FrameOut.byte_past _ (by omega)

/-- The result bytes of ORDER SCAN: the number of the handles, then the handles (R12). -/
theorem Payload.data_handles (l : List Byte) : (Payload.handles l).data = BitVec.ofNat 8 l.length :: l := rfl

/-- The result bytes of ENVELOPE SCAN: the number of the capture numbers, the more flag, then four bytes each (R13). -/
theorem Payload.data_captures (l : List Nat) (more : Bool) :
    (Payload.captures l more).data = BitVec.ofNat 8 l.length :: BitVec.ofNat 8 (weight more 1) :: l.flatMap byte4 := rfl

theorem flatMap_byte4_length (l : List Nat) : (l.flatMap byte4).length = 4 * l.length := by
  induction l with
  | nil => rfl
  | cons n l ih => simp only [List.flatMap_cons, List.length_append, ih, byte4, byte3, byte2, List.length_cons, List.length_nil]; omega

/-- Both scans fit into a frame: the table has twelve order slots, and ENVELOPE SCAN sends at most twelve numbers
(R12, R13, R181). -/
theorem scan_data_fits (s : State) :
    (Payload.handles s.markedOrders).data.length ≤ 63 ∧
    (Payload.captures (s.markedEnvelopes.take 12) (12 < s.markedEnvelopes.length)).data.length ≤ 63 := by
  constructor
  · have h := List.length_filter_le (fun i => (s.order i).any (·.mark)) (positions Config.orderCount)
    have n : (positions Config.orderCount).length = 12 := by simp [positions, Config.orderCount]
    simp only [Payload.data_handles, List.length_cons, State.markedOrders, List.length_map]
    omega
  · have h := List.length_take_le 12 s.markedEnvelopes
    simp only [Payload.data_captures, List.length_cons, flatMap_byte4_length]
    omega

/-- A result whose layout is free has at most 63 bytes (R181, log entry 24). -/
theorem Payload.data_free_fits (p : Payload) (b : ∀ d, p ≠ .bytes d) (h : ∀ l, p ≠ .handles l)
    (c : ∀ l m, p ≠ .captures l m) : p.data.length ≤ 63 := by
  cases p <;> first | exact List.length_take_le _ _ | exact Nat.zero_le _ | exact absurd rfl (b _) | exact absurd rfl (h _) |
    exact absurd rfl (c _ _)

/-! ### The sessions that complete -/

/-- The test that ends a CLOSING session is that the lane is at rest (R104). -/
theorem State.laneAtRest_iff (s : State) (l : LaneId) : s.laneAtRest l = true ↔ AtRest s l := by
  simp [State.laneAtRest, AtRest, State.anyOrder, tableAny_false_iff, State.order, and_assoc]

/-- The session of one lane decides nothing about the rest of any. -/
theorem State.laneAtRest_modSession (s : State) (l k : LaneId) (v : Session) :
    (s.modLane l fun r => { r with session := v }).laneAtRest k = s.laneAtRest k := by
  by_cases h : l = k
  · subst h; simp [State.laneAtRest, State.anyOrder]
  · simp [State.laneAtRest, State.anyOrder, State.modLane_lane, h]

/-- A lane after its session has been completed, if it is at rest. -/
def Lane.completed (r : Lane) (rests : Bool) : Lane :=
  match r.session with
  | .closing _ => if rests then { r with session := .closed } else r
  | .closed | .opened => r

/-- What the completion of sessions makes of a lane: nothing is changed but a CLOSING session of a lane at rest, and
none of the lanes waits for another (R104). -/
theorem completeSessions_lane_eq (l : LaneId) (s : State) :
    (completeSessions s).lane l = (s.lane l).completed (s.laneAtRest l) := by
  have h := forEach_at (fun s : State => (s.lane l, s.laneAtRest l)) completeSession l
    (fun p => (p.1.completed p.2, p.2))
    (fun j s h => by
      unfold completeSession
      (repeat' split) <;> simp [State.modLane_lane, State.laneAtRest_modSession, h])
    (fun s => by
      unfold completeSession Lane.completed
      (repeat' split) <;> simp_all [State.laneAtRest_modSession]) s
  exact congrArg Prod.fst h

/-- The completion of sessions closes the sessions of the lanes at rest, but for those OPEN, and no other (R104). -/
theorem completeSessions_settles (l : LaneId) (s : State) :
    ((s.lane l).session ≠ .opened ∧ AtRest s l → ((completeSessions s).lane l).session = .closed) ∧
    (¬((s.lane l).session ≠ .opened ∧ AtRest s l) → ((completeSessions s).lane l).session = (s.lane l).session) := by
  rw [completeSessions_lane_eq, ← State.laneAtRest_iff]
  unfold Lane.completed
  cases e : (s.lane l).session <;> cases h : s.laneAtRest l <;> simp [e]

/-! ### A recall cause at a drawer -/

/-- What a recall cause makes of the lane record: an OPEN drawer goes RETRACTING, and all else stands (R103, R117). -/
theorem recallCause_lane_eq (l : LaneId) (c : RecallCause) (s : State) :
    (recallCause l c s).lane l = { s.lane l with drawer := (s.lane l).drawer.recalled } := by
  have same (d : Drawer) (h : (s.lane l).drawer = d) : s.lane l = { s.lane l with drawer := d } := by rw [← h]
  unfold recallCause recallDrawer driveDrawer pendRecall
  cases h : (s.lane l).drawer <;> simp [Drawer.recalled]
  case opened => split <;> simp
  all_goals exact same _ h

/-- What a recall cause makes of the lane's working state (R103, R106, R108, R117). -/
theorem recallCause_laneWork_eq (l : LaneId) (c : RecallCause) (s : State) :
    (recallCause l c s).laneWork l = (s.laneWork l).recalled (s.lane l).drawer c := by
  unfold recallCause recallDrawer driveDrawer pendRecall
  cases h : (s.lane l).drawer <;> simp [LaneWork.recalled]
  · cases p : (s.laneWork l).pendingRecall with
    | none => simp
    | some q => cases q <;> simp <;> rw [← p]
  · split <;> simp [drawerTravelLimit]

end Sys2Proof.Machine
end

