-- ==== Sys2Proof/Tests/Slice0.lean ====
section
/-! SUPPORT. Tests: the well-formedness checks, the codes, the worked cases of the manual on single steps, and for every
statement with hypotheses a state and operands that meet them. Expected results are the manual's own figures. -/

namespace Sys2Proof.Tests

open Sys2Proof Sys2Proof.Machine

-- One theorem after the other: each evaluates in the kernel, and side by side they would ask for a thread each.
set_option Elab.async false

/-! ### States to test on -/

/-- The state a command answers. -/
def after (c : Instr) (s : State) : State :=
  match exec c s with
  | .next t => t
  | .fault _ => s
  | .refused _ => s

/-- A READY cassette. -/
def cassette (value current reserved : Nat) : Cassette :=
  { Cassette.fresh true with
    state := .ready, value := value, loaded := current, current := current, reserved := reserved, reference := 300,
    mark := false }

/-- The part ACTIVE and at rest, every bin COUNTED, its cassettes those of Case A of section 3.6. -/
def ready : State :=
  { State.reset with
    sup := { Supervisor.fresh with mode := .active, rails := true, phase := none, phaseTimer := none }
    custody := { State.reset.custody with
      retention := .kept
      bins := { retractCount := 0, retractCounted := true, rejectCount := 0, rejectCounted := true,
                captureCounted := true, unexpected := 0 }
      cassettes := #v[cassette 100 130 95, cassette 50 12 5, cassette 20 45 0, cassette 20 10 0,
                      { cassette 10 0 0 with state := .empty }, cassette 5 105 0] } }

/-- An order with notes of cassettes 1 and 2, one of them accepted. -/
def anOrder (l : LaneId) (st : OrderState) : Order :=
  { lane := l, amount := 340, hold := false, caps := []
    mix := [{ slot := 0, value := 100, count := 3, accepted := 1 }, { slot := 2, value := 20, count := 2, accepted := 0 }]
    state := st, reason := none, rejectItems := 0, rejectNotes := 0, presented := 0, taken := 0, retracted := 0
    recovered := 0, unresolved := 0, holdDeadline := none, presentDeadline := none, mark := false }

/-- An order in PICKING without an accepted note, with rejects counted. -/
def unpicked (rejects : Nat) : Order :=
  { anOrder 1 .picking with
    rejectItems := rejects
    mix := [{ slot := 0, value := 100, count := 3, accepted := 0 }, { slot := 2, value := 20, count := 2, accepted := 0 }] }

/-- The first entry of that order's mix. -/
def firstEntry : MixEntry := { slot := 0, value := 100, count := 3, accepted := 1 }

/-- An order in a slot with a tag. -/
def withOrder (i : OrderSlot) (tag : BitVec 4) (o : Order) (s : State) : State :=
  { s.setOrder i (some o) with custody := { (s.setOrder i (some o)).custody with
      tags := tableSet s.custody.tags i tag
      placement := if o.state.terminal then s.custody.placement else s.custody.placement ++ [i] } }

/-- Every slot of the order table allocated. -/
def fullTable (s : State) : State :=
  { s with custody := { s.custody with orders := Vector.replicate _ (some (anOrder 0 .failed)) } }

/-- An envelope record. -/
def anEnvelope (n : Nat) (l : LaneId) (st : EnvelopeState) : Envelope :=
  { capture := n, lane := l, state := st, binPosition := none, acceptedAt := 0, declared := none, reference := none
    mark := false }

/-- A state with an envelope table. -/
def withEnvelopes (l : List Envelope) (s : State) : State :=
  { s with custody := { s.custody with envelopes := l, captureCounter := 100 } }

/-- A leveling session that holds the transport. -/
def levelingAt (c : CassetteId) (v : Leveling) (s : State) : State :=
  (s.modCassette c fun r => { r with state := .leveling, value := 20, leveling := some v, shutter := .opened }).modPath
    fun p => { p with
      state := .leveling, holder := some (.leveling c), heldReading := some 230, levelingIdle := some 0
      attempt := some { left := 100, last := false, noMiss := false } }

/-- An order that is being picked from cassette 1, with an attempt in flight. -/
def picking (i : OrderSlot) (o : Order) (s : State) : State :=
  ((withOrder i 2 o s).modCassette 0 fun r => { r with shutter := .opened }).modPath fun p => { p with
    state := .picking, holder := some (.order i), entry := some 0, misses := 0
    attempt := some { left := 100, last := false, noMiss := false } }

/-- A HELD order in slot 4, and just its notes reserved. -/
def promised : State :=
  withOrder 3 2 (anOrder 1 .held) { ready with custody := { ready.custody with
      cassettes := tableMap (fun c r => { r with reserved := (anOrder 1 .held).need c }) ready.custody.cassettes } }

/-- A watch slot configured. -/
def watching (k : WatchId) (w : WatchSlot) (s : State) : State :=
  { s with watch := { s.watch with slots := tableSet s.watch.slots k w } }

/-- The mix of Case A. -/
def mixOf385 : List MixEntry := (ready.findMix 385 []).getD []

/-! ### Well-formed commands -/

/-- A command carries at most 63 bytes (R169). -/
theorem test_wf_refuses_64_bytes : (Instr.sessionOpen (List.replicate 64 0)).wf = false := by decide
theorem test_wf_takes_63_bytes : (Instr.sessionOpen (List.replicate 63 0)).wf = true := by decide
/-- The unknown command has a code that names no command (R171). -/
theorem test_wf_refuses_a_listed_unknown_code : (Instr.unknownCommand 0x40 []).wf = false := by decide
theorem test_wf_refuses_64_bytes_of_an_unknown : (Instr.unknownCommand 0x7F (List.replicate 64 0)).wf = false := by decide

/-! ### Codes (section 10.7), one for each family -/

theorem test_frame_noop : decodeFrame [0x01] = some (.noop []) := by decide
theorem test_frame_config_set : decodeFrame [0x08, 5, 0, 3] = some (.configSet [5, 0, 3]) := by decide
theorem test_frame_quiet_enter : decodeFrame [0x0A] = some (.quietEnter []) := by decide
theorem test_frame_cassette_load : decodeFrame [0x12, 1, 0, 100, 1, 224] = some (.cassetteLoad [1, 0, 100, 1, 224]) := by decide
theorem test_frame_order_place : decodeFrame [0x20, 1, 1, 129, 0, 0] = some (.orderPlace [1, 1, 129, 0, 0]) := by decide
theorem test_frame_envelope_read : decodeFrame [0x30, 0, 0, 0, 7] = some (.envelopeRead [0, 0, 0, 7]) := by decide
theorem test_frame_session_open : decodeFrame [0x40, 2] = some (.sessionOpen [2]) := by decide
theorem test_frame_transport_clear : decodeFrame [0x51] = some (.transportClear []) := by decide
theorem test_frame_arm : decodeFrame [0x63, 1] = some (.arm [1]) := by decide
theorem test_frame_refusal_read : decodeFrame [0x73] = some (.refusalRead []) := by decide
theorem test_frame_unknown : decodeFrame [0x37, 9] = some (.unknownCommand 0x37 [9]) := by decide
theorem test_no_bits_in_the_table : decodeTableWord 8 0x40 = none := by decide

/-! ### The mix (section 3.6) -/

/-- The counts of a mix list, by cassette slot from 1. -/
def counts (m : Option (List MixEntry)) : Option (List (Nat × Nat)) := m.map (·.map fun e => (e.slot.val + 1, e.count))

/-- A state whose READY cassettes hold just these values and availabilities, with no guard. -/
def only (l : List (CassetteId × Nat × Nat)) : State :=
  { ready with custody := { ready.custody with
      cassettes := l.foldl (fun t x => tableSet t x.1 { cassette x.2.1 x.2.2 0 with guard := 0 })
        (Vector.replicate _ (Cassette.fresh false)) } }

theorem test_mix_case_a : counts (ready.findMix 385 []) = some [(1, 3), (2, 1), (3, 1), (6, 3)] := by decide +kernel
theorem test_mix_case_c :
    counts ((ready.modCassette 5 fun r => { r with state := .empty, current := 0 }).findMix 60 [{ value := 100, cap := 0 }]) =
      some [(3, 3)] := by decide +kernel
theorem test_mix_case_d :
    counts (ready.findMix 160 [{ value := 100, cap := 0 }, { value := 20, cap := 2 }]) = some [(2, 2), (3, 2), (6, 4)] := by
  decide +kernel
theorem test_mix_case_e : counts ((only [(1, 50, 5), (2, 20, 4)]).findMix 130 []) = some [(2, 1), (3, 4)] := by
  decide +kernel
theorem test_mix_case_e_limit :
    searchMix [{ slot := 1, value := 50, available := 5 }, { slot := 2, value := 20, available := 4 }] 130 4 [] = none := by
  decide +kernel
theorem test_mix_case_f : counts ((only [(5, 5, 100)]).findMix 200 []) = some [(6, 40)] := by decide +kernel
theorem test_mix_case_f_refused : (only [(5, 5, 100)]).findMix 205 [] = none := by decide +kernel
theorem test_mix_case_g : counts ((only [(2, 20, 5), (3, 20, 5)]).findMix 140 []) = some [(3, 5), (4, 2)] := by
  decide +kernel
theorem test_mix_case_g_fuller : counts ((only [(2, 20, 5), (3, 20, 6)]).findMix 140 []) = some [(3, 1), (4, 6)] ∨
    counts ((only [(2, 20, 5), (3, 20, 6)]).findMix 140 []) = some [(4, 6), (3, 1)] := by decide +kernel

/-! ### Classification (R25): reference 400 -/

theorem test_thin_below_half : classify 199 400 = .thin := by decide
theorem test_single_from_half : classify 200 400 = .single := by decide
theorem test_single_below_one_and_a_half : classify 599 400 = .single := by decide
theorem test_double_from_one_and_a_half : classify 600 400 = .double := by decide
theorem test_multiple_from_two_and_a_half : classify 1000 400 = .multiple := by decide
theorem test_saturated_is_multiple : classify 1023 960 = .multiple := by decide

/-! ### Numbers -/

/-- The counter wraps to 1 and passes over live numbers (R6). -/
theorem test_capture_wraps : nextCapture 4294967295 = 1 := by decide
theorem test_capture_passes_live :
    (({ withEnvelopes [anEnvelope 4294967295 0 .strayed, anEnvelope 1 0 .strayed] ready with custody :=
        { (withEnvelopes [anEnvelope 4294967295 0 .strayed, anEnvelope 1 0 .strayed] ready).custody with
          captureCounter := 4294967295 } } : State)).issueNumber = 2 := by decide +kernel
/-- Slot 1 with tag 1 has the handle 0x11 (section 1.2). -/
theorem test_handle : (withOrder 0 1 (anOrder 0 .held) ready).handle 0 = 0x11 := by decide +kernel
/-- BUSY is bit 7, ATTENTION bit 6, the code the rest (section 10.7). -/
theorem test_status_byte : FrameOut.status { busy := true, attention := true, code := 10, payload := .empty } = 0xCA := by
  decide

/-- Frame 6 of the worked sequence of Chapter 10 shows ATTENTION, OK and the flags 0x01; filler follows (R170, R181). -/
theorem test_frame_out_with_a_result :
    FrameOut.dataOut { busy := false, attention := true, code := 0, payload := .bytes [1] } 4 = [0x40, 1, 0, 0] := by decide
/-- Under BUSY every byte after the status byte is filler (R170): the frame out of the worked sequence's frame 2. -/
theorem test_frame_out_under_busy :
    (ready.modPort fun p => { p with processing := some okEmpty, buffer := some { code := .ok, payload := .bytes [7] } }).frameOut.dataOut 3
      = [0xBF, 0, 0] := by decide +kernel
/-- The data out line carries filler beyond the 64th byte (R169). -/
theorem test_frame_out_past_64_bytes :
    FrameOut.byte { busy := false, attention := false, code := 0, payload := .bytes (List.replicate 70 0xFF) } 63 = 0xFF ∧
    FrameOut.byte { busy := false, attention := false, code := 0, payload := .bytes (List.replicate 70 0xFF) } 64 = 0 := by
  decide

/-- The number of the handles stands before them: Event 4 of the worked sequence of Chapter 1 (R12). -/
theorem test_scan_of_one_order : (Payload.handles [0x51]).data = [1, 0x51] := by decide
/-- The number, the more flag, and each capture number most significant byte first (R13). -/
theorem test_scan_of_two_envelopes : (Payload.captures [7, 258] false).data = [2, 0, 0, 0, 0, 7, 0, 0, 1, 2] := by decide

/-! ### Single steps -/

theorem test_reset_takes_no_frame : after (.sessionOpen [1]) State.reset = State.reset := by decide +kernel
theorem test_session_opens : ((after (.sessionOpen [2]) ready).lane 1).session = .opened := by decide +kernel
theorem test_place_without_session : (after (.orderPlace [1, 1, 129, 0, 0]) ready).result = some .noSession := by
  decide +kernel
theorem test_place_reserves :
    ((after (.orderPlace [1, 1, 129, 0, 0]) (ready.modLane 0 fun r => { r with session := .opened })).cassette 0).reserved = 98 := by
  decide +kernel
theorem test_short_frame : (after (.cassetteLoad [1, 0, 100]) ready).result = some .frameLength := by decide +kernel
theorem test_load_needs_service : (after (.cassetteLoad [1, 0, 100, 1, 224]) ready).result = some .notService := by
  decide +kernel
theorem test_silent_zone_latches :
    ((after (.zoneInputReport 7 .active) ready).alarm.silent, (after (.zoneInputReport 7 .active) ready).custody.tripList) =
      (true, [7]) := by decide +kernel
theorem test_third_miss_writes_off :
    ((after .pickWindowExpiry ((picking 3 (anOrder 1 .picking) ready).modPath fun p => { p with misses := 2 })).cassette 0).writtenOff
      = 130 := by decide +kernel
theorem test_quiet_at_once : (after (.quietEnter []) ready).sup.mode = .quiet := by decide +kernel
theorem test_reset_line_starts : (after .resetLine ready).sup.phase = some .settle := by decide +kernel

/-- All service bypasses end before the first manual bypass (R157, R158): zone 10 trips before zone 4. -/
theorem test_key_drop_ends_bypasses_in_two_steps :
    (after (.keyLineReport false) (((ready.modAlarm fun a => { a with service := true }).modZone 9 fun z => { z with
        state := .bypassed, input := .active }).modZone 3 fun z => { z with
          state := .bypassed, manualBypass := true, input := .active })).custody.tripList = [9, 3] := by decide +kernel
/-- SERVICE ENTER reopens the shutter of a session in HOLDING (R84). -/
theorem test_service_enter_reopens_in_holding :
    ((after (.serviceEnter []) ((levelingAt 4 { phase := .holding, trials := 0, lastTrial := none } ready).modAlarm fun a =>
        { a with key := true })).cassette 4).shutter = .opening := by decide +kernel
/-- A shutter that SERVICE ENTER did not close is left to finish (R35, R84). -/
theorem test_service_enter_leaves_a_closing_shutter :
    ((after (.serviceEnter []) (((levelingAt 4 { phase := .fetching, trials := 0, lastTrial := none } ready).modCassette 4
        fun r => { r with shutter := .closing }).modAlarm fun a => { a with key := true })).cassette 4).shutter = .closing := by
  decide +kernel
/-- A note held at the gauge still stands there after the reset line (R41). -/
theorem test_reset_line_leaves_the_held_note :
    (after .resetLine (levelingAt 4 { phase := .holding, trials := 0, lastTrial := none } ready)).levels.gaugeNote = true := by
  decide +kernel
/-- A lockdown that stood as retention was lost ends with ALARM, which the port holds (R154, R176). -/
theorem test_lost_retention_ends_lockdown_with_alarm :
    (after (.settleExpiry FieldLevels.unreported) (restart (ready.modZone 9 fun z => { z with state := .latched }))).port.heldNotices
      &&& Notice.alarm.bit = Notice.alarm.bit := by decide +kernel

/-! ### The hypotheses of the statements are met -/


theorem test_meets_StepRunsTheFrontCommand :
    (∃ (c : Instr) (s : State),
      s.pending = [] ∧ s.dueEvent = some c) ∧
    (∃ (s : State),
      s.pending = [] ∧ s.dueEvent = none) ∧
    (∃ (c : Instr) (s : State),
      s.dueEvent = some c) ∧
    (∃ (c : Instr) (s : State),
      s.ripe c) :=
  ⟨⟨.resultWritten, ready.modPort fun p => { p with processing := some okEmpty }, by decide +kernel⟩,
   ⟨ready, by decide +kernel⟩,
   ⟨.resultWritten, ready.modPort fun p => { p with processing := some okEmpty }, by decide +kernel⟩,
   ⟨(.shutterTravelEnd 3), (ready.modPath fun p => { p with
       shutterTravel := tableSet p.shutterTravel 3 (some 0) }).modCassette 3 fun r => { r with
         shutter := .closing }, by unfold State.ripe State.blockRipe; decide +kernel⟩⟩

theorem test_meets_WatchesRecordTheirHits :
    (∃ (c : Instr) (k : WatchId) (r : RecordRef) (s : State),
      c.wf = true ∧ s.heeds = true ∧ CaptureLaw s) ∧
    (∃ (c : Instr) (k : WatchId) (s : State),
      c.wf = true ∧ s.heeds = true ∧ CaptureLaw s ∧ writesWatches c = false) ∧
    (∃ (c : Instr) (k : WatchId) (s : State),
      c.wf = true ∧ s.heeds = true ∧ writesWatches c = false) :=
  ⟨⟨(.laneRead [3]), 1, (.lane 2), watching 1 { WatchSlot.fresh with
      enable := true, kind := .lane, first := 3, trigger := .access } ready, by decide +kernel, by decide +kernel, by unfold CaptureLaw; decide +kernel⟩,
   ⟨(.laneRead [4]), 1, watching 1 { WatchSlot.fresh with
       enable := true, kind := .lane, first := 3, trigger := .access } ready, by decide +kernel, by decide +kernel, by unfold CaptureLaw; decide +kernel, by decide +kernel⟩,
   ⟨(.sessionClose [3]), 1, watching 1 { WatchSlot.fresh with
       enable := true, kind := .lane, first := 3, scope := some 2 } (ready.modLane 2 fun r => { r with
         session := .opened }), by decide +kernel⟩⟩

theorem test_meets_FramesNotTakenChangeNothing :
    (∃ (i : Instr) (s : State),
      i.wf = true ∧ (encodeFrame i).isSome = true ∧ s.hushed = true) ∧
    (∃ (i : Instr) (code : Byte) (ps : List Byte) (s : State),
      i.wf = true ∧ encodeFrame i = some (code :: ps) ∧ code ≠ 0x01 ∧ s.hushed = false ∧ s.sawBusy = true) ∧
    (∃ (s : State),
      s.hushed = false ∧ s.overruns = true) :=
  ⟨⟨(.sessionOpen [1]), State.reset, by decide +kernel⟩,
   ⟨(.sessionOpen [1]), 0x40, [1], ready.modPort fun p => { p with
       frame := some { busy := true, attention := false, code := 63, payload := .empty } }, by decide +kernel⟩,
   ⟨ready.modPort fun p => { p with
       frame := some { busy := true, attention := false, code := 63, payload := .empty } }, by decide +kernel⟩⟩

theorem test_meets_MalformedFramesAreRefused :
    (∃ (i : Instr) (code : Byte) (ps : List Byte) (s : State),
      i.wf = true ∧ encodeFrame i = some (code :: ps) ∧ code ≠ 0x01 ∧ listedCode code = true ∧ s.takes = true ∧
        ps.length < requiredBytes code ps) ∧
    (∃ (code : Byte) (ps : List Byte) (s : State),
      listedCode code = false ∧ s.takes = true) :=
  ⟨⟨(.orderPlace [1, 0, 100, 0, 2, 0, 100, 3]), 0x20, [1, 0, 100, 0, 2, 0, 100, 3], ready, by decide +kernel⟩,
   ⟨0x7F, [9], ready, by decide +kernel⟩⟩

theorem test_meets_RefusedCommandsChangeNoRecord :
    (∃ (i : Instr) (code : Byte) (ps : List Byte) (s : State),
      i.wf = true ∧ encodeFrame i = some (code :: ps) ∧ code ≠ 0x01 ∧ s.takes = true) :=
  ⟨(.sessionClose [1]), 0x41, [1], ready, by decide +kernel⟩

theorem test_meets_ReleaseWriteAndAssertionOfAFrame :
    (∃ (r : Result) (s : State),
      s.port.processing = some r) ∧
    (∃ (s : State),
      s.hushed = true) ∧
    (∃ (s : State),
      s.hushed = false ∧ s.port.processing.isSome = true) ∧
    (∃ (r : Result) (s : State),
      s.hushed = false ∧ s.port.processing = none ∧ s.port.buffer = some r) ∧
    (∃ (s : State),
      s.hushed = false ∧ s.port.processing = none ∧ s.port.buffer = none) ∧
    (∃ (f : FrameOut) (k : Nat),
      1 ≤ k ∧ k ≤ 63) ∧
    (∃ (f : FrameOut) (k : Nat),
      64 ≤ k) :=
  ⟨⟨okEmpty, ready.modPort fun p => { p with processing := some okEmpty }, by decide +kernel⟩,
   ⟨State.reset, by decide +kernel⟩,
   ⟨ready.modPort fun p => { p with processing := some okEmpty }, by decide +kernel⟩,
   ⟨okEmpty, ready.modPort fun p => { p with processing := none, buffer := some okEmpty }, by decide +kernel⟩,
   ⟨ready.modPort fun p => { p with processing := none, buffer := none }, by decide +kernel⟩,
   ⟨{ busy := false, attention := false, code := 0, payload := .bytes [1] }, 1, by decide +kernel⟩,
   ⟨{ busy := false, attention := false, code := 0, payload := .bytes [1] }, 64, by decide +kernel⟩⟩

theorem test_meets_ReadsOfTheWholeChangeNothing :
    (∃ (ps : List Byte) (s : State),
      s.takes = true ∧ carries 0 ps = true) ∧
    (∃ (ps : List Byte) (s : State),
      s.takes = true ∧ carries 0 ps = true) ∧
    (∃ (ps : List Byte) (s : State),
      s.takes = true ∧ carries 0 ps = true) ∧
    (∃ (ps : List Byte) (s : State),
      s.takes = true ∧ carries 0 ps = true) ∧
    (∃ (ps : List Byte) (s : State),
      s.takes = true ∧ carries 0 ps = true) ∧
    (∃ (ps : List Byte) (s : State),
      s.takes = true ∧ carries 0 ps = true) ∧
    (∃ (ps : List Byte) (s : State),
      s.takes = true ∧ carries 0 ps = true) ∧
    (∃ (ps : List Byte) (s : State),
      s.takes = true ∧ carries 0 ps = true) ∧
    (∃ (ps : List Byte) (s : State),
      s.takes = true ∧ carries 0 ps = true) ∧
    (∃ (ps : List Byte) (s : State),
      s.takes = true ∧ carries 0 ps = true) ∧
    (∃ (ps : List Byte) (s : State),
      s.takes = true ∧ carries 0 ps = true) ∧
    (∃ (ps : List Byte) (s : State),
      s.takes = true ∧ carries 0 ps = true) :=
  ⟨⟨[], ready, by decide +kernel⟩,
   ⟨[], ready, by decide +kernel⟩,
   ⟨[], ready, by decide +kernel⟩,
   ⟨[], ready, by decide +kernel⟩,
   ⟨[], ready, by decide +kernel⟩,
   ⟨[], ready, by decide +kernel⟩,
   ⟨[], ready, by decide +kernel⟩,
   ⟨[], ready, by decide +kernel⟩,
   ⟨[], ready, by decide +kernel⟩,
   ⟨[], ready, by decide +kernel⟩,
   ⟨[], ready, by decide +kernel⟩,
   ⟨[], ready, by decide +kernel⟩⟩

theorem test_meets_RecordReadsClearTheMark :
    (∃ (ps : List Byte) (c : CassetteId) (s : State),
      s.takes = true ∧ carries 1 ps = true ∧ cassetteOf (byteAt ps 0) = some c) ∧
    (∃ (ps : List Byte) (i : OrderSlot) (o : Order) (s : State),
      s.takes = true ∧ carries 1 ps = true ∧ handleSlot (byteAt ps 0) = some i ∧ s.order i = some o ∧
        handleTag (byteAt ps 0) = s.custody.tags.get i) ∧
    (∃ (ps : List Byte) (e : Envelope) (s : State),
      s.takes = true ∧ carries 4 ps = true ∧ word4 ps 0 ≠ 0 ∧ s.envelope (word4 ps 0) = some e) ∧
    (∃ (ps : List Byte) (z : ZoneId) (s : State),
      s.takes = true ∧ carries 1 ps = true ∧ zoneOf (byteAt ps 0) = some z) ∧
    (∃ (ps : List Byte) (l : LaneId) (s : State),
      s.takes = true ∧ carries 1 ps = true ∧ laneOf (byteAt ps 0) = some l) ∧
    (∃ (c : CassetteId) (r : Cassette),
      r.state ≠ .leveling) ∧
    (∃ (c : CassetteId) (r : Cassette) (v : Leveling),
      r.state = .leveling ∧ r.leveling = some v) ∧
    (∃ (o : Order) (handle : Byte) (clock x : Nat),
      (x = if o.state = .held then o.holdDeadline.getD 4294967295 else if o.state = .presented then o.presentDeadline.getD 4294967295 else 4294967295) ∧ x < 4294967296 ∧ clock < 4294967296) ∧
    (∃ (e : Envelope) (clock : Nat) (list : List Nat),
      e.acceptedAt < 4294967296 ∧ clock < 4294967296) :=
  ⟨⟨[3], 2, ready.modCassette 2 fun r => { r with mark := true }, by decide +kernel⟩,
   ⟨[0x51], 0, (anOrder 1 .staged), withOrder 0 5 (anOrder 1 .staged) ready, by decide +kernel⟩,
   ⟨[0, 0, 0, 7], (anEnvelope 7 1 .strayed), withEnvelopes [anEnvelope 7 1 .strayed] ready, by decide +kernel⟩,
   ⟨[16], 15, ready, by decide +kernel⟩,
   ⟨[4], 3, ready, by decide +kernel⟩,
   ⟨2, (Cassette.fresh true), by decide +kernel⟩,
   ⟨2, { Cassette.fresh true with
       state := .leveling, leveling := some { phase := .holding, trials := 1, lastTrial := some (500, true) } }, {
         phase := .holding, trials := 1, lastTrial := some (500, true) }, by decide +kernel⟩,
   ⟨(anOrder 1 .staged), 0x51, 7, 4294967295, by decide +kernel⟩,
   ⟨(anEnvelope 7 1 .strayed), 9, [7], by decide +kernel⟩⟩

theorem test_meets_WriteBackClearsDropWhatTheValueNames :
    (∃ (ps : List Byte) (s : State),
      s.takes = true ∧ carries 1 ps = true ∧ byteAt ps 0 ≤ 7) ∧
    (∃ (ps : List Byte) (s : State),
      s.takes = true ∧ carries 1 ps = true ∧ 7 < byteAt ps 0) ∧
    (∃ (ps : List Byte) (s : State),
      s.takes = true ∧ carries 2 ps = true ∧ word2 ps 0 ≤ 1023) ∧
    (∃ (ps : List Byte) (s : State),
      s.takes = true ∧ carries 2 ps = true ∧ 1023 < word2 ps 0) ∧
    (∃ (ps : List Byte) (s : State),
      s.takes = true ∧ carries 1 ps = true ∧ byteAt ps 0 ≤ 15) ∧
    (∃ (ps : List Byte) (s : State),
      s.takes = true ∧ carries 1 ps = true ∧ 15 < byteAt ps 0) :=
  ⟨⟨[5], ready.modPort fun p => { p with linkStatus := 7 }, by decide +kernel⟩,
   ⟨[8], ready, by decide +kernel⟩,
   ⟨[3, 255], ready.modPort fun p => { p with notices := 0x204 }, by decide +kernel⟩,
   ⟨[4, 0], ready, by decide +kernel⟩,
   ⟨[15], ready, by decide +kernel⟩,
   ⟨[16], ready, by decide +kernel⟩⟩

theorem test_meets_RefusalReadReturnsAndZeroesTheCount :
    (∃ (ps : List Byte) (s : State),
      s.takes = true ∧ carries 0 ps = true) :=
  ⟨[], { ready with
      watch := { ready.watch with
        refused := some { code := 0x21, param := 0x63, result := .stale }, refusals := 2 } }, by decide +kernel⟩

theorem test_meets_ConfigSetBringsItemsIntoRange :
    (∃ (ps : List Byte) (i : ConfigItem) (s : State),
      s.takes = true ∧ carries 3 ps = true ∧ itemOf (byteAt ps 0) = some i ∧ i ≠ .enables ∧
        (i = .noteLimit ∨ i = .maxRejects → s.anyOrder (fun o => !o.state.terminal) = false)) ∧
    (∃ (ps : List Byte) (s : State),
      s.takes = true ∧ carries 3 ps = true ∧ byteAt ps 0 = 6 ∧ word2 ps 1 ≤ 1023) ∧
    (∃ (ps : List Byte) (s : State),
      s.takes = true ∧ carries 3 ps = true ∧ (itemOf (byteAt ps 0) = none ∨ (byteAt ps 0 = 6 ∧ 1023 < word2 ps 1))) ∧
    (∃ (ps : List Byte) (s : State),
      s.takes = true ∧ carries 3 ps = true ∧ (byteAt ps 0 = 4 ∨ byteAt ps 0 = 5) ∧
        s.anyOrder (fun o => !o.state.terminal) = true) :=
  ⟨⟨[5, 0, 99], .maxRejects, ready, by decide +kernel⟩,
   ⟨[6, 1, 0], ready, by decide +kernel⟩,
   ⟨[7, 0, 1], ready, by decide +kernel⟩,
   ⟨[4, 0, 1], withOrder 0 1 (anOrder 0 .held) ready, by decide +kernel⟩⟩

theorem test_meets_WatchSetWritesTheSlot :
    (∃ (ps : List Byte) (i : WatchId) (e : Bool) (k : RecordKind) (n : Nat) (g : Trigger) (sc : Option LaneId) (s : State),
      s.takes = true ∧ carries 12 ps = true ∧ watchOf (byteAt ps 0) = some i ∧ flagOf (byteAt ps 1) = some e ∧
        kindOf (byteAt ps 2) = some k ∧ spanOf (byteAt ps 7) = some n ∧ triggerOf (byteAt ps 8) = some g ∧
        scopeOf (byteAt ps 11) = some sc ∧ within 1 k.top (word4 ps 3) = true ∧ (word4 ps 3 - 1) % n = 0 ∧
        (g = .countBelow → k = .cassette ∧ within 1 2500 (word2 ps 9) = true) ∧
        (g = .retire → k = .order ∨ k = .envelope) ∧ (sc.isSome = true → k ≠ .cassette ∧ k ≠ .zone) ∧
        (e = true → s.scopeOpen sc = true)) ∧
    (∃ (ps : List Byte) (i : WatchId) (e : Bool) (k : RecordKind) (n : Nat) (g : Trigger) (sc : Option LaneId) (s : State),
      s.takes = true ∧ carries 12 ps = true ∧ watchOf (byteAt ps 0) = some i ∧ flagOf (byteAt ps 1) = some e ∧
        kindOf (byteAt ps 2) = some k ∧ spanOf (byteAt ps 7) = some n ∧ triggerOf (byteAt ps 8) = some g ∧
        scopeOf (byteAt ps 11) = some sc ∧ within 1 k.top (word4 ps 3) = true ∧ (word4 ps 3 - 1) % n = 0 ∧
        (g = .countBelow → k = .cassette ∧ within 1 2500 (word2 ps 9) = true) ∧
        (g = .retire → k = .order ∨ k = .envelope) ∧ (sc.isSome = true → k ≠ .cassette ∧ k ≠ .zone) ∧ e = true ∧
        s.scopeOpen sc = false) ∧
    (∃ (ps : List Byte) (i : WatchId) (e : Bool) (k : RecordKind) (n : Nat) (g : Trigger) (sc : Option LaneId) (s : State),
      s.takes = true ∧ carries 12 ps = true ∧ watchOf (byteAt ps 0) = some i ∧ flagOf (byteAt ps 1) = some e ∧
        kindOf (byteAt ps 2) = some k ∧ spanOf (byteAt ps 7) = some n ∧ triggerOf (byteAt ps 8) = some g ∧
        scopeOf (byteAt ps 11) = some sc ∧ (within 1 k.top (word4 ps 3) = false ∨ (word4 ps 3 - 1) % n ≠ 0 ∨
          (g = .countBelow ∧ (k ≠ .cassette ∨ within 1 2500 (word2 ps 9) = false)) ∨ (g = .retire ∧ k ≠ .order ∧
            k ≠ .envelope) ∨ (sc.isSome = true ∧ (k = .cassette ∨ k = .zone)))) :=
  ⟨⟨[2, 1, 1, 0, 0, 0, 5, 4, 0, 0, 0, 3], 1, true, .order, 4, .stateChange, (some 2), ready.modLane 2 fun r => { r with session := .opened }, by decide +kernel⟩,
   ⟨[2, 1, 1, 0, 0, 0, 5, 4, 0, 0, 0, 3], 1, true, .order, 4, .stateChange, (some 2), ready, by decide +kernel⟩,
   ⟨[3, 1, 1, 0, 0, 0, 6, 4, 2, 0, 0, 0], 2, true, .order, 4, .retire, none, ready, by decide +kernel⟩⟩

theorem test_meets_LinkResetClearsTheStationsSide :
    (∃ (ps : List Byte) (s : State),
      s.takes = true ∧ carries 0 ps = true ∧ s.sup.mode ≠ .waking) ∧
    (∃ (ps : List Byte) (s : State),
      s.takes = true ∧ carries 0 ps = true ∧ s.sup.mode = .waking) ∧
    (∃ (s : State),
      s.port.settle.isSome = true) :=
  ⟨⟨[], ready, by decide +kernel⟩,
   ⟨[], ready.modSup fun u => { u with mode := .waking }, by decide +kernel⟩,
   ⟨ready.modPort fun p => { p with settle := some 0 }, by decide +kernel⟩⟩

theorem test_meets_CassetteLoadSetsTheCounts :
    (∃ (ps : List Byte) (c : CassetteId) (s : State),
      s.takes = true ∧ carries 5 ps = true ∧ cassetteOf (byteAt ps 0) = some c ∧ s.alarm.service = true ∧
        (1 ≤ word2 ps 1 ∧ word2 ps 1 ≤ 1000) ∧ word2 ps 3 ≤ 2500 ∧ (s.cassette c).state ≠ .absent ∧
        (s.cassette c).state ≠ .leveling ∧ (s.cassette c).reserved = 0) ∧
    (∃ (ps : List Byte) (s : State),
      s.takes = true ∧ carries 5 ps = true ∧ s.alarm.service = false) ∧
    (∃ (ps : List Byte) (s : State),
      s.takes = true ∧ carries 5 ps = true ∧ s.alarm.service = true ∧
        (cassetteOf (byteAt ps 0) = none ∨ word2 ps 1 < 1 ∨ 1000 < word2 ps 1 ∨ 2500 < word2 ps 3)) ∧
    (∃ (ps : List Byte) (c : CassetteId) (s : State),
      s.takes = true ∧ carries 5 ps = true ∧ cassetteOf (byteAt ps 0) = some c ∧ s.alarm.service = true ∧
        (1 ≤ word2 ps 1 ∧ word2 ps 1 ≤ 1000) ∧ word2 ps 3 ≤ 2500 ∧
        ((s.cassette c).state = .absent ∨ (s.cassette c).state = .leveling ∨ 0 < (s.cassette c).reserved)) :=
  ⟨⟨[4, 0, 50, 9, 196], 3, ready.modAlarm fun a => { a with service := true }, by decide +kernel⟩,
   ⟨[2, 0, 50, 9, 196], ready, by decide +kernel⟩,
   ⟨[2, 0, 50, 9, 197], ready.modAlarm fun a => { a with service := true }, by decide +kernel⟩,
   ⟨[2, 0, 50, 9, 196], 1, (ready.modAlarm fun a => { a with service := true }).modCassette 1 fun r => { r with
       reserved := 1 }, by decide +kernel⟩⟩

theorem test_meets_CassetteSetClampsGuardAndLowMark :
    (∃ (ps : List Byte) (c : CassetteId) (s : State),
      s.takes = true ∧ carries 4 ps = true ∧ cassetteOf (byteAt ps 0) = some c) :=
  ⟨[6, 51, 255, 255], 5, ready, by decide +kernel⟩

theorem test_meets_LevelStartAndTrial :
    (∃ (ps : List Byte) (c : CassetteId) (s : State),
      s.awake = true ∧ carries 1 ps = true ∧ cassetteOf (byteAt ps 0) = some c ∧ s.lockdown = false ∧
        ((s.cassette c).state = .unleveled ∨ (s.cassette c).state = .ready) ∧ (s.cassette c).reserved = 0 ∧
        (s.cassette c).current ≠ 0) ∧
    (∃ (ps : List Byte) (c : CassetteId) (v : Leveling) (g : Nat) (s : State),
      s.awake = true ∧ carries 3 ps = true ∧ cassetteOf (byteAt ps 0) = some c ∧ word2 ps 1 ≤ 1023 ∧
        (s.cassette c).state = .leveling ∧ (s.cassette c).leveling = some v ∧ v.phase = .holding ∧
        s.path.heldReading = some g) :=
  ⟨⟨[4], 3, ready, by decide +kernel⟩,
   ⟨[5, 0, 231], 4, { phase := .holding, trials := 9, lastTrial := none }, 230, levelingAt 4 {
       phase := .holding, trials := 9, lastTrial := none } ready, by decide +kernel⟩⟩

theorem test_meets_LevelEndSpendsTheHeldNote :
    (∃ (ps : List Byte) (c : CassetteId) (v : Leveling) (s : State),
      s.awake = true ∧ carries 3 ps = true ∧ cassetteOf (byteAt ps 0) = some c ∧
        (word2 ps 1 = 0 ∨ (64 ≤ word2 ps 1 ∧ word2 ps 1 ≤ 960)) ∧ (s.cassette c).state = .leveling ∧
        (s.cassette c).leveling = some v ∧ v.phase = .holding ∧ s.path.holder = some (.leveling c) ∧
        s.path.heldReading.isSome = true) ∧
    (∃ (ps : List Byte) (c : CassetteId) (v : Leveling) (s : State),
      s.awake = true ∧ carries 3 ps = true ∧ cassetteOf (byteAt ps 0) = some c ∧ word2 ps 1 = 0 ∧
        (s.cassette c).state = .leveling ∧ (s.cassette c).leveling = some v ∧ v.phase = .waiting ∧
        s.path.holder ≠ some (.leveling c)) ∧
    (∃ (c : CassetteId) (s : State),
      s.heeds = true ∧ s.path.holder = some (.leveling c) ∧ s.path.levelingIdle.isSome = true ∧
        s.path.heldReading.isSome = true) :=
  ⟨⟨[5, 1, 112], 4, { phase := .holding, trials := 9, lastTrial := none }, levelingAt 4 {
      phase := .holding, trials := 9, lastTrial := none } ready, by decide +kernel⟩,
   ⟨[5, 0, 0], 4, { phase := .waiting, trials := 0, lastTrial := none }, ready.modCassette 4 fun r => { r with
       state := .leveling, leveling := some {
         phase := .waiting, trials := 0, lastTrial := none } }, by decide +kernel⟩,
   ⟨4, levelingAt 4 { phase := .holding, trials := 9, lastTrial := none } ready, by decide +kernel⟩⟩

theorem test_meets_CassetteRemovalFailsItsOrders :
    (∃ (c : CassetteId) (s : State),
      s.heeds = true ∧ (s.cassette c).state ≠ .absent ∧ (s.cassette c).leveling = none ∧
        s.anyOrder (fun o => decide (0 < o.need c)) = false ∧ s.sup.mode ≠ .enteringQuiet) ∧
    (∃ (c : CassetteId) (i : OrderSlot) (o : Order) (s : State),
      s.heeds = true ∧ (s.cassette c).state ≠ .absent ∧ s.order i = some o ∧ (o.state = .held ∨ o.state = .queued) ∧
        0 < o.need c ∧ s.path.holder ≠ some (.order i)) ∧
    (∃ (c : CassetteId) (i : OrderSlot) (o : Order) (s : State),
      s.heeds = true ∧ (s.cassette c).state ≠ .absent ∧ s.order i = some o ∧ o.need c = 0) ∧
    (∃ (c : CassetteId) (i : OrderSlot) (o : Order) (s : State),
      s.heeds = true ∧ (s.cassette c).state ≠ .absent ∧ s.path.state = .picking ∧ s.path.holder = some (.order i) ∧
        s.order i = some o ∧ o.state = .picking ∧ 0 < o.need c) ∧
    (∃ (c : CassetteId) (v : Leveling) (s : State),
      s.heeds = true ∧ (s.cassette c).state ≠ .absent ∧ (s.cassette c).leveling = some v ∧
        s.anyOrder (fun o => decide (0 < o.need c)) = false ∧ s.sup.mode ≠ .enteringQuiet ∧
        s.path.holder = some (.leveling c) ∧ s.path.heldReading.isSome = true) ∧
    (∃ (c : CassetteId) (v : Leveling) (s : State),
      s.heeds = true ∧ (s.cassette c).state ≠ .absent ∧ (s.cassette c).leveling = some v ∧
        s.anyOrder (fun o => decide (0 < o.need c)) = false ∧ s.sup.mode ≠ .enteringQuiet ∧
        s.path.holder = some (.leveling c) ∧ s.path.heldReading = none) ∧
    (∃ (c : CassetteId) (v : Leveling) (s : State),
      s.heeds = true ∧ (s.cassette c).state ≠ .absent ∧ (s.cassette c).leveling = some v ∧
        s.anyOrder (fun o => decide (0 < o.need c)) = false ∧ s.sup.mode ≠ .enteringQuiet ∧
        s.path.holder ≠ some (.leveling c) ∧ s.pickTarget ≠ some c) ∧
    (∃ (c : CassetteId) (s : State),
      s.heeds = true ∧ (s.cassette c).state ≠ .absent ∧ (s.cassette c).leveling = none ∧
        s.anyOrder (fun o => decide (0 < o.need c)) = false ∧ s.sup.mode = .enteringQuiet) ∧
    (∃ (c : CassetteId) (s : State),
      s.heeds = true ∧ (s.cassette c).state ≠ .absent) ∧
    (∃ (c : CassetteId) (s : State),
      s.heeds = true ∧ (s.cassette c).state ≠ .absent ∧ s.path.holder ≠ some (.leveling c) ∧
        (∀ i, s.picks i = true → s.losesTo c i = false)) :=
  ⟨⟨3, ready, by decide +kernel⟩,
   ⟨0, 3, (anOrder 1 .held), withOrder 3 2 (anOrder 1 .held) ready, by decide +kernel⟩,
   ⟨5, 3, (anOrder 1 .held), withOrder 3 2 (anOrder 1 .held) ready, by decide +kernel⟩,
   ⟨0, 3, (anOrder 1 .picking), picking 3 (anOrder 1 .picking) ready, by decide +kernel⟩,
   ⟨4, { phase := .holding, trials := 0, lastTrial := none }, levelingAt 4 {
       phase := .holding, trials := 0, lastTrial := none } ready, by decide +kernel⟩,
   ⟨4, { phase := .fetching, trials := 0, lastTrial := none }, (levelingAt 4 {
       phase := .fetching, trials := 0, lastTrial := none } ready).modPath fun p => { p with
         heldReading := none }, by decide +kernel⟩,
   ⟨4, { phase := .waiting, trials := 0, lastTrial := none }, (ready.modCassette 4 fun r => { r with
       state := .leveling, leveling := some {
         phase := .waiting, trials := 0, lastTrial := none } }).modPath fun p => { p with
           queue := [.leveling 4] }, by decide +kernel⟩,
   ⟨3, (ready.modSup fun u => { u with mode := .enteringQuiet }).modCassette 3 fun r => { r with
       shutter := .closing }, by decide +kernel⟩,
   ⟨0, withOrder 3 2 (anOrder 1 .held) ready, by decide +kernel⟩,
   ⟨0, withOrder 3 2 (anOrder 1 .held) ready, by decide +kernel⟩⟩

theorem test_meets_SeatingAndShutterTravel :
    (∃ (c : CassetteId) (s : State),
      s.heeds = true ∧ (s.cassette c).state = .absent) ∧
    (∃ (c : CassetteId) (s : State),
      s.heeds = true ∧ (s.cassette c).shutter = .opening) ∧
    (∃ (c : CassetteId) (s : State),
      s.heeds = true ∧ (s.cassette c).shutter = .closing ∧ s.sup.mode ≠ .enteringQuiet) ∧
    (∃ (c : CassetteId) (s : State),
      s.heeds = true ∧ (s.cassette c).shutter = .closing ∧ s.sup.mode = .enteringQuiet ∧
        (∀ d, d = c ∨ (s.cassette d).shutter = .shut)) ∧
    (∃ (c d : CassetteId) (s : State),
      s.heeds = true ∧ (s.cassette c).shutter = .closing ∧ s.sup.mode = .enteringQuiet ∧ d ≠ c ∧
        (s.cassette d).shutter ≠ .shut) ∧
    (∃ (s : State),
      s.heeds = true ∧ s.path.shutterIdle.isSome = true) :=
  ⟨⟨2, ready.modCassette 2 fun r => { r with state := .absent }, by decide +kernel⟩,
   ⟨2, ready.modCassette 2 fun r => { r with shutter := .opening }, by decide +kernel⟩,
   ⟨2, ready.modCassette 2 fun r => { r with shutter := .closing }, by decide +kernel⟩,
   ⟨2, (ready.modCassette 2 fun r => { r with shutter := .closing }).modSup fun u => { u with
       mode := .enteringQuiet }, by decide +kernel⟩,
   ⟨2, 3, ((ready.modCassette 2 fun r => { r with shutter := .closing }).modCassette 3 fun r => { r with
       shutter := .closing }).modSup fun u => { u with mode := .enteringQuiet }, by decide +kernel⟩,
   ⟨(ready.modCassette 2 fun r => { r with shutter := .opened }).modPath fun p => { p with
       shutterIdle := some 0 }, by decide +kernel⟩⟩

theorem test_meets_OrderPlaceReservesTheMix :
    (∃ (ps : List Byte) (l : LaneId) (h : Bool) (i : OrderSlot) (mix : List MixEntry) (s : State),
      s.awake = true ∧ carries (5 + 3 * byteAt ps 4) ps = true ∧ laneOf (byteAt ps 0) = some l ∧
        flagOf (byteAt ps 3) = some h ∧ (1 ≤ word2 ps 1 ∧ word2 ps 1 ≤ 60000) ∧
        capsValid (capsAt ps (byteAt ps 4) 5) = true ∧ s.alarm.service = false ∧ s.lockdown = false ∧
        (s.lane l).session = .opened ∧ (s.lane l).lock = .none ∧ s.freeSlot = some i ∧
        s.findMix (word2 ps 1) (capsAt ps (byteAt ps 4) 5) = some mix ∧ s.custody.bins.retractCounted = true ∧
        s.custody.bins.retractCount + s.outstanding + (mix.map (·.count)).sum ≤ 300) ∧
    (∃ (ps : List Byte) (l : LaneId) (h : Bool) (s : State),
      s.awake = true ∧ carries (5 + 3 * byteAt ps 4) ps = true ∧ laneOf (byteAt ps 0) = some l ∧
        flagOf (byteAt ps 3) = some h ∧ (1 ≤ word2 ps 1 ∧ word2 ps 1 ≤ 60000) ∧
        capsValid (capsAt ps (byteAt ps 4) 5) = true ∧ s.alarm.service = false ∧ s.lockdown = false ∧
        (s.lane l).session = .opened ∧ (s.lane l).lock = .none ∧ s.freeSlot = none) ∧
    (∃ (ps : List Byte) (l : LaneId) (h : Bool) (s : State),
      s.awake = true ∧ carries (5 + 3 * byteAt ps 4) ps = true ∧ laneOf (byteAt ps 0) = some l ∧
        flagOf (byteAt ps 3) = some h ∧ (1 ≤ word2 ps 1 ∧ word2 ps 1 ≤ 60000) ∧
        capsValid (capsAt ps (byteAt ps 4) 5) = true ∧ s.alarm.service = false ∧ s.lockdown = false ∧
        (s.lane l).session = .opened ∧ (s.lane l).lock = .none ∧ s.freeSlot.isSome = true ∧
        s.findMix (word2 ps 1) (capsAt ps (byteAt ps 4) 5) = none) ∧
    (∃ (ps : List Byte) (l : LaneId) (h : Bool) (mix : List MixEntry) (s : State),
      s.awake = true ∧ carries (5 + 3 * byteAt ps 4) ps = true ∧ laneOf (byteAt ps 0) = some l ∧
        flagOf (byteAt ps 3) = some h ∧ (1 ≤ word2 ps 1 ∧ word2 ps 1 ≤ 60000) ∧
        capsValid (capsAt ps (byteAt ps 4) 5) = true ∧ s.alarm.service = false ∧ s.lockdown = false ∧
        (s.lane l).session = .opened ∧ (s.lane l).lock = .none ∧ s.freeSlot.isSome = true ∧
        s.findMix (word2 ps 1) (capsAt ps (byteAt ps 4) 5) = some mix ∧ s.custody.bins.retractCounted = false) ∧
    (∃ (ps : List Byte) (l : LaneId) (h : Bool) (mix : List MixEntry) (s : State),
      s.awake = true ∧ carries (5 + 3 * byteAt ps 4) ps = true ∧ laneOf (byteAt ps 0) = some l ∧
        flagOf (byteAt ps 3) = some h ∧ (1 ≤ word2 ps 1 ∧ word2 ps 1 ≤ 60000) ∧
        capsValid (capsAt ps (byteAt ps 4) 5) = true ∧ s.alarm.service = false ∧ s.lockdown = false ∧
        (s.lane l).session = .opened ∧ (s.lane l).lock = .none ∧ s.freeSlot.isSome = true ∧
        s.findMix (word2 ps 1) (capsAt ps (byteAt ps 4) 5) = some mix ∧ s.custody.bins.retractCounted = true ∧
        300 < s.custody.bins.retractCount + s.outstanding + (mix.map (·.count)).sum) :=
  ⟨⟨[3, 1, 129, 0, 0], 2, false, 0, mixOf385, ready.modLane 2 fun r => { r with
      session := .opened }, by decide +kernel⟩,
   ⟨[3, 1, 129, 0, 0], 2, false, fullTable (ready.modLane 2 fun r => { r with
       session := .opened }), by decide +kernel⟩,
   ⟨[3, 0, 1, 0, 0], 2, false, ready.modLane 2 fun r => { r with session := .opened }, by decide +kernel⟩,
   ⟨[3, 1, 129, 0, 0], 2, false, mixOf385, (ready.modLane 2 fun r => { r with
       session := .opened }).modBins fun q => { q with retractCounted := false }, by decide +kernel⟩,
   ⟨[3, 1, 129, 0, 0], 2, false, mixOf385, (ready.modLane 2 fun r => { r with
       session := .opened }).modBins fun q => { q with retractCount := 299 }, by decide +kernel⟩⟩

theorem test_meets_StepsKeepTheSecondLaw :
    (∃ (s t : State),
      LinkLaw s ∧ SecondLaw s ∧ SessionLaw s ∧ PlaceLaw s ∧ step s = .next t) :=
  ⟨{ promised with
      pending := [.noop []] }, promised, by unfold LinkLaw; decide +kernel, by unfold SecondLaw; decide +kernel, by unfold SessionLaw; decide +kernel, by unfold PlaceLaw; decide +kernel, rfl⟩

theorem test_meets_ReleaseCancelAndHoldExpiryOfAnOrder :
    (∃ (ps : List Byte) (i : OrderSlot) (o : Order) (s : State),
      s.awake = true ∧ carries 1 ps = true ∧ handleSlot (byteAt ps 0) = some i ∧ s.order i = some o ∧
        handleTag (byteAt ps 0) = s.custody.tags.get i ∧ o.state = .held ∧ s.alarm.service = false ∧
        (s.lane o.lane).lock = .none) ∧
    (∃ (ps : List Byte) (i : OrderSlot) (o : Order) (s : State),
      s.awake = true ∧ carries 1 ps = true ∧ handleSlot (byteAt ps 0) = some i ∧ s.order i = some o ∧
        handleTag (byteAt ps 0) = s.custody.tags.get i ∧
        (o.state = .held → s.alarm.service = true ∨ (s.lane o.lane).lock ≠ .none)) ∧
    (∃ (ps : List Byte) (i : OrderSlot) (o : Order) (s : State),
      s.takes = true ∧ carries 1 ps = true ∧ handleSlot (byteAt ps 0) = some i ∧ s.order i = some o ∧
        handleTag (byteAt ps 0) = s.custody.tags.get i ∧ (o.state = .held ∨ o.state = .queued)) ∧
    (∃ (i : OrderSlot) (o : Order) (s : State),
      s.heeds = true ∧ s.order i = some o ∧ o.state = .held) ∧
    (∃ (ps : List Byte) (i : OrderSlot) (o : Order) (s : State),
      s.takes = true ∧ carries 1 ps = true ∧ handleSlot (byteAt ps 0) = some i ∧ s.order i = some o ∧
        handleTag (byteAt ps 0) = s.custody.tags.get i ∧ o.state ≠ .held ∧ o.state ≠ .queued) :=
  ⟨⟨[0x24], 3, (anOrder 1 .held), withOrder 3 2 (anOrder 1 .held) ready, by decide +kernel⟩,
   ⟨[0x24], 3, { anOrder 1 .cancelled with reason := some .expired }, withOrder 3 2 { anOrder 1 .cancelled with
       reason := some .expired } ready, by decide +kernel⟩,
   ⟨[0x24], 3, (anOrder 1 .queued), withOrder 3 2 (anOrder 1 .queued) ready, by decide +kernel⟩,
   ⟨3, (anOrder 1 .held), withOrder 3 2 (anOrder 1 .held) ready, by decide +kernel⟩,
   ⟨[0x24], 3, (anOrder 1 .picking), withOrder 3 2 (anOrder 1 .picking) ready, by decide +kernel⟩⟩

theorem test_meets_RetireAndResolveTerminalOrders :
    (∃ (ps : List Byte) (i : OrderSlot) (o : Order) (s : State),
      s.takes = true ∧ carries 1 ps = true ∧ handleSlot (byteAt ps 0) = some i ∧ s.order i = some o ∧
        handleTag (byteAt ps 0) = s.custody.tags.get i ∧ o.state.terminal = true) ∧
    (∃ (ps : List Byte) (i : OrderSlot) (o : Order) (s : State),
      s.takes = true ∧ carries 1 ps = true ∧ handleSlot (byteAt ps 0) = some i ∧ s.order i = some o ∧
        handleTag (byteAt ps 0) = s.custody.tags.get i ∧ o.state.terminal = false) ∧
    (∃ (ps : List Byte) (i : OrderSlot) (s : State),
      s.takes = true ∧ carries 1 ps = true ∧ handleSlot (byteAt ps 0) = some i ∧
        ((s.order i).isNone = true ∨ handleTag (byteAt ps 0) ≠ s.custody.tags.get i)) ∧
    (∃ (ps : List Byte) (i : OrderSlot) (o : Order) (d : Disposition) (n : Nat) (s : State),
      s.takes = true ∧ carries 3 ps = true ∧ s.alarm.service = true ∧ dispositionOf (byteAt ps 1) = some d ∧
        handleSlot (byteAt ps 0) = some i ∧ byteAt ps 2 ≤ 60 ∧ s.order i = some o ∧
        handleTag (byteAt ps 0) = s.custody.tags.get i ∧ o.state.terminal = true ∧
        (n = if byteAt ps 2 = 0 then o.unresolved else byteAt ps 2) ∧ (1 ≤ n ∧ n ≤ o.unresolved)) ∧
    (∃ (ps : List Byte) (s : State),
      s.takes = true ∧ carries 3 ps = true ∧ s.alarm.service = false) ∧
    (∃ (ps : List Byte) (s : State),
      s.takes = true ∧ carries 3 ps = true ∧ s.alarm.service = true ∧
        (dispositionOf (byteAt ps 1) = none ∨ 60 < byteAt ps 2 ∨ handleSlot (byteAt ps 0) = none)) ∧
    (∃ (ps : List Byte) (i : OrderSlot) (d : Disposition) (s : State),
      s.takes = true ∧ carries 3 ps = true ∧ s.alarm.service = true ∧ dispositionOf (byteAt ps 1) = some d ∧
        byteAt ps 2 ≤ 60 ∧ handleSlot (byteAt ps 0) = some i ∧
        ((s.order i).isNone = true ∨ handleTag (byteAt ps 0) ≠ s.custody.tags.get i)) ∧
    (∃ (ps : List Byte) (i : OrderSlot) (o : Order) (d : Disposition) (s : State),
      s.takes = true ∧ carries 3 ps = true ∧ s.alarm.service = true ∧ dispositionOf (byteAt ps 1) = some d ∧
        byteAt ps 2 ≤ 60 ∧ handleSlot (byteAt ps 0) = some i ∧ s.order i = some o ∧
        handleTag (byteAt ps 0) = s.custody.tags.get i ∧
        (o.state.terminal = false ∨ o.unresolved = 0 ∨ o.unresolved < byteAt ps 2)) :=
  ⟨⟨[0x24], 3, (anOrder 1 .failed), withOrder 3 2 (anOrder 1 .failed) ready, by decide +kernel⟩,
   ⟨[0x24], 3, (anOrder 1 .staged), withOrder 3 2 (anOrder 1 .staged) ready, by decide +kernel⟩,
   ⟨[0x34], 3, withOrder 3 2 (anOrder 1 .staged) ready, by decide +kernel⟩,
   ⟨[0x24, 1, 0], 3, { anOrder 1 .failed with
       unresolved := 4 }, .recovered, 4, (withOrder 3 2 { anOrder 1 .failed with
         unresolved := 4 } ready).modAlarm fun a => { a with service := true }, by decide +kernel⟩,
   ⟨[0x24, 1, 0], ready, by decide +kernel⟩,
   ⟨[0x24, 1, 61], ready.modAlarm fun a => { a with service := true }, by decide +kernel⟩,
   ⟨[0x34, 1, 60], 3, .recovered, (withOrder 3 2 (anOrder 1 .failed) ready).modAlarm fun a => { a with
       service := true }, by decide +kernel⟩,
   ⟨[0x24, 1, 5], 3, { anOrder 1 .failed with unresolved := 4 }, .recovered, (withOrder 3 2 { anOrder 1 .failed with
       unresolved := 4 } ready).modAlarm fun a => { a with service := true }, by decide +kernel⟩⟩

theorem test_meets_EnvelopeAnnotateAndRetire :
    (∃ (ps : List Byte) (e : Envelope) (s : State),
      s.takes = true ∧ carries (8 + byteAt ps 7) ps = true ∧ word4 ps 0 ≠ 0 ∧ s.envelope (word4 ps 0) = some e ∧
        (word3 ps 4 = 0xFFFFFF ∨ word3 ps 4 ≤ 999999) ∧ byteAt ps 7 ≤ 16) ∧
    (∃ (ps : List Byte) (e : Envelope) (s : State),
      s.takes = true ∧ carries 4 ps = true ∧ s.alarm.service = true ∧ word4 ps 0 ≠ 0 ∧
        s.envelope (word4 ps 0) = some e ∧ e.state = .strayed) ∧
    (∃ (ps : List Byte) (s : State),
      s.takes = true ∧ carries 4 ps = true ∧ s.envelope (word4 ps 0) = none) ∧
    (∃ (ps : List Byte) (s : State),
      s.takes = true ∧ carries (8 + byteAt ps 7) ps = true ∧
        (word4 ps 0 = 0 ∨ (word3 ps 4 ≠ 0xFFFFFF ∧ 999999 < word3 ps 4) ∨ 16 < byteAt ps 7)) ∧
    (∃ (ps : List Byte) (s : State),
      s.takes = true ∧ carries (8 + byteAt ps 7) ps = true ∧ word4 ps 0 ≠ 0 ∧
        (word3 ps 4 = 0xFFFFFF ∨ word3 ps 4 ≤ 999999) ∧ byteAt ps 7 ≤ 16 ∧ s.envelope (word4 ps 0) = none) ∧
    (∃ (ps : List Byte) (s : State),
      s.takes = true ∧ carries 4 ps = true ∧ s.alarm.service = false) ∧
    (∃ (ps : List Byte) (s : State),
      s.takes = true ∧ carries 4 ps = true ∧ s.alarm.service = true ∧
        (word4 ps 0 = 0 ∨ s.envelope (word4 ps 0) = none)) ∧
    (∃ (ps : List Byte) (e : Envelope) (s : State),
      s.takes = true ∧ carries 4 ps = true ∧ s.alarm.service = true ∧ word4 ps 0 ≠ 0 ∧
        s.envelope (word4 ps 0) = some e ∧ e.state ≠ .strayed) :=
  ⟨⟨[0, 0, 0, 7, 0, 1, 2, 2, 65, 66], (anEnvelope 7 1 .conveying), withEnvelopes [anEnvelope 7 1 .conveying] ready, by decide +kernel⟩,
   ⟨[0, 0, 0, 7], (anEnvelope 7 1 .strayed), (withEnvelopes [anEnvelope 7 1 .strayed] ready).modAlarm fun a => { a with service := true }, by decide +kernel⟩,
   ⟨[0, 0, 0, 9], ready, by decide +kernel⟩,
   ⟨[0, 0, 0, 9, 15, 66, 64, 0], ready, by decide +kernel⟩,
   ⟨[0, 0, 0, 9, 15, 66, 63, 1, 65], ready, by decide +kernel⟩,
   ⟨[0, 0, 0, 9], ready, by decide +kernel⟩,
   ⟨[0, 0, 0, 9], ready.modAlarm fun a => { a with service := true }, by decide +kernel⟩,
   ⟨[0, 0, 0, 7], (anEnvelope 7 1 .binned), (withEnvelopes [anEnvelope 7 1 .binned] ready).modAlarm fun a => { a with
       service := true }, by decide +kernel⟩⟩

theorem test_meets_BinClearAndConveyorRestart :
    (∃ (ps : List Byte) (s : State),
      s.takes = true ∧ carries 0 ps = true ∧ s.alarm.service = true ∧ (s.zone 1).input = .active) ∧
    (∃ (ps : List Byte) (s : State),
      s.takes = true ∧ carries 0 ps = true ∧ (s.alarm.service = false ∨ (s.zone 1).input = .quiet)) ∧
    (∃ (ps : List Byte) (s : State),
      s.takes = true ∧ carries 0 ps = true ∧ s.sup.mode ≠ .enteringQuiet ∧ s.sup.mode ≠ .quiet ∧
        s.conveyor.state = .halted ∧ (s.zone 14).input = .quiet) :=
  ⟨⟨[], (withEnvelopes [anEnvelope 7 1 .binned, anEnvelope 8 2 .intake] ready |>.modAlarm fun a => { a with
      service := true }).modZone 1 fun z => { z with input := .active }, by decide +kernel⟩,
   ⟨[], ready, by decide +kernel⟩,
   ⟨[], ready.modConveyor fun c => { c with state := .halted }, by decide +kernel⟩⟩

theorem test_meets_AdmissionTakesTheOldestIntakeRecord :
    (∃ (e : Envelope) (s : State),
      s.heeds = true ∧ s.oldestIntake = some e ∧ s.envelope e.capture = some e ∧ s.conveyor.state = .running ∧
        s.conveyor.list.length < 8 ∧ s.sup.mode = .active ∧ s.conveyor.spacing = none ∧
        (s.custody.envelopes.map (·.capture)).Nodup ∧ s.drawerWaits e.lane = false) ∧
    (∃ (e : Envelope) (s : State),
      s.heeds = true ∧ s.oldestIntake = some e ∧ s.envelope e.capture = some e ∧ s.conveyor.state = .running ∧
        s.conveyor.list.length < 8 ∧ s.sup.mode = .active ∧ s.conveyor.spacing = none ∧
        (s.custody.envelopes.map (·.capture)).Nodup ∧ s.drawerWaits e.lane = true) :=
  ⟨⟨(anEnvelope 7 1 .intake), withEnvelopes [anEnvelope 5 0 .strayed, anEnvelope 7 1 .intake, anEnvelope 8 2 .intake] ready, by decide +kernel⟩,
   ⟨(anEnvelope 7 1 .intake), (withEnvelopes [anEnvelope 7 1 .intake] ready).modLane 1 fun r => { r with
       claim := true }, by decide +kernel⟩⟩

theorem test_meets_BinArrivalsAndStrays :
    (∃ (n : Nat) (rest : List Nat) (e : Envelope) (s : State),
      s.heeds = true ∧ s.conveyor.list = n :: rest ∧ s.belt = true ∧ s.envelope n = some e ∧ e.state = .conveying ∧
        (s.custody.envelopes.map (·.capture)).Nodup) ∧
    (∃ (s : State),
      s.heeds = true ∧ (s.belt = false ∨ s.conveyor.list = []) ∧ s.conveyor.clearance = none) ∧
    (∃ (s : State),
      s.heeds = true ∧ (s.belt = false ∨ s.conveyor.list = []) ∧ s.conveyor.clearance.isSome = true) ∧
    (∃ (n : Nat) (rest : List Nat) (e : Envelope) (s : State),
      s.heeds = true ∧ s.conveyor.list = n :: rest ∧ s.conveyor.transit.isSome = true ∧ s.belt = true ∧
        s.envelope n = some e ∧ e.state = .conveying ∧ (s.custody.envelopes.map (·.capture)).Nodup) ∧
    (∃ (s : State),
      s.heeds = true) ∧
    (∃ (s : State),
      s.heeds = true ∧ s.conveyor.clearance.isSome = true) :=
  ⟨⟨7, [8], (anEnvelope 7 1 .conveying), (withEnvelopes [anEnvelope 7 1 .conveying, anEnvelope 8 2 .conveying] ready).modConveyor fun c => { c with list := [7, 8], transit := some 100 }, by decide +kernel⟩,
   ⟨ready, by decide +kernel⟩,
   ⟨ready.modConveyor fun c => { c with clearance := some 5 }, by decide +kernel⟩,
   ⟨7, [8], (anEnvelope 7 1 .conveying), (withEnvelopes [anEnvelope 7 1 .conveying, anEnvelope 8 2 .conveying] ready).modConveyor fun c => { c with list := [7, 8], transit := some 0 }, by decide +kernel⟩,
   ⟨ready.modConveyor fun c => { c with spacing := some 0 }, by decide +kernel⟩,
   ⟨ready.modConveyor fun c => { c with clearance := some 0 }, by decide +kernel⟩⟩

theorem test_meets_SessionOpenChecksInSequence :
    (∃ (ps : List Byte) (s : State),
      s.takes = true ∧ carries 1 ps = true) :=
  ⟨[2], ready, by decide +kernel⟩

theorem test_meets_SessionCloseUnwindsTheLane :
    (∃ (ps : List Byte) (l : LaneId) (s : State),
      s.awake = true ∧ carries 1 ps = true ∧ laneOf (byteAt ps 0) = some l ∧ (s.lane l).session = .opened) ∧
    (∃ (ps : List Byte) (l : LaneId) (i : OrderSlot) (o : Order) (s : State),
      s.awake = true ∧ carries 1 ps = true ∧ laneOf (byteAt ps 0) = some l ∧ (s.lane l).session = .opened ∧
        s.order i = some o ∧ o.lane = l ∧ (o.state = .held ∨ o.state = .queued)) ∧
    (∃ (ps : List Byte) (l : LaneId) (i : OrderSlot) (o : Order) (s : State),
      s.awake = true ∧ carries 1 ps = true ∧ laneOf (byteAt ps 0) = some l ∧ (s.lane l).session = .opened ∧
        s.order i = some o ∧ (o.lane ≠ l ∨ (o.state ≠ .held ∧ o.state ≠ .queued)) ∧ (s.lane l).head ≠ some i ∧
        (s.lane l).load ≠ some i) ∧
    (∃ (ps : List Byte) (l : LaneId) (i : OrderSlot) (o : Order) (s : State),
      s.awake = true ∧ carries 1 ps = true ∧ laneOf (byteAt ps 0) = some l ∧ (s.lane l).session = .opened ∧
        s.order i = some o ∧ s.waits l i = false ∧ ((s.lane l).head = some i → o.state ≠ .staged) ∧
        ((s.lane l).load = some i → o.state ≠ .presented ∨ (s.lane l).drawer ≠ .opened)) ∧
    (∃ (ps : List Byte) (l : LaneId) (i : OrderSlot) (o : Order) (s : State),
      s.awake = true ∧ carries 1 ps = true ∧ laneOf (byteAt ps 0) = some l ∧ (s.lane l).session = .opened ∧
        (s.lane l).head = some i ∧ s.order i = some o ∧ o.state = .staged) ∧
    (∃ (ps : List Byte) (l : LaneId) (i : OrderSlot) (o : Order) (s : State),
      s.awake = true ∧ carries 1 ps = true ∧ laneOf (byteAt ps 0) = some l ∧ (s.lane l).session = .opened ∧
        (s.lane l).drawer = .opened ∧ (s.lane l).load = some i ∧ s.order i = some o ∧ o.state = .presented) ∧
    (∃ (ps : List Byte) (l : LaneId) (s : State),
      s.awake = true ∧ carries 1 ps = true ∧ laneOf (byteAt ps 0) = some l ∧ (s.lane l).session = .opened ∧
        (s.lane l).drawer = .extending) ∧
    (∃ (ps : List Byte) (l : LaneId) (s : State),
      s.awake = true ∧ carries 1 ps = true ∧ laneOf (byteAt ps 0) = some l ∧ (s.lane l).session = .opened ∧
        (s.lane l).drawer = .opened ∧ (s.lane l).load = none) ∧
    (∃ (ps : List Byte) (l : LaneId) (i : OrderSlot) (o : Order) (s : State),
      s.awake = true ∧ carries 1 ps = true ∧ laneOf (byteAt ps 0) = some l ∧ (s.lane l).session = .opened ∧
        (s.lane l).head = some i ∧ (s.lane l).load ≠ some i ∧ s.order i = some o ∧ o.state = .aborting) ∧
    (∃ (ps : List Byte) (l : LaneId) (i : OrderSlot) (o : Order) (s : State),
      s.awake = true ∧ carries 1 ps = true ∧ laneOf (byteAt ps 0) = some l ∧ (s.lane l).session = .opened ∧
        (s.lane l).drawer = .retracting ∧ (s.lane l).load = some i ∧ (s.lane l).head ≠ some i ∧ s.order i = some o ∧
        o.state = .recalling) ∧
    (∃ (ps : List Byte) (l : LaneId) (s : State),
      s.awake = true ∧ carries 1 ps = true ∧ laneOf (byteAt ps 0) = some l ∧ (s.lane l).session = .opened ∧
        (s.lane l).drawer ≠ .opened ∧ (s.lane l).drawer ≠ .extending) ∧
    (∃ (ps : List Byte) (l : LaneId) (s : State),
      s.awake = true ∧ carries 1 ps = true ∧ laneOf (byteAt ps 0) = some l ∧ (s.lane l).session ≠ .opened) :=
  ⟨⟨[3], 2, ready.modLane 2 fun r => { r with session := .opened }, by decide +kernel⟩,
   ⟨[3], 2, 5, (anOrder 2 .queued), withOrder 5 1 (anOrder 2 .queued) (ready.modLane 2 fun r => { r with
       session := .opened }), by decide +kernel⟩,
   ⟨[3], 2, 5, (anOrder 1 .queued), withOrder 5 1 (anOrder 1 .queued) (ready.modLane 2 fun r => { r with
       session := .opened }), by decide +kernel⟩,
   ⟨[3], 2, 5, (anOrder 2 .staged), withOrder 5 1 (anOrder 2 .staged) (ready.modLane 2 fun r => { r with
       session := .opened, load := some 5, drawer := .extending }), by decide +kernel⟩,
   ⟨[3], 2, 5, (anOrder 2 .staged), withOrder 5 1 (anOrder 2 .staged) (ready.modLane 2 fun r => { r with
       session := .opened, head := some 5 }), by decide +kernel⟩,
   ⟨[3], 2, 5, (anOrder 2 .presented), withOrder 5 1 (anOrder 2 .presented) (ready.modLane 2 fun r => { r with
       session := .opened, load := some 5, drawer := .opened }), by decide +kernel⟩,
   ⟨[3], 2, ready.modLane 2 fun r => { r with session := .opened, drawer := .extending }, by decide +kernel⟩,
   ⟨[3], 2, ready.modLane 2 fun r => { r with session := .opened, drawer := .opened }, by decide +kernel⟩,
   ⟨[3], 2, 5, (anOrder 2 .aborting), withOrder 5 1 (anOrder 2 .aborting) (ready.modLane 2 fun r => { r with
       session := .opened, head := some 5 }), by decide +kernel⟩,
   ⟨[3], 2, 5, (anOrder 2 .recalling), withOrder 5 1 (anOrder 2 .recalling) (ready.modLane 2 fun r => { r with
       session := .opened, load := some 5, drawer := .retracting }), by decide +kernel⟩,
   ⟨[3], 2, ready.modLane 2 fun r => { r with session := .opened, drawer := .jammed }, by decide +kernel⟩,
   ⟨[3], 2, ready, by decide +kernel⟩⟩

theorem test_meets_DrawerSendChecksAndSends :
    (∃ (ps : List Byte) (s : State),
      s.takes = true ∧ carries 2 ps = true) ∧
    (∃ (ps : List Byte) (l : LaneId) (m : SendMode) (i : OrderSlot) (o : Order) (s : State),
      s.awake = true ∧ carries 2 ps = true ∧ laneOf (byteAt ps 0) = some l ∧ sendModeOf (byteAt ps 1) = some m ∧
        m ≠ .deposit ∧ s.lockdown = false ∧ (s.lane l).session = .opened ∧ (s.lane l).lock = .none ∧
        (s.lane l).drawer = .closed ∧ (s.lane l).claim = false ∧ (s.lane l).head = some i ∧ s.order i = some o ∧
        o.state = .staged ∧ (m = .both → s.custody.bins.captureCounted = true ∧ s.budget < 120)) ∧
    (∃ (ps : List Byte) (l : LaneId) (s : State),
      s.awake = true ∧ carries 2 ps = true ∧ laneOf (byteAt ps 0) = some l ∧ byteAt ps 1 = 1 ∧ s.lockdown = false ∧
        (s.lane l).session = .opened ∧ (s.lane l).lock = .none ∧ (s.lane l).drawer = .closed ∧
        (s.lane l).claim = false ∧ s.custody.bins.captureCounted = true ∧ s.budget < 120) :=
  ⟨⟨[2, 1], ready, by decide +kernel⟩,
   ⟨[3, 2], 2, .both, 5, (anOrder 2 .staged), withOrder 5 1 (anOrder 2 .staged) (ready.modLane 2 fun r => { r with
       session := .opened, head := some 5 }), by decide +kernel⟩,
   ⟨[3, 1], 2, ready.modLane 2 fun r => { r with session := .opened }, by decide +kernel⟩⟩

theorem test_meets_DrawerRecallAndPresentDeadline :
    (∃ (ps : List Byte) (l : LaneId) (i : OrderSlot) (o : Order) (s : State),
      s.awake = true ∧ carries 1 ps = true ∧ laneOf (byteAt ps 0) = some l ∧ (s.lane l).drawer = .opened ∧
        (s.lane l).load = some i ∧ s.order i = some o ∧ o.state = .presented) ∧
    (∃ (ps : List Byte) (l : LaneId) (s : State),
      s.awake = true ∧ carries 1 ps = true ∧ laneOf (byteAt ps 0) = some l ∧ (s.lane l).drawer = .opened ∧
        (s.lane l).load = none) ∧
    (∃ (ps : List Byte) (l : LaneId) (s : State),
      s.awake = true ∧ carries 1 ps = true ∧ laneOf (byteAt ps 0) = some l ∧ (s.lane l).drawer = .extending) ∧
    (∃ (ps : List Byte) (l : LaneId) (s : State),
      s.awake = true ∧ carries 1 ps = true ∧ laneOf (byteAt ps 0) = some l ∧ (s.lane l).drawer = .retracting) ∧
    (∃ (ps : List Byte) (l : LaneId) (s : State),
      s.awake = true ∧ carries 1 ps = true ∧ laneOf (byteAt ps 0) = some l ∧
        ((s.lane l).drawer = .closed ∨ (s.lane l).drawer = .jammed)) ∧
    (∃ (i : OrderSlot) (o : Order) (s : State),
      s.heeds = true ∧ s.order i = some o ∧ o.state = .presented ∧ o.presentDeadline.isSome = true ∧
        (s.lane o.lane).drawer = .opened ∧ (s.lane o.lane).load = some i) :=
  ⟨⟨[3], 2, 5, (anOrder 2 .presented), withOrder 5 1 (anOrder 2 .presented) (ready.modLane 2 fun r => { r with
      session := .opened, load := some 5, drawer := .opened }), by decide +kernel⟩,
   ⟨[3], 2, ready.modLane 2 fun r => { r with drawer := .opened }, by decide +kernel⟩,
   ⟨[3], 2, ready.modLane 2 fun r => { r with drawer := .extending }, by decide +kernel⟩,
   ⟨[3], 2, ready.modLane 2 fun r => { r with drawer := .retracting }, by decide +kernel⟩,
   ⟨[3], 2, ready, by decide +kernel⟩,
   ⟨5, { anOrder 2 .presented with presentDeadline := some 9 }, withOrder 5 1 { anOrder 2 .presented with
       presentDeadline := some 9 } (ready.modLane 2 fun r => { r with
         session := .opened, load := some 5, drawer := .opened }), by decide +kernel⟩⟩

theorem test_meets_OuterLimitOpensTheDrawer :
    (∃ (l : LaneId) (q : BundleReport) (i : OrderSlot) (o : Order) (s : State),
      s.heeds = true ∧ (s.lane l).drawer = .extending ∧ (s.lane l).load = some i ∧ s.order i = some o ∧
        o.state = .staged ∧ (s.laneWork l).pendingRecall = none) ∧
    (∃ (l : LaneId) (q : BundleReport) (i : OrderSlot) (o : Order) (c : RecallCause) (s : State),
      s.heeds = true ∧ (s.lane l).drawer = .extending ∧ (s.lane l).load = some i ∧ s.order i = some o ∧
        o.state = .staged ∧ (s.laneWork l).pendingRecall = some c) ∧
    (∃ (l : LaneId) (q : BundleReport) (s : State),
      s.heeds = true ∧ (s.lane l).drawer = .extending ∧ (s.lane l).load = none) ∧
    (∃ (l : LaneId) (q : BundleReport) (s : State),
      s.heeds = true ∧ (s.lane l).drawer ≠ .extending) :=
  ⟨⟨2, .occupied, 5, (anOrder 2 .staged), withOrder 5 1 (anOrder 2 .staged) (ready.modLane 2 fun r => { r with
      session := .opened, load := some 5, drawer := .extending }), by decide +kernel⟩,
   ⟨2, .occupied, 5, (anOrder 2 .staged), .lockdown, (withOrder 5 1 (anOrder 2 .staged) (ready.modLane 2 fun r => { r with session := .opened, load := some 5, drawer := .extending })).modWork 2 fun w => { w with pendingRecall := some .lockdown }, by decide +kernel⟩,
   ⟨2, .empty, ready.modLane 2 fun r => { r with claim := true, drawer := .extending }, by decide +kernel⟩,
   ⟨2, .empty, ready.modLane 2 fun r => { r with drawer := .jammed }, by decide +kernel⟩⟩

theorem test_meets_InnerLimitCountsBackAndTakesTheEnvelope :
    (∃ (l : LaneId) (q : EnvelopeReport) (i : OrderSlot) (o : Order) (s : State),
      s.heeds = true ∧ (s.lane l).drawer = .retracting ∧ (s.lane l).load = some i ∧ s.order i = some o ∧
        o.state = .recalling ∧ o.retracted ≤ o.presented) ∧
    (∃ (l : LaneId) (q : EnvelopeReport) (s : State),
      s.heeds = true ∧ (s.lane l).drawer = .retracting ∧ (s.lane l).load = none) ∧
    (∃ (l : LaneId) (q : EnvelopeReport) (s : State),
      s.heeds = true ∧ (s.lane l).drawer ≠ .retracting) :=
  ⟨⟨2, .present, 5, { anOrder 2 .recalling with
      presented := 3, retracted := 2 }, withOrder 5 1 { anOrder 2 .recalling with
        presented := 3, retracted := 2 } (ready.modLane 2 fun r => { r with
          load := some 5, claim := true, drawer := .retracting }), by decide +kernel⟩,
   ⟨2, .present, ready.modLane 2 fun r => { r with claim := true, drawer := .retracting }, by decide +kernel⟩,
   ⟨2, .absent, ready.modLane 2 fun r => { r with drawer := .jammed }, by decide +kernel⟩⟩

theorem test_meets_ClearingOfThePresentedBundle :
    (∃ (l : LaneId) (i : OrderSlot) (o : Order) (s : State),
      s.heeds = true ∧ (s.lane l).drawer = .opened ∧ (s.lane l).load = some i ∧ s.order i = some o ∧
        o.state = .presented) :=
  ⟨2, 5, { anOrder 2 .presented with presented := 3 }, withOrder 5 1 { anOrder 2 .presented with
      presented := 3 } (ready.modLane 2 fun r => { r with
        session := .opened, load := some 5, drawer := .opened }), by decide +kernel⟩

theorem test_meets_EndOfDumpsAndPurges :
    (∃ (l : LaneId) (i : OrderSlot) (o : Order) (s : State),
      s.heeds = true ∧ (s.laneWork l).dump.isSome = true ∧ (s.lane l).head = some i ∧ s.order i = some o ∧
        o.state = .aborting) ∧
    (∃ (i : OrderSlot) (o : Order) (s : State),
      s.heeds = true ∧ s.path.state = .purging ∧ s.path.holder = some (.order i) ∧ s.path.run.isSome = true ∧
        s.order i = some o ∧ o.state = .aborting) :=
  ⟨⟨2, 5, { anOrder 2 .aborting with reason := some .laneLock }, (withOrder 5 1 { anOrder 2 .aborting with
      reason := some .laneLock } (ready.modLane 2 fun r => { r with head := some 5 })).modWork 2 fun w => { w with
        dump := some 0 }, by decide +kernel⟩,
   ⟨5, { anOrder 2 .aborting with reason := some .lockdown }, (withOrder 5 1 { anOrder 2 .aborting with
       reason := some .lockdown } ready).modPath fun p => { p with
         state := .purging, holder := some (.order 5), run := some 0 }, by decide +kernel⟩⟩

theorem test_meets_JamsFailTheOrderAndLockTheLane :
    (∃ (l : LaneId) (i : OrderSlot) (o : Order) (s : State),
      s.heeds = true ∧ ((s.lane l).drawer = .extending ∨ (s.lane l).drawer = .retracting) ∧
        (s.lane l).load = some i ∧ s.order i = some o ∧ (o.state = .staged ∨ o.state = .recalling)) ∧
    (∃ (l : LaneId) (s : State),
      s.heeds = true ∧ ((s.lane l).drawer = .extending ∨ (s.lane l).drawer = .retracting) ∧ (s.lane l).load = none) ∧
    (∃ (i : OrderSlot) (o : Order) (s : State),
      s.heeds = true ∧ s.path.state = .routing ∧ s.path.holder = some (.order i) ∧ s.order i = some o ∧
        o.state = .routing) :=
  ⟨⟨2, 5, { anOrder 2 .recalling with presented := 3, retracted := 2 }, withOrder 5 1 { anOrder 2 .recalling with
      presented := 3, retracted := 2 } (ready.modLane 2 fun r => { r with
        load := some 5, drawer := .retracting }), by decide +kernel⟩,
   ⟨2, ready.modLane 2 fun r => { r with drawer := .extending, claim := true }, by decide +kernel⟩,
   ⟨5, (anOrder 2 .routing), (withOrder 5 1 (anOrder 2 .routing) ready).modPath fun p => { p with
       state := .routing, holder := some (.order 5), run := some 0 }, by decide +kernel⟩⟩

theorem test_meets_ServiceClearsReturnTheMachinery :
    (∃ (ps : List Byte) (l : LaneId) (n : LimitNote) (s : State),
      s.awake = true ∧ carries 1 ps = true ∧ s.alarm.service = true ∧ laneOf (byteAt ps 0) = some l ∧
        (s.lane l).drawer = .jammed ∧ (s.laneWork l).jamNote = some n) ∧
    (∃ (ps : List Byte) (l : LaneId) (s : State),
      s.awake = true ∧ carries 1 ps = true ∧ s.alarm.service = true ∧ laneOf (byteAt ps 0) = some l ∧
        ((s.lane l).drawer ≠ .jammed ∨ (s.laneWork l).jamNote = none)) ∧
    (∃ (ps : List Byte) (s : State),
      s.awake = true ∧ carries 0 ps = true ∧ s.alarm.service = true ∧ s.path.state = .jammed) ∧
    (∃ (ps : List Byte) (s : State),
      s.awake = true ∧ carries 0 ps = true ∧ s.alarm.service = true) ∧
    (∃ (ps : List Byte) (s : State),
      s.awake = true ∧ carries 1 ps = true ∧ s.alarm.service = false) :=
  ⟨⟨[3], 2, .outer, ((ready.modAlarm fun a => { a with service := true }).modLane 2 fun r => { r with
      drawer := .jammed, lock := .jam }).modWork 2 fun w => { w with jamNote := some .outer }, by decide +kernel⟩,
   ⟨[3], 2, ready.modAlarm fun a => { a with service := true }, by decide +kernel⟩,
   ⟨[], (ready.modAlarm fun a => { a with service := true }).modPath fun p => { p with
       state := .jammed, jam := some { lane := 1, late := true } }, by decide +kernel⟩,
   ⟨[], ready.modAlarm fun a => { a with service := true }, by decide +kernel⟩,
   ⟨[1], ready, by decide +kernel⟩⟩

theorem test_meets_GrantTakesTheOldestGrantableClaim :
    (∃ (i : OrderSlot) (o : Order) (s : State),
      s.heeds = true ∧ s.path.state = .free ∧ s.sup.mode = .active ∧ s.lockdown = false ∧
        s.path.rejectPause = false ∧ s.path.queue.find? (fun c => s.grantable c && s.serves c) = some (.order i) ∧
        s.order i = some o ∧ o.state = .queued) ∧
    (∃ (c : CassetteId) (v : Leveling) (s : State),
      s.heeds = true ∧ s.path.state = .free ∧ s.sup.mode = .active ∧ s.lockdown = false ∧
        s.path.rejectPause = false ∧ s.path.queue.find? (fun c => s.grantable c && s.serves c) = some (.leveling c) ∧
        (s.cassette c).leveling = some v ∧ v.phase = .waiting) ∧
    (∃ (s : State),
      s.heeds = true ∧ (s.path.state ≠ .free ∨ s.sup.mode ≠ .active ∨ s.lockdown = true ∨ s.path.rejectPause = true ∨
        s.path.queue.find? (fun c => s.grantable c && s.serves c) = none)) :=
  ⟨⟨5, (anOrder 2 .queued), (withOrder 5 1 (anOrder 2 .queued) ready).modPath fun p => { p with
      queue := [.order 5] }, by decide +kernel⟩,
   ⟨4, { phase := .waiting, trials := 0, lastTrial := none }, (ready.modCassette 4 fun r => { r with
       state := .leveling, leveling := some {
         phase := .waiting, trials := 0, lastTrial := none } }).modPath fun p => { p with
           queue := [.leveling 4] }, by decide +kernel⟩,
   ⟨ready.modPath fun p => { p with rejectPause := true }, by decide +kernel⟩⟩

theorem test_meets_GaugeAcceptsSingles :
    (∃ (g : Reading) (i : OrderSlot) (o : Order) (k : Nat) (e : MixEntry) (a : Attempt) (s : State),
      s.heeds = true ∧ s.path.state = .picking ∧ s.path.holder = some (.order i) ∧ s.order i = some o ∧
        o.state = .picking ∧ s.path.entry = some k ∧ o.mix[k]? = some e ∧ s.path.attempt = some a ∧ a.last = false ∧
        (s.cassette e.slot).reference ≤ 2 * g.val ∧ 2 * g.val < 3 * (s.cassette e.slot).reference ∧ g.val ≠ 1023 ∧
        1 ≤ (s.cassette e.slot).current) ∧
    (∃ (g : Reading) (i : OrderSlot) (o : Order) (k : Nat) (e : MixEntry) (a : Attempt) (s : State),
      s.heeds = true ∧ s.path.state = .picking ∧ s.path.holder = some (.order i) ∧ s.order i = some o ∧
        o.state = .picking ∧ s.path.entry = some k ∧ o.mix[k]? = some e ∧ s.path.attempt = some a ∧ a.last = true ∧
        (s.cassette e.slot).reference ≤ 2 * g.val ∧ 2 * g.val < 3 * (s.cassette e.slot).reference ∧ g.val ≠ 1023) :=
  ⟨⟨300, 3, (anOrder 1 .picking), 0, firstEntry, {
      left := 100, last := false, noMiss := false }, picking 3 (anOrder 1 .picking) ready, by decide +kernel⟩,
   ⟨300, 3, (anOrder 1 .picking), 0, firstEntry, {
       left := 100, last := true, noMiss := false }, (picking 3 (anOrder 1 .picking) ready).modPath fun p => { p with
         attempt := some { left := 100, last := true, noMiss := false } }, by decide +kernel⟩⟩

theorem test_meets_GaugeRejectsDebitTheCassette :
    (∃ (g : Reading) (q : Nat) (i : OrderSlot) (o : Order) (k : Nat) (e : MixEntry) (a : Attempt) (s : State),
      s.heeds = true ∧ s.path.state = .picking ∧ s.path.holder = some (.order i) ∧ s.order i = some o ∧
        o.state = .picking ∧ s.path.entry = some k ∧ o.mix[k]? = some e ∧ s.path.attempt = some a ∧ a.last = false ∧
        ((q = 1 ∧ 2 * g.val < (s.cassette e.slot).reference) ∨ (q = 2 ∧ g.val ≠ 1023 ∧
          3 * (s.cassette e.slot).reference ≤ 2 * g.val ∧ 2 * g.val < 5 * (s.cassette e.slot).reference) ∨ (q = 3 ∧
            (s.cassette e.slot).reference ≤ 2 * g.val ∧ (g.val = 1023 ∨
              5 * (s.cassette e.slot).reference ≤ 2 * g.val))) ∧ 1 ≤ (s.cassette e.slot).current ∧
        o.rejectItems + 1 ≠ s.custody.settings.maxRejects ∧
        (s.cassette e.slot).reserved ≤ (s.cassette e.slot).current - min q (s.cassette e.slot).current) ∧
    (∃ (g : Reading) (q : Nat) (i : OrderSlot) (o : Order) (k : Nat) (e : MixEntry) (a : Attempt) (s : State),
      s.heeds = true ∧ s.path.state = .picking ∧ s.path.holder = some (.order i) ∧ s.order i = some o ∧
        o.state = .picking ∧ s.path.entry = some k ∧ o.mix[k]? = some e ∧ s.path.attempt = some a ∧
        ((q = 1 ∧ 2 * g.val < (s.cassette e.slot).reference) ∨ (q = 2 ∧ g.val ≠ 1023 ∧
          3 * (s.cassette e.slot).reference ≤ 2 * g.val ∧ 2 * g.val < 5 * (s.cassette e.slot).reference) ∨ (q = 3 ∧
            (s.cassette e.slot).reference ≤ 2 * g.val ∧ (g.val = 1023 ∨
              5 * (s.cassette e.slot).reference ≤ 2 * g.val))) ∧ o.rejectItems + 1 = s.custody.settings.maxRejects ∧
        o.acceptedTotal ≠ 0) ∧
    (∃ (g : Reading) (q : Nat) (i : OrderSlot) (o : Order) (k : Nat) (e : MixEntry) (a : Attempt) (s : State),
      s.heeds = true ∧ s.path.state = .picking ∧ s.path.holder = some (.order i) ∧ s.order i = some o ∧
        o.state = .picking ∧ s.path.entry = some k ∧ o.mix[k]? = some e ∧ s.path.attempt = some a ∧
        ((q = 1 ∧ 2 * g.val < (s.cassette e.slot).reference) ∨ (q = 2 ∧ g.val ≠ 1023 ∧
          3 * (s.cassette e.slot).reference ≤ 2 * g.val ∧ 2 * g.val < 5 * (s.cassette e.slot).reference) ∨ (q = 3 ∧
            (s.cassette e.slot).reference ≤ 2 * g.val ∧ (g.val = 1023 ∨
              5 * (s.cassette e.slot).reference ≤ 2 * g.val))) ∧ o.rejectItems + 1 = s.custody.settings.maxRejects ∧
        o.acceptedTotal = 0) ∧
    (∃ (g : Reading) (q : Nat) (i : OrderSlot) (o : Order) (k : Nat) (e : MixEntry) (a : Attempt) (s : State),
      s.heeds = true ∧ s.path.state = .picking ∧ s.path.holder = some (.order i) ∧ s.order i = some o ∧
        o.state = .picking ∧ s.path.entry = some k ∧ o.mix[k]? = some e ∧ s.path.attempt = some a ∧
        ((q = 1 ∧ 2 * g.val < (s.cassette e.slot).reference) ∨ (q = 2 ∧ g.val ≠ 1023 ∧
          3 * (s.cassette e.slot).reference ≤ 2 * g.val ∧ 2 * g.val < 5 * (s.cassette e.slot).reference) ∨ (q = 3 ∧
            (s.cassette e.slot).reference ≤ 2 * g.val ∧ (g.val = 1023 ∨
              5 * (s.cassette e.slot).reference ≤ 2 * g.val))) ∧ o.rejectItems + 1 ≠ s.custody.settings.maxRejects ∧
        (s.cassette e.slot).current - min q (s.cassette e.slot).current < (s.cassette e.slot).reserved ∧
        (s.cassette e.slot).current - min q (s.cassette e.slot).current < o.need e.slot) ∧
    (∃ (g : Reading) (q : Nat) (j : OrderSlot) (p : Order) (i : OrderSlot) (o : Order) (k : Nat) (e : MixEntry) (a : Attempt) (s : State),
      s.heeds = true ∧ s.path.state = .picking ∧ s.path.holder = some (.order i) ∧ s.order i = some o ∧
        o.state = .picking ∧ s.path.entry = some k ∧ o.mix[k]? = some e ∧ s.path.attempt = some a ∧
        ((q = 1 ∧ 2 * g.val < (s.cassette e.slot).reference) ∨ (q = 2 ∧ g.val ≠ 1023 ∧
          3 * (s.cassette e.slot).reference ≤ 2 * g.val ∧ 2 * g.val < 5 * (s.cassette e.slot).reference) ∨ (q = 3 ∧
            (s.cassette e.slot).reference ≤ 2 * g.val ∧ (g.val = 1023 ∨
              5 * (s.cassette e.slot).reference ≤ 2 * g.val))) ∧ o.rejectItems + 1 ≠ s.custody.settings.maxRejects ∧
        o.need e.slot ≤ (s.cassette e.slot).current - min q (s.cassette e.slot).current ∧ s.order j = some p ∧
        j ≠ i ∧ (p.state = .held ∨ p.state = .queued) ∧ 0 < p.need e.slot ∧ j ∈ s.custody.placement ∧
        s.custody.placement.Nodup) ∧
    (∃ (g : Reading) (q : Nat) (i : OrderSlot) (o : Order) (k : Nat) (e : MixEntry) (a : Attempt) (s : State),
      s.heeds = true ∧ s.path.state = .picking ∧ s.path.holder = some (.order i) ∧ s.order i = some o ∧
        o.state = .picking ∧ s.path.entry = some k ∧ o.mix[k]? = some e ∧ s.path.attempt = some a ∧ a.last = true ∧
        ((q = 1 ∧ 2 * g.val < (s.cassette e.slot).reference) ∨ (q = 2 ∧ g.val ≠ 1023 ∧
          3 * (s.cassette e.slot).reference ≤ 2 * g.val ∧ 2 * g.val < 5 * (s.cassette e.slot).reference) ∨ (q = 3 ∧
            (s.cassette e.slot).reference ≤ 2 * g.val ∧ (g.val = 1023 ∨
              5 * (s.cassette e.slot).reference ≤ 2 * g.val))) ∧ 1 ≤ (s.cassette e.slot).current ∧
        o.rejectItems + 1 ≠ s.custody.settings.maxRejects ∧
        (s.cassette e.slot).reserved ≤ (s.cassette e.slot).current - min q (s.cassette e.slot).current) :=
  ⟨⟨700, 2, 3, (anOrder 1 .picking), 0, firstEntry, {
      left := 100, last := false, noMiss := false }, picking 3 (anOrder 1 .picking) ready, by decide +kernel⟩,
   ⟨100, 1, 3, { anOrder 1 .picking with rejectItems := 7 }, 0, firstEntry, {
       left := 100, last := false, noMiss := false }, picking 3 { anOrder 1 .picking with
         rejectItems := 7 } ready, by decide +kernel⟩,
   ⟨100, 1, 3, (unpicked 7), 0, { firstEntry with accepted := 0 }, {
       left := 100, last := false, noMiss := false }, picking 3 (unpicked 7) ready, by decide +kernel⟩,
   ⟨1023, 3, 3, (anOrder 1 .picking), 0, firstEntry, {
       left := 100, last := false, noMiss := false }, (picking 3 (anOrder 1 .picking) ready).modCassette 0 fun r => { r with current := 4, reserved := 4 }, by decide +kernel⟩,
   ⟨1023, 3, 5, (anOrder 2 .held), 3, (anOrder 1 .picking), 0, firstEntry, {
       left := 100, last := false, noMiss := false }, (withOrder 5 1 (anOrder 2 .held) (picking 3 (anOrder 1 .picking) ready)).modCassette 0 fun r => { r with current := 6, reserved := 4 }, by decide +kernel⟩,
   ⟨700, 2, 3, (anOrder 1 .picking), 0, firstEntry, {
       left := 100, last := true, noMiss := false }, (picking 3 (anOrder 1 .picking) ready).modPath fun p => { p with
         attempt := some { left := 100, last := true, noMiss := false } }, by decide +kernel⟩⟩

theorem test_meets_GaugeHoldsTheLevelingNote :
    (∃ (g : Reading) (c : CassetteId) (v : Leveling) (a : Attempt) (s : State),
      s.heeds = true ∧ s.path.state = .leveling ∧ s.path.holder = some (.leveling c) ∧
        (s.cassette c).leveling = some v ∧ v.phase = .fetching ∧ s.path.attempt = some a ∧ a.last = false) ∧
    (∃ (g : Reading) (c : CassetteId) (v : Leveling) (a : Attempt) (s : State),
      s.heeds = true ∧ s.path.state = .leveling ∧ s.path.holder = some (.leveling c) ∧
        (s.cassette c).leveling = some v ∧ v.phase = .fetching ∧ s.path.attempt = some a ∧ a.last = true) :=
  ⟨⟨230, 4, { phase := .fetching, trials := 0, lastTrial := none }, {
      left := 100, last := false, noMiss := false }, levelingAt 4 {
        phase := .fetching, trials := 0, lastTrial := none } ready, by decide +kernel⟩,
   ⟨230, 4, { phase := .fetching, trials := 0, lastTrial := none }, {
       left := 100, last := true, noMiss := false }, (levelingAt 4 {
         phase := .fetching, trials := 0, lastTrial := none } ready).modPath fun p => { p with
           heldReading := none, attempt := some { left := 100, last := true, noMiss := false } }, by decide +kernel⟩⟩

theorem test_meets_MissesAndWriteOff :
    (∃ (i : OrderSlot) (o : Order) (c : CassetteId) (a : Attempt) (s : State),
      s.heeds = true ∧ s.path.state = .picking ∧ s.path.holder = some (.order i) ∧ s.order i = some o ∧
        s.pickTarget = some c ∧ s.path.attempt = some a ∧ a.last = false ∧ s.path.misses ≠ 2) ∧
    (∃ (i : OrderSlot) (o : Order) (c : CassetteId) (a : Attempt) (s : State),
      s.heeds = true ∧ s.path.state = .picking ∧ s.path.holder = some (.order i) ∧ s.order i = some o ∧
        o.state = .picking ∧ s.pickTarget = some c ∧ s.path.attempt = some a ∧ a.last = false ∧ s.path.misses = 2 ∧
        0 < o.need c ∧ o.need c ≤ (s.cassette c).reserved ∧ 0 < (s.cassette c).current) ∧
    (∃ (i j : OrderSlot) (o p : Order) (c : CassetteId) (a : Attempt) (s : State),
      s.heeds = true ∧ s.path.state = .picking ∧ s.path.holder = some (.order i) ∧ s.order i = some o ∧
        o.state = .picking ∧ s.pickTarget = some c ∧ s.path.attempt = some a ∧ a.last = false ∧ s.path.misses = 2 ∧
        0 < o.need c ∧ 0 < (s.cassette c).reserved ∧ s.order j = some p ∧ j ≠ i ∧
        (p.state = .held ∨ p.state = .queued) ∧ 0 < p.need c ∧ j ∈ s.custody.placement ∧ s.custody.placement.Nodup) ∧
    (∃ (c : CassetteId) (v : Leveling) (a : Attempt) (s : State),
      s.heeds = true ∧ s.path.state = .leveling ∧ s.path.holder = some (.leveling c) ∧
        (s.cassette c).leveling = some v ∧ v.phase = .fetching ∧ s.path.attempt = some a ∧ a.last = false ∧
        (s.path.misses ≠ 2 ∨ a.noMiss = true)) ∧
    (∃ (c : CassetteId) (v : Leveling) (a : Attempt) (s : State),
      s.heeds = true ∧ s.path.state = .leveling ∧ s.path.holder = some (.leveling c) ∧
        (s.cassette c).leveling = some v ∧ v.phase = .fetching ∧ s.path.attempt = some a ∧ a.last = false ∧
        a.noMiss = false ∧ s.path.misses = 2 ∧ s.path.heldReading = none) ∧
    (∃ (c : CassetteId) (v : Leveling) (a : Attempt) (s : State),
      s.heeds = true ∧ s.path.state = .leveling ∧ s.path.holder = some (.leveling c) ∧
        (s.cassette c).leveling = some v ∧ v.phase = .fetching ∧ s.path.attempt = some a ∧ a.last = true ∧
        s.path.heldReading = none) ∧
    (∃ (i : OrderSlot) (o : Order) (c : CassetteId) (a : Attempt) (s : State),
      s.heeds = true ∧ s.path.state = .picking ∧ s.path.holder = some (.order i) ∧ s.order i = some o ∧
        o.state = .picking ∧ s.pickTarget = some c ∧ s.path.attempt = some a ∧ a.last = true) :=
  ⟨⟨3, (anOrder 1 .picking), 0, {
      left := 100, last := false, noMiss := false }, picking 3 (anOrder 1 .picking) ready, by decide +kernel⟩,
   ⟨3, (anOrder 1 .picking), 0, {
       left := 100, last := false, noMiss := false }, (picking 3 (anOrder 1 .picking) ready).modPath fun p => { p with misses := 2 }, by decide +kernel⟩,
   ⟨3, 5, (anOrder 1 .picking), (anOrder 2 .held), 0, {
       left := 100, last := false, noMiss := false }, (withOrder 5 1 (anOrder 2 .held) (picking 3 (anOrder 1 .picking) ready)).modPath fun p => { p with misses := 2 }, by decide +kernel⟩,
   ⟨4, { phase := .fetching, trials := 0, lastTrial := none }, {
       left := 0, last := false, noMiss := true }, (levelingAt 4 {
         phase := .fetching, trials := 0, lastTrial := none } ready).modPath fun p => { p with
           heldReading := none, attempt := some { left := 0, last := false, noMiss := true } }, by decide +kernel⟩,
   ⟨4, { phase := .fetching, trials := 0, lastTrial := none }, {
       left := 0, last := false, noMiss := false }, (levelingAt 4 {
         phase := .fetching, trials := 0, lastTrial := none } ready).modPath fun p => { p with
           heldReading := none, attempt := some {
             left := 0, last := false, noMiss := false }, misses := 2 }, by decide +kernel⟩,
   ⟨4, { phase := .fetching, trials := 0, lastTrial := none }, {
       left := 0, last := true, noMiss := false }, (levelingAt 4 {
         phase := .fetching, trials := 0, lastTrial := none } ready).modPath fun p => { p with
           heldReading := none, attempt := some { left := 0, last := true, noMiss := false } }, by decide +kernel⟩,
   ⟨3, (anOrder 1 .picking), 0, {
       left := 0, last := true, noMiss := false }, (picking 3 (anOrder 1 .picking) ready).modPath fun p => { p with
         attempt := some { left := 0, last := true, noMiss := false } }, by decide +kernel⟩⟩

theorem test_meets_BundleArrivalAndLateArrival :
    (∃ (l : LaneId) (i : OrderSlot) (o : Order) (s : State),
      s.heeds = true ∧ s.path.state = .routing ∧ s.path.holder = some (.order i) ∧ s.order i = some o ∧ o.lane = l ∧
        o.state = .routing ∧ (s.lane l).session = .opened ∧ s.lockdown = false ∧ (s.lane l).head = none) ∧
    (∃ (l : LaneId) (i : OrderSlot) (o : Order) (c : CloseCause) (s : State),
      s.heeds = true ∧ s.path.state = .routing ∧ s.path.holder = some (.order i) ∧ s.order i = some o ∧ o.lane = l ∧
        o.state = .routing ∧ ((s.lane l).session = .closing c ∨ ((s.lane l).session = .opened ∧ s.lockdown = true)) ∧
        (s.lane l).head = none) ∧
    (∃ (l : LaneId) (j : Jam) (s : State),
      s.heeds = true ∧ s.path.state = .jammed ∧ s.path.jam = some j) ∧
    (∃ (l : LaneId) (i : OrderSlot) (o : Order) (s : State),
      s.heeds = true ∧ s.path.state = .routing ∧ s.path.holder = some (.order i) ∧ s.order i = some o ∧ o.lane ≠ l) ∧
    (∃ (l : LaneId) (s : State),
      s.heeds = true ∧ s.path.state ≠ .routing ∧ s.path.state ≠ .jammed) :=
  ⟨⟨2, 5, (anOrder 2 .routing), ((withOrder 5 1 (anOrder 2 .routing) ready).modPath fun p => { p with
      state := .routing, holder := some (.order 5), run := some 9 }).modLane 2 fun r => { r with
        session := .opened }, by decide +kernel⟩,
   ⟨2, 5, (anOrder 2 .routing), .laneLock, ((withOrder 5 1 (anOrder 2 .routing) ready).modPath fun p => { p with
       state := .routing, holder := some (.order 5), run := some 9 }).modLane 2 fun r => { r with
         session := .closing .laneLock }, by decide +kernel⟩,
   ⟨1, { lane := 1, late := false }, ready.modPath fun p => { p with
       state := .jammed, jam := some { lane := 1, late := false } }, by decide +kernel⟩,
   ⟨1, 5, (anOrder 2 .routing), (withOrder 5 1 (anOrder 2 .routing) ready).modPath fun p => { p with
       state := .routing, holder := some (.order 5), run := some 9 }, by decide +kernel⟩,
   ⟨1, ready, by decide +kernel⟩⟩

theorem test_meets_EdgesCountNotesIntoTheRetractBin :
    (∃ (i : OrderSlot) (o : Order) (s : State),
      s.heeds = true ∧ s.path.state = .purging ∧ s.path.holder = some (.order i) ∧ s.order i = some o) ∧
    (∃ (l : LaneId) (i : OrderSlot) (o : Order) (s : State),
      s.heeds = true ∧ (s.laneWork l).dump.isSome = true ∧ (s.lane l).head = some i ∧ s.order i = some o) ∧
    (∃ (l : LaneId) (i : OrderSlot) (o : Order) (s : State),
      s.heeds = true ∧ (s.laneWork l).dump = none ∧ (s.lane l).drawer = .retracting ∧ (s.lane l).load = some i ∧
        s.order i = some o) ∧
    (∃ (s : State),
      s.heeds = true ∧ (∀ i, s.path.state = .purging → s.path.holder ≠ some (.order i))) ∧
    (∃ (l : LaneId) (s : State),
      s.heeds = true ∧ (s.laneWork l).dump = none ∧ ((s.lane l).drawer ≠ .retracting ∨ (s.lane l).load = none)) ∧
    (∃ (n : Nat) (s : State),
      s.heeds = true) :=
  ⟨⟨5, (anOrder 2 .aborting), (withOrder 5 1 (anOrder 2 .aborting) ready).modPath fun p => { p with
      state := .purging, holder := some (.order 5), run := some 9 }, by decide +kernel⟩,
   ⟨2, 5, (anOrder 2 .aborting), (withOrder 5 1 (anOrder 2 .aborting) (ready.modLane 2 fun r => { r with
       head := some 5 })).modWork 2 fun w => { w with dump := some 9 }, by decide +kernel⟩,
   ⟨2, 5, { anOrder 2 .recalling with presented := 3 }, withOrder 5 1 { anOrder 2 .recalling with
       presented := 3 } (ready.modLane 2 fun r => { r with
         load := some 5, drawer := .retracting }), by decide +kernel⟩,
   ⟨ready, by decide +kernel⟩,
   ⟨2, ready, by decide +kernel⟩,
   ⟨4, ready, by decide +kernel⟩⟩

theorem test_meets_ZoneSetAndBypass :
    (∃ (ps : List Byte) (z : ZoneId) (g : Group) (r : Response) (l : Option LaneId) (s : State),
      s.takes = true ∧ carries 5 ps = true ∧ s.alarm.service = true ∧ zoneOf (byteAt ps 0) = some z ∧
        groupOf (byteAt ps 1) = some g ∧ responseOf (byteAt ps 2) = some r ∧ zoneLaneOf z (byteAt ps 3) = some l ∧
        (r ≠ .laneLock ∨ l ≠ none) ∧ (s.zone z).state ≠ .delay ∧ (s.zone z).state ≠ .latched) ∧
    (∃ (ps : List Byte) (z : ZoneId) (s : State),
      s.takes = true ∧ carries 1 ps = true ∧ s.alarm.service = true ∧ zoneOf (byteAt ps 0) = some z ∧
        (s.zone z).state ≠ .delay ∧ (s.zone z).state ≠ .latched) ∧
    (∃ (ps : List Byte) (s : State),
      s.takes = true ∧ carries 5 ps = true ∧ s.alarm.service = false) ∧
    (∃ (ps : List Byte) (z : ZoneId) (s : State),
      s.takes = true ∧ carries 1 ps = true ∧ s.alarm.service = true ∧ zoneOf (byteAt ps 0) = some z ∧
        ((s.zone z).state = .delay ∨ (s.zone z).state = .latched)) ∧
    (∃ (ps : List Byte) (z : ZoneId) (g : Group) (r : Response) (l : Option LaneId) (s : State),
      s.takes = true ∧ carries 5 ps = true ∧ s.alarm.service = true ∧ zoneOf (byteAt ps 0) = some z ∧
        groupOf (byteAt ps 1) = some g ∧ responseOf (byteAt ps 2) = some r ∧ zoneLaneOf z (byteAt ps 3) = some l ∧
        (r ≠ .laneLock ∨ l ≠ none) ∧ ((s.zone z).state = .delay ∨ (s.zone z).state = .latched)) ∧
    (∃ (ps : List Byte) (s : State),
      s.takes = true ∧ carries 5 ps = true ∧ s.alarm.service = true ∧
        (zoneOf (byteAt ps 0) = none ∨ 3 ≤ byteAt ps 1 ∨ 4 ≤ byteAt ps 2 ∨ (∀ z, zoneOf (byteAt ps 0) = some z →
          zoneLaneOf z (byteAt ps 3) = none) ∨ (byteAt ps 2 = 1 ∧ byteAt ps 3 = 0))) :=
  ⟨⟨[11, 0, 1, 2, 90], 10, .day, .laneLock, (some 1), ((ready).modAlarm fun a => { a with
      service := true }), by decide +kernel⟩,
   ⟨[16], 15, ((ready).modAlarm fun a => { a with service := true }), by decide +kernel⟩,
   ⟨[16, 2, 3, 0, 0], ready, by decide +kernel⟩,
   ⟨[16], 15, ((ready).modAlarm fun a => { a with service := true }) |>.modZone 15 fun z => { z with
       state := .latched }, by decide +kernel⟩,
   ⟨[11, 0, 1, 2, 90], 10, .day, .laneLock, (some 1), ((ready).modAlarm fun a => { a with
       service := true }) |>.modZone 10 fun z => { z with state := .delay }, by decide +kernel⟩,
   ⟨[17, 0, 1, 2, 90], ((ready).modAlarm fun a => { a with service := true }), by decide +kernel⟩⟩

theorem test_meets_ArmAndDisarm :
    (∃ (ps : List Byte) (g : Group) (s : State),
      s.takes = true ∧ carries 1 ps = true ∧ armGroupOf (byteAt ps 0) = some g ∧
        (∀ z, (s.zone z).group = g → s.bypassed z = false → (s.zone z).input = .quiet)) ∧
    (∃ (ps : List Byte) (g : Group) (z : ZoneId) (s : State),
      s.takes = true ∧ carries 1 ps = true ∧ armGroupOf (byteAt ps 0) = some g ∧
        ((s.zone z).group = g ∧ s.bypassed z = false ∧ (s.zone z).input = .active) ∧
        (∀ y, y < z → (s.zone y).group = g → s.bypassed y = false → (s.zone y).input = .quiet)) ∧
    (∃ (ps : List Byte) (g : Group) (s : State),
      s.takes = true ∧ carries 1 ps = true ∧ armGroupOf (byteAt ps 0) = some g) ∧
    (∃ (ps : List Byte) (s : State),
      s.takes = true ∧ carries 1 ps = true ∧ 2 ≤ byteAt ps 0) :=
  ⟨⟨[1], .night, ready, by decide +kernel⟩,
   ⟨[1], .night, 1, ready.modZone 1 fun z => { z with input := .active }, by decide +kernel⟩,
   ⟨[0], .day, ready.modZone 15 fun z => { z with state := .delay }, by decide +kernel⟩,
   ⟨[2], ready, by decide +kernel⟩⟩

theorem test_meets_AlarmResetClearsALatch :
    (∃ (ps : List Byte) (z : ZoneId) (s : State),
      s.takes = true ∧ carries 1 ps = true ∧ zoneOf (byteAt ps 0) = some z) ∧
    (∃ (ps : List Byte) (s : State),
      s.takes = true ∧ carries 1 ps = true ∧ zoneOf (byteAt ps 0) = none) ∧
    (∃ (ps : List Byte) (s : State),
      s.takes = true ∧ carries 0 ps = true) :=
  ⟨⟨[5], 4, ((((ready).modAlarm fun a => { a with service := true })).modZone 4 fun z => { z with
      state := .latched }) |>.modLane 1 fun r => { r with lock := .alarm 4 }, by decide +kernel⟩,
   ⟨[17], ready, by decide +kernel⟩,
   ⟨[], ready, by decide +kernel⟩⟩

theorem test_meets_ServiceModeBeginsAndEnds :
    (∃ (ps : List Byte) (s : State),
      s.awake = true ∧ carries 0 ps = true ∧ s.alarm.service = false ∧ s.alarm.key = true ∧
        (∀ l, (s.lane l).session = .closed) ∧ s.anyOrder (fun o => o.state.moving) = false ∧
        (∀ c, s.path.state = .leveling → s.path.holder = some (.leveling c) → (s.cassette c).shutter ≠ .opened ∧
          (s.cassette c).shutter ≠ .opening)) ∧
    (∃ (ps : List Byte) (c : CassetteId) (s : State),
      s.awake = true ∧ carries 0 ps = true ∧ s.alarm.service = false ∧ s.alarm.key = true ∧
        (∀ l, (s.lane l).session = .closed) ∧ s.anyOrder (fun o => o.state.moving) = false ∧
        s.path.state = .leveling ∧ s.path.holder = some (.leveling c) ∧
        ((s.cassette c).shutter = .opened ∨ (s.cassette c).shutter = .opening)) ∧
    (∃ (ps : List Byte) (s : State),
      s.awake = true ∧ carries 0 ps = true ∧ (s.alarm.service = true ∨ s.alarm.key = false ∨
        (∃ l, (s.lane l).session ≠ .closed) ∨ s.anyOrder (fun o => o.state.moving) = true)) ∧
    (∃ (ps : List Byte) (s : State),
      s.takes = true ∧ carries 0 ps = true ∧ s.alarm.service = true ∧
        (∀ z, serviceKind z = true → (s.zone z).input = .quiet) ∧
        (∀ z, (s.zone z).manualBypass = true → (s.zone z).group = .always → (s.zone z).input = .quiet)) ∧
    (∃ (ps : List Byte) (z : ZoneId) (s : State),
      s.takes = true ∧ carries 0 ps = true ∧ s.alarm.service = true ∧
        (serviceKind z = true ∧ (s.zone z).input = .active) ∧
        (∀ y, y < z → serviceKind y = true → (s.zone y).input = .quiet)) ∧
    (∃ (ps : List Byte) (s : State),
      s.takes = true ∧ carries 0 ps = true ∧ s.alarm.service = false) ∧
    (∃ (s : State),
      s.heeds = true ∧ s.alarm.service = true ∧ (∀ z, (s.zone z).state = .bypassed → (s.zone z).input = .quiet)) ∧
    (∃ (ps : List Byte) (z : ZoneId) (s : State),
      s.takes = true ∧ carries 0 ps = true ∧ s.alarm.service = true ∧
        (∀ y, serviceKind y = true → (s.zone y).input = .quiet) ∧ (s.zone z).state = .bypassed ∧
        (s.zone z).manualBypass = true ∧ (s.zone z).group = .always ∧ (s.zone z).input = .active) ∧
    (∃ (z : ZoneId) (s : State),
      s.heeds = true ∧ s.alarm.service = true ∧ (s.zone z).state = .bypassed ∧ (s.zone z).manualBypass = true ∧
        (s.zone z).group = .always ∧ (s.zone z).input = .active) ∧
    (∃ (z : ZoneId) (s : State),
      s.heeds = true ∧ s.alarm.service = true ∧ serviceKind z = true ∧ (s.zone z).state = .bypassed ∧
        (s.zone z).manualBypass = false ∧ (s.zone z).input = .active ∧ s.groupArmed (s.zone z).group = true) ∧
    (∃ (k : Bool) (s : State),
      s.heeds = true ∧ (k = true ∨ s.alarm.service = false)) :=
  ⟨⟨[], (ready.modAlarm fun a => { a with key := true }).modCassette 2 fun r => { r with
      shutter := .opened }, by decide +kernel⟩,
   ⟨[], 4, (levelingAt 4 { phase := .fetching, trials := 0, lastTrial := none } ready).modAlarm fun a => { a with
       key := true }, by decide +kernel⟩,
   ⟨[], ready.modAlarm fun a => { a with key := false }, by decide +kernel⟩,
   ⟨[], ((ready).modAlarm fun a => { a with service := true }) |>.modZone 2 fun z => { z with
       state := .bypassed }, by decide +kernel⟩,
   ⟨[], 2, ((ready).modAlarm fun a => { a with service := true }) |>.modZone 2 fun z => { z with
       input := .active, state := .bypassed }, by decide +kernel⟩,
   ⟨[], ready, by decide +kernel⟩,
   ⟨((ready).modAlarm fun a => { a with service := true }) |>.modZone 2 fun z => { z with
       state := .bypassed }, by decide +kernel⟩,
   ⟨[], 3, ((ready).modAlarm fun a => { a with service := true }) |>.modZone 3 fun z => { z with
       state := .bypassed, manualBypass := true, input := .active }, by decide +kernel⟩,
   ⟨3, ((ready).modAlarm fun a => { a with service := true }) |>.modZone 3 fun z => { z with
       state := .bypassed, manualBypass := true, input := .active }, by decide +kernel⟩,
   ⟨2, ((ready).modAlarm fun a => { a with service := true }) |>.modZone 2 fun z => { z with
       state := .bypassed, input := .active }, by decide +kernel⟩,
   ⟨true, ready, by decide +kernel⟩⟩

theorem test_meets_ZoneReportsActivateAndLatch :
    (∃ (z : ZoneId) (v : ZoneInput) (s : State),
      s.heeds = true ∧ (v = .quiet ∨ (s.zone z).state ≠ .normal ∨ s.groupArmed (s.zone z).group = false ∨
        s.bypassed z = true)) ∧
    (∃ (z : ZoneId) (s : State),
      s.heeds = true ∧ (s.zone z).state = .normal ∧ s.groupArmed (s.zone z).group = true ∧ s.bypassed z = false ∧
        (s.zone z).entryDelay ≠ 0) ∧
    (∃ (c : Instr) (z : ZoneId) (s : State),
      s.heeds = true ∧ Latches c z s ∧ ((s.zone z).response = .report ∨ (s.zone z).response = .silent)) ∧
    (∃ (c : Instr) (z : ZoneId) (l : LaneId) (s : State),
      s.heeds = true ∧ Latches c z s ∧ (s.zone z).response = .laneLock ∧ (s.zone z).lane = some l) ∧
    (∃ (c : Instr) (z : ZoneId) (l : LaneId) (s : State),
      s.heeds = true ∧ Latches c z s ∧ (s.zone z).response = .laneLock ∧ (s.zone z).lane = some l ∧
        (s.lane l).session ≠ .opened) ∧
    (∃ (c : Instr) (z : ZoneId) (l : LaneId) (s : State),
      s.heeds = true ∧ Latches c z s ∧ (s.zone z).response = .laneLock ∧ (s.zone z).lane = some l ∧
        (s.lane l).session = .opened) ∧
    (∃ (c : Instr) (z : ZoneId) (l : LaneId) (i : OrderSlot) (o : Order) (s : State),
      s.heeds = true ∧ Latches c z s ∧ (s.zone z).response = .laneLock ∧ (s.zone z).lane = some l ∧
        (s.lane l).session = .opened ∧ s.order i = some o ∧ s.waits l i = true) ∧
    (∃ (c : Instr) (z : ZoneId) (l : LaneId) (i : OrderSlot) (o : Order) (s : State),
      s.heeds = true ∧ Latches c z s ∧ (s.zone z).response = .laneLock ∧ (s.zone z).lane = some l ∧
        (s.lane l).session = .opened ∧ s.order i = some o ∧ s.waits l i = false ∧
        ((s.lane l).head = some i → o.state ≠ .staged) ∧
        ((s.lane l).load = some i → o.state ≠ .presented ∨ (s.lane l).drawer ≠ .opened)) ∧
    (∃ (c : Instr) (z : ZoneId) (l : LaneId) (i : OrderSlot) (o : Order) (s : State),
      s.heeds = true ∧ Latches c z s ∧ (s.zone z).response = .laneLock ∧ (s.zone z).lane = some l ∧
        (s.lane l).session = .opened ∧ (s.lane l).head = some i ∧ s.order i = some o ∧ o.state = .staged) ∧
    (∃ (c : Instr) (z : ZoneId) (l : LaneId) (i : OrderSlot) (o : Order) (s : State),
      s.heeds = true ∧ Latches c z s ∧ (s.zone z).response = .laneLock ∧ (s.zone z).lane = some l ∧
        (s.lane l).session = .opened ∧ (s.lane l).drawer = .opened ∧ (s.lane l).load = some i ∧ s.order i = some o ∧
        o.state = .presented) ∧
    (∃ (c : Instr) (z : ZoneId) (l : LaneId) (s : State),
      s.heeds = true ∧ Latches c z s ∧ (s.zone z).response = .laneLock ∧ (s.zone z).lane = some l ∧
        (s.lane l).session = .opened) ∧
    (∃ (c : Instr) (z : ZoneId) (s : State),
      s.heeds = true ∧ Latches c z s ∧ (s.zone z).response = .lockdown) ∧
    (∃ (c : Instr) (z : ZoneId) (s : State),
      s.heeds = true ∧ Latches c z s ∧ (s.zone z).response = .lockdown ∧ s.lockdown = true) ∧
    (∃ (c : Instr) (z : ZoneId) (s : State),
      s.heeds = true ∧ StartsLockdown c z s) ∧
    (∃ (c : Instr) (z : ZoneId) (k : CassetteId) (s : State),
      s.heeds = true ∧ StartsLockdown c z s ∧ ((s.cassette k).shutter = .opened ∨
        (s.cassette k).shutter = .opening)) ∧
    (∃ (c : Instr) (z : ZoneId) (l : LaneId) (s : State),
      s.heeds = true ∧ StartsLockdown c z s) ∧
    (∃ (c : Instr) (z : ZoneId) (l : LaneId) (i : OrderSlot) (o : Order) (s : State),
      s.heeds = true ∧ StartsLockdown c z s ∧ (s.lane l).head = some i ∧ (∀ k, k ≠ l → (s.lane k).head ≠ some i) ∧
        s.order i = some o ∧ o.state = .staged ∧ s.path.holder ≠ some (.order i)) ∧
    (∃ (c : Instr) (z : ZoneId) (l : LaneId) (i : OrderSlot) (o : Order) (s : State),
      s.heeds = true ∧ StartsLockdown c z s ∧ (s.lane l).drawer = .opened ∧ (s.lane l).load = some i ∧
        s.order i = some o ∧ o.state = .presented ∧ s.path.holder ≠ some (.order i)) ∧
    (∃ (c : Instr) (z : ZoneId) (i : OrderSlot) (o : Order) (s : State),
      s.heeds = true ∧ StartsLockdown c z s ∧ s.order i = some o ∧
        (o.state = .held ∨ o.state = .queued ∨ o.state = .recalling ∨ o.state = .aborting) ∧
        s.path.holder ≠ some (.order i)) ∧
    (∃ (c : Instr) (z : ZoneId) (i : OrderSlot) (a : Attempt) (s : State),
      s.heeds = true ∧ StartsLockdown c z s ∧ s.path.state = .picking ∧ s.path.holder = some (.order i) ∧
        s.path.attempt = some a) ∧
    (∃ (c : Instr) (z : ZoneId) (i : OrderSlot) (o : Order) (s : State),
      s.heeds = true ∧ StartsLockdown c z s ∧ s.path.state = .picking ∧ s.path.holder = some (.order i) ∧
        s.path.attempt = none ∧ s.order i = some o ∧ o.state = .picking) ∧
    (∃ (c : Instr) (z : ZoneId) (k : CassetteId) (v : Leveling) (s : State),
      s.heeds = true ∧ StartsLockdown c z s ∧ (s.cassette k).leveling = some v ∧ v.phase = .holding ∧
        s.path.holder = some (.leveling k) ∧ s.path.heldReading.isSome = true) ∧
    (∃ (c : Instr) (z : ZoneId) (k : CassetteId) (v : Leveling) (s : State),
      s.heeds = true ∧ StartsLockdown c z s ∧ (s.cassette k).leveling = some v ∧ v.phase = .waiting ∧
        s.path.holder ≠ some (.leveling k)) ∧
    (∃ (c : Instr) (z : ZoneId) (k : CassetteId) (v : Leveling) (a : Attempt) (s : State),
      s.heeds = true ∧ StartsLockdown c z s ∧ s.path.state = .leveling ∧ (s.cassette k).leveling = some v ∧
        v.phase = .fetching ∧ s.path.holder = some (.leveling k) ∧ s.path.attempt = some a) ∧
    (∃ (c : Instr) (z : ZoneId) (k : CassetteId) (v : Leveling) (s : State),
      s.heeds = true ∧ StartsLockdown c z s ∧ s.path.state = .leveling ∧ (s.cassette k).leveling = some v ∧
        v.phase = .fetching ∧ s.path.holder = some (.leveling k) ∧ s.path.attempt = none ∧
        s.path.heldReading = none) ∧
    (∃ (z : ZoneId) (s : State),
      s.heeds = true ∧ (s.zone z).state ≠ .delay) :=
  ⟨⟨3, .quiet, ready, by decide +kernel⟩,
   ⟨7, ready.modZone 7 fun z => { z with entryDelay := 30 }, by decide +kernel⟩,
   ⟨(.zoneInputReport 7 .active), 7, ready.modZone 7 fun z => { z with
       response := .silent }, by decide +kernel, by unfold Latches; decide +kernel, by decide +kernel⟩,
   ⟨(.zoneInputReport 4 .active), 4, 1, ready, by decide +kernel, by unfold Latches; decide +kernel, by decide +kernel, by decide +kernel⟩,
   ⟨(.zoneInputReport 4 .active), 4, 1, ready, by decide +kernel, by unfold Latches; decide +kernel, by decide +kernel, by decide +kernel, by decide +kernel⟩,
   ⟨(.zoneInputReport 4 .active), 4, 1, ready.modLane 1 fun r => { r with
       session := .opened }, by decide +kernel, by unfold Latches; decide +kernel, by decide +kernel, by decide +kernel, by decide +kernel⟩,
   ⟨(.zoneInputReport 4 .active), 4, 1, 5, (anOrder 1 .queued), withOrder 5 1 (anOrder 1 .queued) (ready.modLane 1 fun r => { r with session := .opened }), by decide +kernel, by unfold Latches; decide +kernel, by decide +kernel, by decide +kernel, by decide +kernel, by decide +kernel, by decide +kernel⟩,
   ⟨(.zoneInputReport 4 .active), 4, 1, 5, (anOrder 2 .queued), withOrder 5 1 (anOrder 2 .queued) (ready.modLane 1 fun r => { r with session := .opened }), by decide +kernel, by unfold Latches; decide +kernel, by decide +kernel, by decide +kernel, by decide +kernel, by decide +kernel, by decide +kernel, by decide +kernel, by decide +kernel⟩,
   ⟨(.zoneInputReport 4 .active), 4, 1, 5, (anOrder 1 .staged), withOrder 5 1 (anOrder 1 .staged) (ready.modLane 1 fun r => { r with session := .opened, head := some 5 }), by decide +kernel, by unfold Latches; decide +kernel, by decide +kernel, by decide +kernel, by decide +kernel, by decide +kernel, by decide +kernel, by decide +kernel⟩,
   ⟨(.zoneInputReport 4 .active), 4, 1, 5, (anOrder 1 .presented), withOrder 5 1 (anOrder 1 .presented) (ready.modLane 1 fun r => { r with session := .opened, drawer := .opened, load := some 5 }), by decide +kernel, by unfold Latches; decide +kernel, by decide +kernel, by decide +kernel, by decide +kernel, by decide +kernel, by decide +kernel, by decide +kernel, by decide +kernel⟩,
   ⟨(.zoneInputReport 4 .active), 4, 1, ready.modLane 1 fun r => { r with
       session := .opened, drawer := .extending }, by decide +kernel, by unfold Latches; decide +kernel, by decide +kernel, by decide +kernel, by decide +kernel⟩,
   ⟨(.zoneInputReport 2 .active), 2, ready, by decide +kernel, by unfold Latches; decide +kernel, by decide +kernel⟩,
   ⟨(.zoneInputReport 2 .active), 2, ready.modZone 9 fun z => { z with
       state := .latched }, by decide +kernel, by unfold Latches; decide +kernel, by decide +kernel, by decide +kernel⟩,
   ⟨(.zoneInputReport 2 .active), 2, ready.modCassette 1 fun r => { r with
       shutter := .opened }, by decide +kernel, by unfold StartsLockdown Latches; decide +kernel⟩,
   ⟨(.zoneInputReport 2 .active), 2, 1, ready.modCassette 1 fun r => { r with
       shutter := .opened }, by decide +kernel, by unfold StartsLockdown Latches; decide +kernel, by decide +kernel⟩,
   ⟨(.zoneInputReport 2 .active), 2, 2, ready.modLane 2 fun r => { r with
       drawer := .opened }, by decide +kernel, by unfold StartsLockdown Latches; decide +kernel⟩,
   ⟨(.zoneInputReport 2 .active), 2, 2, 5, (anOrder 2 .staged), withOrder 5 1 (anOrder 2 .staged) (ready.modLane 2 fun r => { r with head := some 5 }), by decide +kernel, by unfold StartsLockdown Latches; decide +kernel, by decide +kernel, by decide +kernel, by decide +kernel, by decide +kernel, by decide +kernel⟩,
   ⟨(.zoneInputReport 2 .active), 2, 2, 5, (anOrder 2 .presented), withOrder 5 1 (anOrder 2 .presented) (ready.modLane 2 fun r => { r with drawer := .opened, load := some 5 }), by decide +kernel, by unfold StartsLockdown Latches; decide +kernel, by decide +kernel, by decide +kernel, by decide +kernel, by decide +kernel, by decide +kernel⟩,
   ⟨(.zoneInputReport 2 .active), 2, 5, (anOrder 2 .queued), withOrder 5 1 (anOrder 2 .queued) ready, by decide +kernel, by unfold StartsLockdown Latches; decide +kernel, by decide +kernel, by decide +kernel, by decide +kernel⟩,
   ⟨(.zoneInputReport 2 .active), 2, 3, {
       left := 100, last := false, noMiss := false }, picking 3 (anOrder 1 .picking) ready, by decide +kernel, by unfold StartsLockdown Latches; decide +kernel, by decide +kernel, by decide +kernel, by decide +kernel⟩,
   ⟨(.zoneInputReport 2 .active), 2, 3, (anOrder 1 .picking), (picking 3 (anOrder 1 .picking) ready).modPath fun p => { p with attempt := none }, by decide +kernel, by unfold StartsLockdown Latches; decide +kernel, by decide +kernel, by decide +kernel, by decide +kernel, by decide +kernel, by decide +kernel⟩,
   ⟨(.zoneInputReport 2 .active), 2, 4, { phase := .holding, trials := 0, lastTrial := none }, levelingAt 4 {
       phase := .holding, trials := 0, lastTrial := none } ready, by decide +kernel, by unfold StartsLockdown Latches; decide +kernel, by decide +kernel, by decide +kernel, by decide +kernel, by decide +kernel⟩,
   ⟨(.zoneInputReport 2 .active), 2, 4, {
       phase := .waiting, trials := 0, lastTrial := none }, (ready.modCassette 4 fun r => { r with
         state := .leveling, leveling := some {
           phase := .waiting, trials := 0, lastTrial := none } }).modPath fun p => { p with
             queue := [.leveling 4] }, by decide +kernel, by unfold StartsLockdown Latches; decide +kernel, by decide +kernel, by decide +kernel, by decide +kernel⟩,
   ⟨(.zoneInputReport 2 .active), 2, 4, { phase := .fetching, trials := 0, lastTrial := none }, {
       left := 100, last := false, noMiss := false }, (levelingAt 4 {
         phase := .fetching, trials := 0, lastTrial := none } ready).modPath fun p => { p with
           heldReading := none }, by decide +kernel, by unfold StartsLockdown Latches; decide +kernel, by decide +kernel, by decide +kernel, by decide +kernel, by decide +kernel, by decide +kernel⟩,
   ⟨(.zoneInputReport 2 .active), 2, 4, { phase := .fetching, trials := 0, lastTrial := none }, (levelingAt 4 {
       phase := .fetching, trials := 0, lastTrial := none } ready).modPath fun p => { p with
         heldReading := none, attempt := none }, by decide +kernel, by unfold StartsLockdown Latches; decide +kernel, by decide +kernel, by decide +kernel, by decide +kernel, by decide +kernel, by decide +kernel, by decide +kernel⟩,
   ⟨0, ready, by decide +kernel⟩⟩

theorem test_meets_QuietEntryAndExit :
    (∃ (ps : List Byte) (s : State),
      s.awake = true ∧ carries 0 ps = true ∧ s.sup.quietDwell = none ∧ s.alarm.service = false ∧
        (∀ l, (s.lane l).session = .closed) ∧ s.anyOrder (fun o => o.state.moving) = false ∧
        (∀ l, ((s.lane l).drawer = .closed ∨ (s.lane l).drawer = .jammed) ∧ (s.lane l).claim = false) ∧
        (∀ e ∈ s.custody.envelopes, e.state ≠ .intake ∧ e.state ≠ .conveying) ∧ s.conveyor.clearance = none ∧
        s.path.state = .free ∧ s.path.queue = [] ∧ (∀ c, (s.cassette c).state ≠ .leveling)) ∧
    (∃ (ps : List Byte) (s : State),
      s.awake = true ∧ carries 0 ps = true ∧ (s.sup.quietDwell.isSome = true ∨ s.alarm.service = true ∨
        (∃ l, (s.lane l).session ≠ .closed) ∨ s.anyOrder (fun o => o.state.moving) = true ∨ s.path.state ≠ .free)) ∧
    (∃ (ps : List Byte) (s : State),
      s.takes = true ∧ carries 0 ps = true ∧ (s.sup.mode = .enteringQuiet ∨ s.sup.mode = .quiet)) ∧
    (∃ (ps : List Byte) (s : State),
      s.takes = true ∧ carries 0 ps = true ∧ s.sup.mode = .waking) ∧
    (∃ (ps : List Byte) (s : State),
      s.awake = true ∧ carries 0 ps = true) ∧
    (∃ (ps : List Byte) (s : State),
      s.takes = true ∧ carries 0 ps = true ∧ (s.sup.mode = .enteringQuiet ∨ (s.sup.mode = .quiet ∧
        s.sup.quietDwell.isSome = true))) ∧
    (∃ (ps : List Byte) (s : State),
      s.takes = true ∧ carries 0 ps = true ∧ s.sup.mode = .quiet ∧ s.sup.quietDwell = none) ∧
    (∃ (s : State),
      s.heeds = true ∧ s.sup.mode = .waking ∧ s.sup.railSettle.isSome = true) ∧
    (∃ (s : State),
      s.heeds = true) :=
  ⟨⟨[], ready.modCassette 2 fun r => { r with shutter := .opened }, by decide +kernel⟩,
   ⟨[], ready.modSup fun u => { u with quietDwell := some 3 }, by decide +kernel⟩,
   ⟨[], ready.modSup fun u => { u with mode := .quiet }, by decide +kernel⟩,
   ⟨[], ready.modSup fun u => { u with mode := .waking }, by decide +kernel⟩,
   ⟨[], ready, by decide +kernel⟩,
   ⟨[], ready.modSup fun u => { u with mode := .quiet, quietDwell := some 3 }, by decide +kernel⟩,
   ⟨[], ready.modSup fun u => { u with mode := .quiet }, by decide +kernel⟩,
   ⟨ready.modSup fun u => { u with mode := .waking, railSettle := some 0 }, by decide +kernel⟩,
   ⟨ready.modSup fun u => { u with quietDwell := some 0 }, by decide +kernel⟩⟩

theorem test_meets_StartUpRecoversTheCustodyRecords :
    (∃ (c : Instr) (s : State),
      (c = .powerOn ∨ c = .resetLine)) ∧
    (∃ (found : FieldLevels) (s : State),
      s.sup.phase = some .settle) ∧
    (∃ (found : FieldLevels) (s : State),
      s.sup.phase = some .settle ∧ found.retentionGood = false) ∧
    (∃ (found : FieldLevels) (i : OrderSlot) (o : Order) (s : State),
      s.sup.phase = some .settle ∧ found.retentionGood = true ∧ s.path.state = .free ∧ s.order i = some o ∧
        (o.state = .held ∨ o.state = .queued) ∧ (∀ l, (s.lane l).head ≠ some i ∧ (s.lane l).load ≠ some i)) ∧
    (∃ (found : FieldLevels) (c : CassetteId) (v : Leveling) (s : State),
      s.sup.phase = some .settle ∧ found.retentionGood = true ∧ found.gaugeNote = true ∧
        (s.cassette c).leveling = some v ∧ v.phase ≠ .waiting) ∧
    (∃ (found : FieldLevels) (l : LaneId) (i : OrderSlot) (o : Order) (s : State),
      s.sup.phase = some .settle ∧ found.retentionGood = true ∧ (s.lane l).drawer ≠ .jammed ∧
        found.limits.get l ≠ .inner ∧ (s.lane l).load = some i ∧ s.order i = some o ∧
        (o.state = .staged ∨ o.state = .presented ∨ o.state = .recalling) ∧ s.path.state = .free ∧
        (∀ k, (s.lane k).head ≠ some i ∧ (k ≠ l → (s.lane k).load ≠ some i))) ∧
    (∃ (found : FieldLevels) (z : ZoneId) (s : State),
      s.sup.phase = some .settle ∧ found.retentionGood = true ∧ (s.zone z).state = .delay) ∧
    (∃ (found : FieldLevels) (i : OrderSlot) (o : Order) (s : State),
      s.sup.phase = some .settle ∧ found.retentionGood = true ∧ s.path.state = .free ∧ s.order i = some o ∧
        (o.state = .picking ∨ o.state = .routing ∨ o.state = .aborting) ∧
        (∀ l, (s.lane l).head ≠ some i ∧ (s.lane l).load ≠ some i)) ∧
    (∃ (found : FieldLevels) (l : LaneId) (i : OrderSlot) (o : Order) (s : State),
      s.sup.phase = some .settle ∧ found.retentionGood = true ∧ s.path.state = .free ∧ (s.lane l).head = some i ∧
        s.order i = some o ∧ (o.state = .staged ∨ o.state = .aborting) ∧
        (∀ k, (k ≠ l → (s.lane k).head ≠ some i) ∧ (s.lane k).load ≠ some i)) ∧
    (∃ (found : FieldLevels) (s : State),
      s.sup.phase = some .settle ∧ SecondLaw s) ∧
    (∃ (found : FieldLevels) (c : CassetteId) (s : State),
      s.sup.phase = some .settle ∧ found.retentionGood = true ∧ found.seated.get c = true ∧
        (s.cassette c).state = .absent ∧ (s.cassette c).leveling = none) ∧
    (∃ (found : FieldLevels) (l : LaneId) (i : OrderSlot) (o : Order) (s : State),
      s.sup.phase = some .settle ∧ found.retentionGood = true ∧ (s.lane l).drawer ≠ .jammed ∧
        found.limits.get l = .inner ∧ (s.lane l).load = some i ∧ s.order i = some o ∧
        (o.state = .staged ∨ o.state = .presented ∨ o.state = .recalling) ∧ o.retracted ≤ o.presented ∧
        s.path.state = .free ∧ (∀ k, (s.lane k).head ≠ some i ∧ (k ≠ l → (s.lane k).load ≠ some i))) ∧
    (∃ (found : FieldLevels) (l : LaneId) (s : State),
      s.sup.phase = some .settle ∧ found.retentionGood = true ∧ (s.lane l).drawer ≠ .jammed ∧
        found.limits.get l = .inner) ∧
    (∃ (found : FieldLevels) (l : LaneId) (s : State),
      s.sup.phase = some .settle ∧ found.retentionGood = true ∧ (s.lane l).drawer ≠ .jammed ∧
        found.limits.get l ≠ .inner) ∧
    (∃ (found : FieldLevels) (l : LaneId) (s : State),
      s.sup.phase = some .settle ∧ found.retentionGood = true ∧ (s.lane l).drawer = .jammed) ∧
    (∃ (found : FieldLevels) (s : State),
      s.sup.phase = some .settle ∧ found.retentionGood = true) ∧
    (∃ (found : FieldLevels) (z : ZoneId) (s : State),
      s.sup.phase = some .settle ∧ found.retentionGood = true ∧
        ((s.zone z).state = .normal ∨ ((s.zone z).state = .bypassed ∧ serviceKind z = true)) ∧
        (s.zone z).manualBypass = false ∧ s.groupArmed (s.zone z).group = true ∧ found.zones.get z = .active) ∧
    (∃ (found : FieldLevels) (s : State),
      s.sup.phase ≠ some .settle) ∧
    (∃ (s : State),
      s.sup.phase = some .purge ∧ s.port.settle = none) ∧
    (∃ (i : OrderSlot) (o : Order) (s : State),
      s.sup.phase = some .purge ∧ s.path.holder = some (.order i) ∧ s.order i = some o ∧ o.state = .aborting ∧
        o.reason = some .power) :=
  ⟨⟨.resetLine, ready, by decide +kernel⟩,
   ⟨FieldLevels.unreported, State.reset, by decide +kernel⟩,
   ⟨FieldLevels.unreported, restart ready, by decide +kernel⟩,
   ⟨{ FieldLevels.unreported with
       retentionGood := true }, 3, (anOrder 1 .held), restart (withOrder 3 2 (anOrder 1 .held) ready), by decide +kernel⟩,
   ⟨{ FieldLevels.unreported with retentionGood := true, gaugeNote := true }, 4, {
       phase := .holding, trials := 0, lastTrial := none }, restart (levelingAt 4 {
         phase := .holding, trials := 0, lastTrial := none } ready), by decide +kernel⟩,
   ⟨{ FieldLevels.unreported with
       retentionGood := true, limits := Vector.replicate _ .outer }, 2, 5, { anOrder 2 .recalling with
         reason := some .lockdown }, restart (withOrder 5 1 { anOrder 2 .recalling with
           reason := some .lockdown } (ready.modLane 2 fun r => { r with
             load := some 5, drawer := .retracting })), by decide +kernel⟩,
   ⟨{ FieldLevels.unreported with retentionGood := true }, 3, restart (ready.modZone 3 fun z => { z with
       state := .delay }), by decide +kernel⟩,
   ⟨{ FieldLevels.unreported with
       retentionGood := true }, 3, (anOrder 1 .routing), restart (withOrder 3 2 (anOrder 1 .routing) ready), by decide +kernel⟩,
   ⟨{ FieldLevels.unreported with
       retentionGood := true }, 2, 5, (anOrder 2 .staged), restart (withOrder 5 1 (anOrder 2 .staged) (ready.modLane 2 fun r => { r with head := some 5 })), by decide +kernel⟩,
   ⟨{ FieldLevels.unreported with
       retentionGood := true }, restart promised, by decide +kernel, by unfold SecondLaw; decide +kernel⟩,
   ⟨{ FieldLevels.unreported with
       retentionGood := true, seated := Vector.replicate _ true }, 4, restart (ready.modCassette 4 fun r => { r with
         state := .absent }), by decide +kernel⟩,
   ⟨{ FieldLevels.unreported with retentionGood := true }, 2, 5, { anOrder 2 .recalling with
       presented := 3, retracted := 2 }, restart (withOrder 5 1 { anOrder 2 .recalling with
         presented := 3, retracted := 2 } (ready.modLane 2 fun r => { r with
           load := some 5, drawer := .retracting })), by decide +kernel⟩,
   ⟨{ FieldLevels.unreported with
       retentionGood := true, envelopes := Vector.replicate _ .present }, 2, restart (ready.modLane 2 fun r => { r with claim := true, drawer := .retracting }), by decide +kernel⟩,
   ⟨{ FieldLevels.unreported with
       retentionGood := true, limits := Vector.replicate _ .outer }, 2, restart (ready.modLane 2 fun r => { r with
         drawer := .retracting }), by decide +kernel⟩,
   ⟨{ FieldLevels.unreported with
       retentionGood := true, limits := Vector.replicate _ .outer }, 2, restart (ready.modLane 2 fun r => { r with
         drawer := .jammed }), by decide +kernel⟩,
   ⟨{ FieldLevels.unreported with
       retentionGood := true }, restart (withEnvelopes [anEnvelope 7 1 .conveying] ready), by decide +kernel⟩,
   ⟨{ FieldLevels.unreported with
       retentionGood := true, zones := Vector.replicate _ .active }, 7, restart ready, by decide +kernel⟩,
   ⟨FieldLevels.unreported, ready, by decide +kernel⟩,
   ⟨ready.modSup fun u => { u with
       mode := .starting, phase := some .purge, phaseTimer := some 0 }, by decide +kernel⟩,
   ⟨3, { anOrder 1 .aborting with reason := some .power }, ((withOrder 3 2 { anOrder 1 .aborting with
       reason := some .power } ready).modSup fun u => { u with
         mode := .starting, phase := some .purge, phaseTimer := some 0 }).modPath fun p => { p with
           state := .purging, holder := some (.order 3) }, by decide +kernel⟩⟩

theorem test_meets_EventsMarkWhatTheyChange :
    (∃ (c : Instr) (s : State),
      encodeFrame c = none ∧ s.sup.phase ≠ some .settle ∧ CaptureLaw s) :=
  ⟨(.cassetteRemoved 2), ready, by decide +kernel, by decide +kernel, by unfold CaptureLaw; decide +kernel⟩

theorem test_meets_StepsKeepTheLinkAndLaneWatchLaws :
    (∃ (s t : State),
      LinkLaw s ∧ LaneWatchLaw s ∧ step s = .next t) :=
  ⟨{ ready with
      pending := [.noop []] }, ready, by unfold LinkLaw; decide +kernel, by unfold LaneWatchLaw; decide +kernel, rfl⟩

theorem test_meets_StepsKeepTheTripSettingsAndClosingLaws :
    (∃ (s t : State),
      TripLaw s ∧ step s = .next t) ∧
    (∃ (s t : State),
      SettingsLaw s ∧ step s = .next t) ∧
    (∃ (s t : State),
      ClosingLaw s ∧ PlaceLaw s ∧ LinkLaw s ∧ step s = .next t) :=
  ⟨⟨{ ready with pending := [.noop []] }, ready, by unfold TripLaw; decide +kernel, rfl⟩,
   ⟨{ ready with pending := [.noop []] }, ready, by unfold SettingsLaw; decide +kernel, rfl⟩,
   ⟨{ ready with
       pending := [.noop []] }, ready, by unfold ClosingLaw AtRest; decide +kernel, by unfold PlaceLaw; decide +kernel, by unfold LinkLaw; decide +kernel, rfl⟩⟩

theorem test_meets_StepsKeepTheCaptureLaw :
    (∃ (s t : State),
      CaptureLaw s ∧ step s = .next t) :=
  ⟨{ ready with pending := [.noop []] }, ready, by unfold CaptureLaw; decide +kernel, rfl⟩

theorem test_meets_StepsKeepTheFirstLaw :
    (∃ (s t : State),
      FirstLaw s ∧ SecondLaw s ∧ SessionLaw s ∧ PlaceLaw s ∧ LinkLaw s ∧ step s = .next t) :=
  ⟨{ promised with
      pending := [.noop []] }, promised, by unfold FirstLaw; decide +kernel, by unfold SecondLaw; decide +kernel, by unfold SessionLaw; decide +kernel, by unfold PlaceLaw; decide +kernel, by unfold LinkLaw; decide +kernel, rfl⟩

theorem test_meets_FramesCarryTheirCommands :
    (∃ (i : Instr) (f : List Byte),
      i.wf = true ∧ encodeFrame i = some f) :=
  ⟨(.orderPlace [1, 0, 100, 0, 0]), [0x20, 1, 0, 100, 0, 0], by decide +kernel⟩

theorem test_meets_MixIsTheGreatestVectorThatFits :
    (∃ (places : List Place) (amount limit : Nat) (caps : List Cap) (v : List Nat),
      (∀ p ∈ places, 0 < p.value) ∧ capsDistinct caps = true) ∧
    (∃ (places : List Place) (amount limit : Nat) (caps : List Cap),
      (∀ p ∈ places, 0 < p.value) ∧ capsDistinct caps = true) ∧
    (∃ (amount : Nat) (caps : List Cap) (s : State),
      (∀ c, (s.cassette c).state = .ready → 0 < (s.cassette c).value) ∧ capsDistinct caps = true) :=
  ⟨⟨[{ slot := 0, value := 50, available := 3 }, { slot := 1, value := 20, available := 9 }], 110, 40, [{
      value := 50, cap := 1 }], [1, 3], by decide +kernel⟩,
   ⟨[{ slot := 0, value := 50, available := 3 }], 110, 40, [], by decide +kernel⟩,
   ⟨385, [], ready, by decide +kernel⟩⟩

end Sys2Proof.Tests
end

section
/-! What no event does to the records by its own effect: it clears no change mark, empties no order slot, places no order,
raises no reservation and keeps the capture law; an envelope record that it makes has a number of its own. `EventKeeps s t`
says so of the effect that takes s to t, and each shared operation has one lemma, which puts the operation behind an effect
that is already known to keep all this. -/

namespace Sys2Proof.Machine

-- In one text with the tests, whose kernel check is long, proofs that wait for it side by side would need a thread each.
set_option Elab.async false

/-! ### The capture law -/

/-- What the numbering of the envelope records rests on: each record's capture number with its change mark. -/
def State.labels (s : State) : List (Nat × Bool) := s.custody.envelopes.map fun e => (e.capture, e.mark)

/-- The capture numbers of the live records. -/
def State.captures (s : State) : List Nat := s.custody.envelopes.map (·.capture)

/-- The lanes whose deposit claim is set. -/
def State.claimants (s : State) : Finset LaneId := Finset.univ.filter fun l => (s.lane l).claim = true

theorem State.captures_eq_labels (s : State) : s.captures = s.labels.map Prod.fst := by
  simp [State.labels, State.captures, Function.comp_def]

theorem State.mem_claimants {s : State} {l : LaneId} : l ∈ s.claimants ↔ (s.lane l).claim = true := by
  simp [State.claimants]

theorem State.claims_eq_card (s : State) : s.claims = s.claimants.card := by
  have nodup : ((positions _).filter fun l => (s.lane l).claim).Nodup := positions_nodup.filter _
  rw [State.claims, ← List.toFinset_card_of_nodup nodup]
  congr 1
  ext l
  simp [State.mem_claimants]

/-- The capture law rests on the capture numbers, the claims and the counter alone, and fewer of the first two keep it. -/
theorem CaptureLaw.of_fewer {s t : State} (h : CaptureLaw s) (numbers : t.captures.Sublist s.captures)
    (claims : t.claimants ⊆ s.claimants) (counter : t.custody.captureCounter = s.custody.captureCounter) :
    CaptureLaw t := by
  obtain ⟨budget, nodup, range, low, high⟩ := h
  have fewer : t.custody.envelopes.length ≤ s.custody.envelopes.length := by
    simpa [State.captures] using numbers.length_le
  have claimed : t.claims ≤ s.claims := by
    simpa only [State.claims_eq_card] using Finset.card_le_card claims
  refine ⟨?_, nodup.sublist numbers, fun e he => ?_, counter ▸ low, counter ▸ high⟩
  · unfold State.budget at budget ⊢
    omega
  · obtain ⟨a, ha, hc⟩ := List.mem_map.mp (numbers.subset (List.mem_map_of_mem (f := (·.capture)) he))
    exact hc ▸ range a ha

/-- The number that stands j places after n, from the last capture number on to 1 (R6). -/
theorem nextCapture_iterate {n : Nat} (low : 1 ≤ n) (high : n ≤ lastCapture) (j : Nat) :
    nextCapture^[j] n = (n - 1 + j) % lastCapture + 1 := by
  induction j with
  | zero => simp only [Function.iterate_zero, id]; rw [Nat.mod_eq_of_lt] <;> omega
  | succ j ih =>
    rw [Function.iterate_succ_apply', ih]
    unfold nextCapture lastCapture
    split <;> omega

/-- The passage over live numbers stops at a number that names no live record, or has passed over as many live numbers as it
may make steps. -/
theorem passLive_eq_iterate (s : State) (fuel n : Nat) : ∃ j ≤ fuel, passLive s fuel n = nextCapture^[j] n ∧
    (∀ i < j, nextCapture^[i] n ∈ s.captures) ∧ (j < fuel → passLive s fuel n ∉ s.captures) := by
  have live : ∀ m, (s.envelope m).isSome = true ↔ m ∈ s.captures := by
    intro m
    simp [State.envelope, State.captures]
  induction fuel generalizing n with
  | zero => exact ⟨0, le_rfl, rfl, by simp, by simp⟩
  | succ fuel ih =>
    unfold passLive
    split
    · next hn =>
      obtain ⟨j, hj, eq, passed, stop⟩ := ih (nextCapture n)
      refine ⟨j + 1, by omega, by rw [Function.iterate_succ_apply]; exact eq, fun i hi => ?_, fun h => stop (by omega)⟩
      cases i with
      | zero => exact (live n).mp hn
      | succ i => rw [Function.iterate_succ_apply]; exact passed i (by omega)
    · next hn => exact ⟨0, by omega, rfl, by simp, fun _ => fun h => hn ((live n).mpr h)⟩

/-- The number that the next record is issued names no live record and stands in the range (R6). -/
theorem issueNumber_fresh {s : State} (h : CaptureLaw s) :
    s.issueNumber ∉ s.captures ∧ 1 ≤ s.issueNumber ∧ s.issueNumber ≤ lastCapture := by
  obtain ⟨budget, nodup, range, low, high⟩ := h
  obtain ⟨j, hj, eq, passed, stop⟩ := passLive_eq_iterate s s.custody.envelopes.length s.custody.captureCounter
  have room : s.custody.envelopes.length ≤ 120 := by
    unfold State.budget captureRoom at budget
    omega
  have place := nextCapture_iterate low high
  have inRange : 1 ≤ s.issueNumber ∧ s.issueNumber ≤ lastCapture := by
    unfold State.issueNumber
    rw [eq, place]
    have := Nat.mod_lt (s.custody.captureCounter - 1 + j) (show 0 < lastCapture by decide)
    omega
  refine ⟨fun live => ?_, inRange⟩
  have all : j = s.custody.envelopes.length := by
    by_contra ne
    exact stop (by omega) live
  have visited : ((List.range (j + 1)).map fun i => nextCapture^[i] s.custody.captureCounter).Nodup := by
    refine List.Nodup.map_on (fun a ha b hb hab => ?_) List.nodup_range
    rw [List.mem_range] at ha hb
    rw [place, place] at hab
    unfold lastCapture at hab
    omega
  have inside : ((List.range (j + 1)).map fun i => nextCapture^[i] s.custody.captureCounter) ⊆ s.captures := by
    intro m hm
    obtain ⟨i, hi, rfl⟩ := List.mem_map.mp hm
    rw [List.mem_range] at hi
    by_cases last : i = j
    · rw [last, ← eq]; exact live
    · exact passed i (by omega)
  have := (visited.subperm inside).length_le
  simp only [List.length_map, List.length_range, State.captures] at this
  omega

/-- A drawer's envelope that drops into its gate consumes the claim and takes a fresh number (R5, R6, R112). -/
theorem captureLaw_dropEnvelope {l : LaneId} {s : State} (h : CaptureLaw s) (claim : (s.lane l).claim = true) :
    CaptureLaw (dropEnvelope l s) := by
  obtain ⟨fresh, issuedLow, issuedHigh⟩ := issueNumber_fresh h
  obtain ⟨budget, nodup, range, low, high⟩ := h
  have lanes : (dropEnvelope l s).claimants = s.claimants.erase l := by
    ext k
    have lane : (dropEnvelope l s).lane k = (s.modLane l fun r => { r with claim := false }).lane k := rfl
    rw [State.mem_claimants, lane, State.modLane_lane, Finset.mem_erase, State.mem_claimants]
    by_cases e : l = k
    · simp [e]
    · simp [e, Ne.symm e]
  have spent : (dropEnvelope l s).claims + 1 = s.claims := by
    rw [State.claims_eq_card, State.claims_eq_card, lanes]
    exact Finset.card_erase_add_one (State.mem_claimants.mpr claim)
  refine ⟨?_, ?_, ?_, ?_, ?_⟩
  · unfold State.budget at budget ⊢
    simp only [dropEnvelope, List.length_append, List.length_singleton] at spent ⊢
    omega
  · simp only [dropEnvelope, List.map_append, List.map_cons, List.map_nil]
    rw [← List.concat_eq_append]
    exact nodup.concat fresh
  · intro e he
    simp only [dropEnvelope, List.mem_append, List.mem_singleton] at he
    rcases he with he | rfl
    · exact range e he
    · exact ⟨issuedLow, issuedHigh⟩
  all_goals
    simp only [dropEnvelope, nextCapture]
    unfold lastCapture at *
    split <;> omega

end Sys2Proof.Machine
end

section
/-! `EventKeeps s t` says what no event does to the records by its own effect; here the shared operations are shown to keep it. -/

namespace Sys2Proof.Machine
set_option Elab.async false

/-! ### What no event does -/

/-- The effect that takes s to t clears and sets no change mark, empties and fills no order slot, places no order, raises no
reservation and keeps the capture law; the envelope records keep their numbers, and each new one has a number that was free. -/
structure EventKeeps (s t : State) : Prop where
  cassettes : ∀ c, (t.cassette c).mark = (s.cassette c).mark
  reserved : ∀ c, (t.cassette c).reserved ≤ (s.cassette c).reserved
  orders : ∀ i, (t.order i).map (·.mark) = (s.order i).map (·.mark)
  placement : t.custody.placement ⊆ s.custody.placement
  zones : ∀ z, (t.zone z).mark = (s.zone z).mark
  lanes : ∀ l, (t.lane l).mark = (s.lane l).mark
  law : CaptureLaw s → CaptureLaw t
  envelopes : CaptureLaw s → ∃ new, t.labels = s.labels ++ new ∧ ∀ p ∈ new, p.1 ∉ s.captures

namespace EventKeeps

variable {s t u : State}

theorem refl (s : State) : EventKeeps s s where
  cassettes _ := rfl
  reserved _ := le_rfl
  orders _ := rfl
  placement := List.Subset.refl _
  zones _ := rfl
  lanes _ := rfl
  law h := h
  envelopes _ := ⟨[], by simp⟩

theorem trans (h : EventKeeps s t) (k : EventKeeps t u) : EventKeeps s u where
  cassettes c := (k.cassettes c).trans (h.cassettes c)
  reserved c := (k.reserved c).trans (h.reserved c)
  orders i := (k.orders i).trans (h.orders i)
  placement := List.Subset.trans k.placement h.placement
  zones z := (k.zones z).trans (h.zones z)
  lanes l := (k.lanes l).trans (h.lanes l)
  law a := k.law (h.law a)
  envelopes a := by
    obtain ⟨new, eq, free⟩ := h.envelopes a
    obtain ⟨newer, eq', free'⟩ := k.envelopes (h.law a)
    refine ⟨new ++ newer, by rw [eq', eq, List.append_assoc], fun p hp => ?_⟩
    rcases List.mem_append.mp hp with hp | hp
    · exact free p hp
    · have := free' p hp
      rw [State.captures_eq_labels, eq, List.map_append, ← State.captures_eq_labels, List.mem_append, not_or] at this
      exact this.1

/-- An effect that makes no envelope record keeps the capture law if it sets no claim. -/
theorem of_labels (cassettes : ∀ c, (t.cassette c).mark = (s.cassette c).mark)
    (reserved : ∀ c, (t.cassette c).reserved ≤ (s.cassette c).reserved)
    (orders : ∀ i, (t.order i).map (·.mark) = (s.order i).map (·.mark))
    (placement : t.custody.placement ⊆ s.custody.placement)
    (zones : ∀ z, (t.zone z).mark = (s.zone z).mark)
    (lanes : ∀ l, (t.lane l).mark = (s.lane l).mark ∧ ((t.lane l).claim = true → (s.lane l).claim = true))
    (labels : t.labels = s.labels) (counter : t.custody.captureCounter = s.custody.captureCounter) : EventKeeps s t where
  cassettes := cassettes
  reserved := reserved
  orders := orders
  placement := placement
  zones := zones
  lanes l := (lanes l).1
  law h := h.of_fewer (by rw [State.captures_eq_labels, State.captures_eq_labels, labels])
    (fun l hl => State.mem_claimants.mpr ((lanes l).2 (State.mem_claimants.mp hl))) counter
  envelopes _ := ⟨[], by simp [labels]⟩

/-! #### The updates, each put behind what is known to keep the records -/

/-- An update of the working state, which holds no record. -/
theorem custody (h : EventKeeps s t) (e : u.custody = t.custody) : EventKeeps s u := by
  refine h.trans (of_labels ?_ ?_ ?_ ?_ ?_ ?_ ?_ ?_) <;>
    simp [State.cassette, State.order, State.zone, State.lane, State.labels, e]

theorem modCassette (c : CassetteId) (g : Cassette → Cassette) (h : EventKeeps s t)
    (mark : ∀ r, (g r).mark = r.mark := by intro r; rfl)
    (reserved : ∀ r, (g r).reserved ≤ r.reserved := by intro r; exact Nat.le_refl _) :
    EventKeeps s (t.modCassette c g) := by
  refine h.trans (of_labels (fun k => ?_) (fun k => ?_) ?_ ?_ ?_ ?_ ?_ ?_) <;> try simp [State.labels]
  all_goals
    rw [State.modCassette_cassette]
    split <;> simp [mark, reserved]

theorem modOrder (i : OrderSlot) (g : Order → Order) (h : EventKeeps s t)
    (mark : ∀ o, (g o).mark = o.mark := by intro o; rfl) : EventKeeps s (t.modOrder i g) := by
  refine h.trans (of_labels ?_ ?_ (fun k => ?_) ?_ ?_ ?_ ?_ ?_) <;> try simp [State.labels]
  rw [State.modOrder_order]
  split
  · cases t.order k <;> simp [mark]
  · rfl

theorem modZone (z : ZoneId) (g : Zone → Zone) (h : EventKeeps s t)
    (mark : ∀ r, (g r).mark = r.mark := by intro r; rfl) : EventKeeps s (t.modZone z g) := by
  refine h.trans (of_labels ?_ ?_ ?_ ?_ (fun k => ?_) ?_ ?_ ?_) <;> try simp [State.labels]
  rw [State.modZone_zone]
  split <;> simp [mark]

theorem modLane (l : LaneId) (g : Lane → Lane) (h : EventKeeps s t)
    (mark : ∀ r, (g r).mark = r.mark := by intro r; rfl)
    (claim : ∀ r, (g r).claim = true → r.claim = true := by intro r h; first | exact h | cases h) :
    EventKeeps s (t.modLane l g) := by
  refine h.trans (of_labels ?_ ?_ ?_ ?_ ?_ (fun k => ?_) ?_ ?_) <;> try simp [State.labels]
  rw [State.modLane_lane]
  split
  · exact ⟨mark _, claim _⟩
  · exact ⟨rfl, id⟩

theorem modEnvelope (n : Nat) (g : Envelope → Envelope) (h : EventKeeps s t)
    (label : ∀ e, ((g e).capture, (g e).mark) = (e.capture, e.mark) := by intro e; rfl) :
    EventKeeps s (t.modEnvelope n g) := by
  refine h.trans (of_labels ?_ ?_ ?_ ?_ ?_ ?_ ?_ ?_) <;> try simp
  simp only [State.labels, State.modEnvelope_envelopes, List.map_map]
  refine List.map_congr_left fun e _ => ?_
  simp only [Function.comp]
  split
  · exact label e
  · rfl

theorem modBins (g : Bins → Bins) (h : EventKeeps s t) : EventKeeps s (t.modBins g) := by
  refine h.trans (of_labels ?_ ?_ ?_ ?_ ?_ ?_ ?_ ?_) <;> simp [State.labels]

theorem modPath (g : NotePath → NotePath) (h : EventKeeps s t) : EventKeeps s (t.modPath g) := h.custody rfl
theorem modWork (l : LaneId) (g : LaneWork → LaneWork) (h : EventKeeps s t) : EventKeeps s (t.modWork l g) := h.custody rfl
theorem modConveyor (g : Conveyor → Conveyor) (h : EventKeeps s t) : EventKeeps s (t.modConveyor g) := h.custody rfl
theorem modAlarm (g : AlarmUnit → AlarmUnit) (h : EventKeeps s t) : EventKeeps s (t.modAlarm g) := h.custody rfl
theorem modPort (g : Port → Port) (h : EventKeeps s t) : EventKeeps s (t.modPort g) := h.custody rfl
theorem modSup (g : Supervisor → Supervisor) (h : EventKeeps s t) : EventKeeps s (t.modSup g) := h.custody rfl
theorem modLevels (g : FieldLevels → FieldLevels) (h : EventKeeps s t) : EventKeeps s (t.modLevels g) := h.custody rfl
theorem raise (n : Notice) (h : EventKeeps s t) : EventKeeps s (t.raise n) := h.custody (by simp)
theorem raiseIf (b : Bool) (n : Notice) (h : EventKeeps s t) : EventKeeps s (t.raiseIf b n) := h.custody (by simp)

/-- A passage through the positions. -/
theorem forEach {n : Nat} {g : Fin n → State → State} (turn : ∀ i t, EventKeeps s t → EventKeeps s (g i t))
    (h : EventKeeps s t) : EventKeeps s (Machine.forEach g t) :=
  forEach_keeps (EventKeeps s) g turn t h

/-- A passage along a list. -/
theorem foldl {α : Type} {g : State → α → State} (turn : ∀ a t, EventKeeps s t → EventKeeps s (g t a)) (l : List α)
    (h : EventKeeps s t) : EventKeeps s (l.foldl g t) := by
  induction l generalizing t with
  | nil => exact h
  | cons a l ih => exact ih (turn a t h)

end EventKeeps

variable {s t : State}

/-! ### The shared operations -/

theorem dropClaim_keeps (c : Claim) (h : EventKeeps s t) : EventKeeps s (dropClaim c t) := h.modPath _

theorem releaseReservations_keeps (i : OrderSlot) (h : EventKeeps s t) : EventKeeps s (releaseReservations i t) := by
  unfold releaseReservations
  split
  · refine h.trans (.of_labels ?_ ?_ ?_ ?_ ?_ ?_ ?_ ?_) <;>
      simp [State.cassette, State.order, State.zone, State.lane, State.labels]
  · exact h

/-- The placement order may lose orders. -/
theorem setPlacement_keeps (l : List OrderSlot) (h : EventKeeps s t) (fewer : l ⊆ t.custody.placement) :
    EventKeeps s { t with custody := { t.custody with placement := l } } := by
  refine h.trans (.of_labels ?_ ?_ ?_ fewer ?_ ?_ ?_ ?_) <;>
    simp [State.cassette, State.order, State.zone, State.lane, State.labels]

theorem endOrder_keeps (i : OrderSlot) (g : Order → Order) (h : EventKeeps s t)
    (mark : ∀ o, (g o).mark = o.mark := by intro o; rfl) : EventKeeps s (endOrder i g t) :=
  dropClaim_keeps _ (setPlacement_keeps _
    (h.modOrder i (fun o => { g o with holdDeadline := none, presentDeadline := none }) mark)
    (List.filter_subset_self _))

theorem stopOrder_keeps (i : OrderSlot) (st : OrderState) (r : Reason) (h : EventKeeps s t) :
    EventKeeps s (stopOrder i st r t) :=
  endOrder_keeps i _ (releaseReservations_keeps i h)

theorem releaseTransport_keeps (h : EventKeeps s t) : EventKeeps s (releaseTransport t) := h.modPath _

theorem readStacker_keeps (h : EventKeeps s t) : EventKeeps s (readStacker t) := h.modPath _

theorem abortPicking_keeps (r : Reason) (h : EventKeeps s t) : EventKeeps s (abortPicking r t) := by
  unfold abortPicking
  split
  · split
    · exact releaseTransport_keeps (endOrder_keeps _ _ (releaseReservations_keeps _ h))
    · exact ((releaseReservations_keeps _ h).modOrder _ _).modPath _
  · exact h

theorem evalPause_keeps (h : EventKeeps s t) : EventKeeps s (evalPause t) := (h.modPath _).raiseIf _ _

theorem addRejects_keeps (n : Nat) (h : EventKeeps s t) : EventKeeps s (addRejects n t) := evalPause_keeps (h.modBins _)

theorem countRetracted_keeps (i : OrderSlot) (h : EventKeeps s t) : EventKeeps s (countRetracted i t) :=
  (h.modOrder i _).modBins _

theorem countEdge_keeps (i : OrderSlot) (top : Order → Nat) (h : EventKeeps s t) : EventKeeps s (countEdge i top t) := by
  unfold countEdge
  split
  · split
    · exact countRetracted_keeps i h
    · exact h
  · exact h

theorem writeOff_keeps (c : CassetteId) (h : EventKeeps s t) : EventKeeps s (writeOff c t) := h.modCassette c _

theorem testNote_keeps (c : CassetteId) (h : EventKeeps s t) : EventKeeps s (testNote c t) :=
  addRejects_keeps 1 (h.modCassette c _)

theorem failHolder_keeps (c : CassetteId) (i : OrderSlot) (h : EventKeeps s t) : EventKeeps s (failHolder c t i) := by
  unfold failHolder
  split
  · split
    · exact stopOrder_keeps i _ _ h
    · exact h
  · exact h

theorem abortShort_keeps (c : CassetteId) (h : EventKeeps s t) : EventKeeps s (abortShort c t) := by
  unfold abortShort
  split
  · split
    · exact abortPicking_keeps _ h
    · exact h
  · exact h

theorem shortCascade_keeps (c : CassetteId) (h : EventKeeps s t) : EventKeeps s (shortCascade c t) :=
  (abortShort_keeps c h).foldl (fun i _ k => failHolder_keeps c i k) _

theorem openShutter_keeps (c : CassetteId) (h : EventKeeps s t) : EventKeeps s (openShutter c t) := by
  unfold openShutter
  split
  · exact (h.modCassette c _).modPath _
  · exact (h.modCassette c _).modPath _
  · exact h
  · exact h

theorem closeShutter_keeps (c : CassetteId) (h : EventKeeps s t) : EventKeeps s (closeShutter c t) := by
  unfold closeShutter
  split
  · exact (h.modCassette c _).modPath _
  · exact (h.modCassette c _).modPath _
  · exact h
  · exact h

theorem closeShutters_keeps (h : EventKeeps s t) : EventKeeps s (closeShutters t) :=
  h.forEach fun c _ k => closeShutter_keeps c k

theorem shutNow_keeps (c : CassetteId) (h : EventKeeps s t) : EventKeeps s (shutNow c t) := (h.modCassette c _).modPath _

theorem completeQuiet_keeps (h : EventKeeps s t) : EventKeeps s (completeQuiet t) := by
  unfold completeQuiet
  split
  · exact h.modSup _
  · exact h

theorem beginAttempt_keeps (h : EventKeeps s t) : EventKeeps s (beginAttempt t) := by
  rw [beginAttempt_eq]
  split
  · exact h.modPath _
  · exact h

theorem endLeveling_keeps (c : CassetteId) (h : EventKeeps s t) : EventKeeps s (endLeveling c t) := by
  have spent : EventKeeps s
      (if t.path.holder = some (.leveling c) ∧ t.path.heldReading.isSome then testNote c t else t) := by
    split
    · exact testNote_keeps c h
    · exact h
  unfold endLeveling
  simp only []
  split
  · exact releaseTransport_keeps (dropClaim_keeps _ (spent.modCassette c _))
  · exact dropClaim_keeps _ (spent.modCassette c _)

theorem driveDrawer_keeps (l : LaneId) (d : Drawer) (h : EventKeeps s t) : EventKeeps s (driveDrawer l d t) :=
  (h.modLane l _).modWork l _

theorem standDrawer_keeps (l : LaneId) (d : Drawer) (h : EventKeeps s t) : EventKeeps s (standDrawer l d t) :=
  (h.modLane l _).modWork l _

theorem toRecalling_mark (r : Option Reason) (o : Order) : (o.toRecalling r).mark = o.mark := by
  unfold Order.toRecalling
  split <;> rfl

theorem countedBack_mark (o : Order) : o.countedBack.mark = o.mark := by
  unfold Order.countedBack
  (repeat' split) <;> rfl

theorem recallDrawer_keeps (l : LaneId) (r : Option Reason) (h : EventKeeps s t) :
    EventKeeps s (recallDrawer l r t) := by
  unfold recallDrawer
  simp only []
  split
  · exact ((driveDrawer_keeps l _ h).modWork l _).modOrder _ _ (toRecalling_mark r)
  · exact (driveDrawer_keeps l _ h).modWork l _

theorem recallCause_keeps (l : LaneId) (c : RecallCause) (h : EventKeeps s t) : EventKeeps s (recallCause l c t) := by
  unfold recallCause
  split
  · exact recallDrawer_keeps l _ h
  · exact h.modWork l _
  all_goals exact h

theorem endRecall_keeps (l : LaneId) (h : EventKeeps s t) : EventKeeps s (endRecall l t) := by
  unfold endRecall
  split
  · exact endOrder_keeps _ _ (h.modLane l _) countedBack_mark
  · exact h

/-- The record that a dropped envelope makes has a number of its own (R6). -/
theorem dropEnvelope_keeps (l : LaneId) (h : EventKeeps s t) (claim : (t.lane l).claim = true) :
    EventKeeps s (dropEnvelope l t) := by
  have lane : ∀ k, (dropEnvelope l t).lane k = (t.modLane l fun r => { r with claim := false }).lane k := fun _ => rfl
  refine h.trans ⟨fun _ => rfl, fun _ => Nat.le_refl _, fun _ => rfl, List.Subset.refl _, fun _ => rfl, fun k => ?_,
    fun law => captureLaw_dropEnvelope law claim, fun law => ⟨[(t.issueNumber, true)], ?_, ?_⟩⟩
  · rw [lane, State.modLane_lane]
    split <;> rfl
  · simp [State.labels, dropEnvelope]
  · simpa using (issueNumber_fresh law).1

theorem takeEnvelope_keeps (l : LaneId) (e : EnvelopeReport) (h : EventKeeps s t) :
    EventKeeps s (takeEnvelope l e t) := by
  unfold takeEnvelope
  split
  · next claim =>
    split
    · exact h.modLane l _
    · split
      · exact h
      · exact dropEnvelope_keeps l h claim
    · exact driveDrawer_keeps l _ h
  · split
    · exact h
    all_goals exact driveDrawer_keeps l _ h

theorem dumpHead_keeps (l : LaneId) (i : OrderSlot) (r : Reason) (h : EventKeeps s t) :
    EventKeeps s (dumpHead l i r t) :=
  (h.modOrder i _).modWork l _

theorem dumpStaged_keeps (l : LaneId) (r : Reason) (h : EventKeeps s t) : EventKeeps s (dumpStaged l r t) := by
  unfold dumpStaged
  (repeat' split) <;> first | exact dumpHead_keeps l _ r h | exact h

theorem closeOrder_keeps (l : LaneId) (r : Reason) (i : OrderSlot) (h : EventKeeps s t) :
    EventKeeps s (closeOrder l r i t) := by
  unfold closeOrder
  (repeat' split) <;> first | exact stopOrder_keeps i _ _ h | exact h

theorem closeSession_keeps (l : LaneId) (c : CloseCause) (h : EventKeeps s t) : EventKeeps s (closeSession l c t) :=
  recallCause_keeps l _ (dumpStaged_keeps l _
    ((h.modLane l _).forEach fun i _ k => closeOrder_keeps l _ i k))

theorem completeSession_keeps (l : LaneId) (h : EventKeeps s t) : EventKeeps s (completeSession l t) := by
  unfold completeSession
  (repeat' split) <;> first | exact h.modLane l _ | exact h

theorem completeSessions_keeps (h : EventKeeps s t) : EventKeeps s (completeSessions t) :=
  h.forEach fun l _ k => completeSession_keeps l k

theorem lockLane_keeps (l : LaneId) (z : ZoneId) (h : EventKeeps s t) : EventKeeps s (lockLane l z t) := by
  unfold lockLane
  simp only []
  split
  · exact closeSession_keeps l _ (h.modLane l _)
  · exact h.modLane l _

theorem moveLock_keeps (l : LaneId) (z : ZoneId) (h : EventKeeps s t) : EventKeeps s (moveLock l z t) := by
  unfold moveLock
  split
  · exact h.modLane l _
  · exact h

/-! ### The Alarm Unit -/

theorem lockdownPicking_keeps (h : EventKeeps s t) : EventKeeps s (lockdownPicking t) := by
  unfold lockdownPicking
  split
  · exact h.modPath _
  · exact abortPicking_keeps _ h
  · exact h

theorem lockdownLeveling_keeps (c : CassetteId) (h : EventKeeps s t) : EventKeeps s (lockdownLeveling c t) := by
  unfold lockdownLeveling
  (repeat' split) <;> first | exact h.modPath _ | exact endLeveling_keeps c h | exact h

theorem lockdownLane_keeps (l : LaneId) (h : EventKeeps s t) : EventKeeps s (lockdownLane l t) :=
  recallCause_keeps l _ (dumpStaged_keeps l _ h)

theorem startLockdown_keeps (h : EventKeeps s t) : EventKeeps s (startLockdown t) :=
  ((closeShutters_keeps (lockdownPicking_keeps ((h.modAlarm _).raise _))).forEach
    fun c _ k => lockdownLeveling_keeps c k).forEach fun l _ k => lockdownLane_keeps l k

theorem respond_keeps (z : ZoneId) (stood : Bool) (h : EventKeeps s t) : EventKeeps s (respond z stood t) := by
  unfold respond
  cases (t.zone z).response with
  | lockdown =>
    cases stood
    · exact startLockdown_keeps h
    · simp only [if_true]
      exact h.modAlarm _
  | laneLock =>
    simp only []
    split
    · exact lockLane_keeps _ z h
    · exact h
  | silent => exact h.modAlarm _
  | report => exact h

/-- The trip list is no part of the records that are marked. -/
theorem setTripList_keeps (l : List ZoneId) (h : EventKeeps s t) :
    EventKeeps s { t with custody := { t.custody with tripList := l } } := by
  refine h.trans (.of_labels ?_ ?_ ?_ ?_ ?_ ?_ ?_ ?_) <;>
    simp [State.cassette, State.order, State.zone, State.lane, State.labels]

theorem latch_keeps (z : ZoneId) (h : EventKeeps s t) : EventKeeps s (latch z t) :=
  (respond_keeps z _ (setTripList_keeps _ ((h.modZone z _).modAlarm _))).raise _

theorem activate_keeps (z : ZoneId) (h : EventKeeps s t) : EventKeeps s (activate z t) := by
  unfold activate
  simp only []
  split
  · exact latch_keeps z (h.modZone z _)
  · exact ((h.modZone z _).modZone z _).modAlarm _

theorem activateIfOpen_keeps (z : ZoneId) (h : EventKeeps s t) : EventKeeps s (activateIfOpen z t) := by
  unfold activateIfOpen
  split
  · exact activate_keeps z h
  · exact h

theorem leaveBypass_keeps (z : ZoneId) (g : ZoneId → Zone → Zone) (mark : ∀ r, (g z r).mark = r.mark)
    (h : EventKeeps s t) : EventKeeps s (leaveBypass g z t) := by
  unfold leaveBypass
  split
  · exact activateIfOpen_keeps z (h.modZone z _ mark)
  · exact h.modZone z _ mark

theorem endService_keeps (h : EventKeeps s t) : EventKeeps s (endService t) :=
  ((h.modAlarm _).forEach fun z _ k => leaveBypass_keeps z _ (fun _ => rfl) k).forEach
    fun z _ k => leaveBypass_keeps z _ (fun _ => rfl) k

theorem enterServiceZone_keeps (z : ZoneId) (h : EventKeeps s t) : EventKeeps s (enterServiceZone z t) := by
  unfold enterServiceZone
  split
  · exact (h.modZone z _).modAlarm _
  · exact h

theorem releaseResponse_keeps (z : ZoneId) (h : EventKeeps s t) : EventKeeps s (releaseResponse z t) := by
  unfold releaseResponse
  (repeat' split) <;> first
    | exact (h.modAlarm _).raise _ | exact h.modAlarm _ | exact moveLock_keeps _ z h | exact h

theorem unlatch_keeps (z : ZoneId) (h : EventKeeps s t) : EventKeeps s (unlatch z t) :=
  releaseResponse_keeps z (setTripList_keeps _ (h.modZone z _))

end Sys2Proof.Machine
end

section
/-! The effects of the events, recovery among them, keep what `EventKeeps` names. -/

namespace Sys2Proof.Machine
set_option Elab.async false

variable {s t : State}

/-! ### The effects of the events -/

/-! #### Orders and cassettes -/

theorem holdExpiry_keeps (i : OrderSlot) (h : EventKeeps s t) : EventKeeps s (holdExpiry i t) := by
  unfold holdExpiry
  (repeat' split) <;> first | exact stopOrder_keeps i _ _ h | exact h

theorem presentExpiry_keeps (i : OrderSlot) (h : EventKeeps s t) : EventKeeps s (presentExpiry i t) := by
  unfold presentExpiry
  (repeat' split) <;> first | exact recallDrawer_keeps _ _ h | exact h

theorem levelingExpiry_keeps (h : EventKeeps s t) : EventKeeps s (levelingExpiry t) := by
  unfold levelingExpiry
  split
  · exact endLeveling_keeps _ h
  · exact h

theorem failGone_keeps (c : CassetteId) (i : OrderSlot) (h : EventKeeps s t) : EventKeeps s (failGone c i t) := by
  unfold failGone
  (repeat' split) <;> first | exact stopOrder_keeps i _ _ h | exact h

theorem abortGone_keeps (c : CassetteId) (h : EventKeeps s t) : EventKeeps s (abortGone c t) := by
  unfold abortGone
  (repeat' split) <;> first | exact abortPicking_keeps _ h | exact h

theorem stopAttempt_keeps (c : CassetteId) (h : EventKeeps s t) : EventKeeps s (stopAttempt c t) := by
  unfold stopAttempt
  split
  · exact h.modPath _
  · exact h

theorem endGone_keeps (c : CassetteId) (h : EventKeeps s t) : EventKeeps s (endGone c t) := by
  unfold endGone
  split
  · exact endLeveling_keeps c h
  · exact h

theorem removeCassette_keeps (c : CassetteId) (h : EventKeeps s t) : EventKeeps s (removeCassette c t) :=
  (shutNow_keeps c ((abortGone_keeps c (endGone_keeps c (stopAttempt_keeps c h))).forEach
    fun i _ k => failGone_keeps c i k)).modCassette c _

theorem cassetteRemoved_keeps (c : CassetteId) (h : EventKeeps s t) : EventKeeps s (cassetteRemoved c t) := by
  unfold cassetteRemoved
  split
  · exact h
  · exact completeQuiet_keeps (completeSessions_keeps (removeCassette_keeps c h))

theorem seatCassette_keeps (c : CassetteId) (h : EventKeeps s t) : EventKeeps s (seatCassette c t) := by
  unfold seatCassette
  split
  · exact (shutNow_keeps c h).modCassette c _
  · exact h

theorem shutterTravelEnd_keeps (c : CassetteId) (h : EventKeeps s t) : EventKeeps s (shutterTravelEnd c t) := by
  unfold shutterTravelEnd
  simp only []
  split
  · exact beginAttempt_keeps ((h.modPath _).modCassette c _)
  · exact completeQuiet_keeps ((h.modPath _).modCassette c _)
  · exact h
  · exact h

theorem shutterIdleExpiry_keeps (h : EventKeeps s t) : EventKeeps s (shutterIdleExpiry t) := by
  unfold shutterIdleExpiry
  split
  · exact closeShutters_keeps (h.modPath _)
  · exact h

/-! #### The conveyor -/

/-- An envelope that waits in its drawer drops as the gate is freed; its claim is set (R112, R125). -/
theorem admitEnvelope_keeps (e : Envelope) (h : EventKeeps s t) : EventKeeps s (admitEnvelope e t) := by
  unfold admitEnvelope
  simp only []
  split
  · next waits =>
    simp only [State.drawerWaits, Bool.and_eq_true] at waits
    exact dropEnvelope_keeps _ ((h.modEnvelope _ _).modConveyor _) (by simpa using waits.2)
  · exact (h.modEnvelope _ _).modConveyor _

theorem admission_keeps (h : EventKeeps s t) : EventKeeps s (admission t) := by
  unfold admission
  (repeat' split) <;> first | exact completeSessions_keeps (admitEnvelope_keeps _ h) | exact h

theorem unexpectedArrival_keeps (h : EventKeeps s t) : EventKeeps s (unexpectedArrival t) := (h.modBins _).raise _

theorem binArrival_keeps (h : EventKeeps s t) : EventKeeps s (binArrival t) := by
  unfold binArrival
  (repeat' split) <;> first | exact (h.modEnvelope _ _).modConveyor _ | exact unexpectedArrival_keeps h | exact h

theorem transitExpiry_keeps (h : EventKeeps s t) : EventKeeps s (transitExpiry t) := by
  unfold transitExpiry
  (repeat' split) <;> first | exact (h.modEnvelope _ _).modConveyor _ | exact h

theorem clearanceEnd_keeps (h : EventKeeps s t) : EventKeeps s (clearanceEnd t) := by
  unfold clearanceEnd
  split
  · exact (h.modConveyor _).modBins _
  · exact h

/-! #### The drawers and the heads -/

theorem presentBundle_keeps (l : LaneId) (h : EventKeeps s t) : EventKeeps s (presentBundle l t) := by
  unfold presentBundle
  split
  · exact h.modOrder _ _ (fun o => by split <;> rfl)
  · exact h

theorem outerLimit_keeps (l : LaneId) (b : BundleReport) (h : EventKeeps s t) : EventKeeps s (outerLimit l b t) := by
  have opened := presentBundle_keeps l (standDrawer_keeps l .opened h)
  unfold outerLimit
  split
  · simp only []
    split
    · exact recallDrawer_keeps l _ opened
    · split
      · exact opened.modWork l _
      · exact opened
  · exact h.modWork l _
  all_goals exact h

theorem innerLimit_keeps (l : LaneId) (e : EnvelopeReport) (h : EventKeeps s t) : EventKeeps s (innerLimit l e t) := by
  unfold innerLimit
  split
  · exact completeSessions_keeps (takeEnvelope_keeps l e (endRecall_keeps l (standDrawer_keeps l _ h)))
  · exact h.modWork l _
  all_goals exact h

theorem bundleClears_keeps (l : LaneId) (h : EventKeeps s t) : EventKeeps s (bundleClears l t) := by
  unfold bundleClears
  split
  · next i _ _ =>
    have emptied := ((endOrder_keeps i Order.takenWhole h).modLane l fun r => { r with load := none }).modWork l
      fun w => { w with clearingDue := false }
    split
    · simp only []
      split
      · exact emptied
      · exact driveDrawer_keeps l _ emptied
    · exact h
  · exact h

theorem dumpExpiry_keeps (l : LaneId) (h : EventKeeps s t) : EventKeeps s (dumpExpiry l t) := by
  unfold dumpExpiry
  split
  · exact completeSessions_keeps (((endOrder_keeps _ _ h).modLane l _).modWork l _)
  · exact h

theorem jamLoad_keeps (l : LaneId) (h : EventKeeps s t) : EventKeeps s (jamLoad l t) := by
  unfold jamLoad
  split
  · exact endOrder_keeps _ _ (h.modLane l _)
  · exact h

theorem travelExpiry_keeps (l : LaneId) (h : EventKeeps s t) : EventKeeps s (travelExpiry l t) := by
  have jammed : EventKeeps s (jamDrawer l t) :=
    ((standDrawer_keeps l _ (jamLoad_keeps l h)).modLane l _).modWork l _
  unfold travelExpiry
  split <;> first | exact completeSessions_keeps jammed | exact h

/-! #### The note path -/

theorem takeTransport_keeps (c : Claim) (st : PathState) (entry : Option Nat) (h : EventKeeps s t) :
    EventKeeps s (takeTransport c st entry t) :=
  (dropClaim_keeps c h).modPath _

theorem grantOrder_keeps (i : OrderSlot) (o : Order) (h : EventKeeps s t) : EventKeeps s (grantOrder i o t) :=
  (takeTransport_keeps _ _ _ (h.modOrder i _)).forEach fun c _ k => by
    split
    · exact openShutter_keeps c k
    · exact k

theorem grantLeveling_keeps (c : CassetteId) (h : EventKeeps s t) : EventKeeps s (grantLeveling c t) :=
  openShutter_keeps c (takeTransport_keeps _ _ _ (h.modCassette c _))

theorem grant_keeps (h : EventKeeps s t) : EventKeeps s (grant t) := by
  unfold grant
  split
  · split
    · exact beginAttempt_keeps (grantOrder_keeps _ _ h)
    · exact h
  · exact beginAttempt_keeps (grantLeveling_keeps _ h)
  · exact h

theorem acceptNote_keeps (i : OrderSlot) (k : Nat) (c : CassetteId) (h : EventKeeps s t) :
    EventKeeps s (acceptNote i k c t) :=
  (h.modCassette c (fun r => { r.lower 1 with accepted := r.accepted + 1, reserved := r.reserved - 1 }) (fun _ => rfl)
    fun _ => Nat.sub_le _ _).modOrder i _

theorem pickOn_keeps (i : OrderSlot) (h : EventKeeps s t) : EventKeeps s (pickOn i t) := by
  unfold pickOn
  split
  · split
    · exact beginAttempt_keeps (h.modPath _)
    · exact (h.modOrder i _).modPath _
  · exact h

theorem rejectNote_keeps (i : OrderSlot) (c : CassetteId) (n : Nat) (h : EventKeeps s t) :
    EventKeeps s (rejectNote i c n t) := by
  refine shortCascade_keeps c ?_
  have counted := (addRejects_keeps (min n (t.cassette c).current) (h.modCassette c fun r =>
    { r.lower (min n (t.cassette c).current) with rejectNotes := r.rejectNotes + min n (t.cassette c).current })).modOrder i
    fun o => { o with rejectItems := o.rejectItems + 1, rejectNotes := o.rejectNotes + min n (t.cassette c).current }
  split
  · split
    · exact abortPicking_keeps _ counted
    · exact counted
  · exact counted

theorem gaugeOrder_keeps (i : OrderSlot) (k : Nat) (e : MixEntry) (a : Attempt) (g : Nat) (h : EventKeeps s t) :
    EventKeeps s (gaugeOrder i k e a g t) := by
  have accepted := acceptNote_keeps i k e.slot (h.modPath fun p =>
    { p with attempt := none, misses := 0, rejectDiverter := false })
  have rejected : ∀ n, EventKeeps s (rejectNote i e.slot n (noteArrived true t)) :=
    fun n => rejectNote_keeps i e.slot n (h.modPath _)
  unfold gaugeOrder
  split
  · simp only []
    split
    · exact abortPicking_keeps _ accepted
    · exact pickOn_keeps i accepted
  · simp only []
    split
    · exact abortPicking_keeps _ (rejected _)
    · exact beginAttempt_keeps (rejected _)

theorem gaugeLeveling_keeps (c : CassetteId) (a : Attempt) (g : Nat) (h : EventKeeps s t) :
    EventKeeps s (gaugeLeveling c a g t) := by
  unfold gaugeLeveling
  simp only []
  split
  · exact endLeveling_keeps c ((h.modCassette c _).modPath _)
  · exact (h.modCassette c _).modPath _

theorem noteAtGauge_keeps (g : Nat) (h : EventKeeps s t) : EventKeeps s (noteAtGauge g t) := by
  unfold noteAtGauge
  split
  · exact h
  · split
    · split
      · exact completeSessions_keeps (gaugeOrder_keeps _ _ _ _ g h)
      · exact h
    · split
      · exact gaugeLeveling_keeps _ _ g h
      · exact h

theorem missOrder_keeps (c : CassetteId) (h : EventKeeps s t) : EventKeeps s (missOrder c t) := by
  unfold missOrder
  split
  · exact shortCascade_keeps c (writeOff_keeps c (h.modPath _))
  · exact beginAttempt_keeps ((h.modPath _).modPath _)

theorem missLeveling_keeps (c : CassetteId) (h : EventKeeps s t) : EventKeeps s (missLeveling c t) := by
  unfold missLeveling
  split
  · exact endLeveling_keeps c (writeOff_keeps c (h.modPath _))
  · exact beginAttempt_keeps ((h.modPath _).modPath _)

theorem pickWindowExpiry_keeps (h : EventKeeps s t) : EventKeeps s (pickWindowExpiry t) := by
  unfold pickWindowExpiry
  split
  · exact h
  · split
    · refine completeSessions_keeps ?_
      split
      · exact abortPicking_keeps _ (h.modPath _)
      · exact missOrder_keeps _ h
    · split
      · exact endLeveling_keeps _ (h.modPath _)
      · split
        · exact beginAttempt_keeps (h.modPath _)
        · exact missLeveling_keeps _ h
    · exact h

theorem bundleArrives_keeps (i : OrderSlot) (l : LaneId) (h : EventKeeps s t) : EventKeeps s (bundleArrives i l t) := by
  have arrived := (releaseTransport_keeps h).modLane l fun r => { r with head := some i }
  unfold bundleArrives
  simp only []
  split
  · exact dumpHead_keeps l i _ arrived
  · exact arrived.modOrder i _

theorem headArrival_keeps (l : LaneId) (h : EventKeeps s t) : EventKeeps s (headArrival l t) := by
  unfold headArrival
  (repeat' split) <;> first | exact bundleArrives_keeps _ l h | exact h.modPath _ | exact h

theorem routeExpiry_keeps (h : EventKeeps s t) : EventKeeps s (routeExpiry t) := by
  unfold routeExpiry
  split
  · split
    · exact completeSessions_keeps ((releaseTransport_keeps (endOrder_keeps _ _ h)).modPath _)
    · exact h
  · exact h

theorem purgeExpiry_keeps (h : EventKeeps s t) : EventKeeps s (purgeExpiry t) := by
  unfold purgeExpiry
  split
  · exact completeSessions_keeps (readStacker_keeps (releaseTransport_keeps (endOrder_keeps _ _ h)))
  · exact h

theorem retractEdge_keeps (e : RetractEntry) (h : EventKeeps s t) : EventKeeps s (retractEdge e t) := by
  unfold retractEdge transportEdge chuteEdge
  (repeat' split) <;> first | exact countEdge_keeps _ _ h | exact h

/-! #### The Alarm Unit and the Supervisor -/

theorem zoneReported_keeps (z : ZoneId) (level : ZoneInput) (h : EventKeeps s t) :
    EventKeeps s (zoneReported z level t) := by
  unfold zoneReported
  simp only []
  split
  · exact completeSessions_keeps (activateIfOpen_keeps z (h.modZone z _))
  · exact h.modZone z _

theorem delayExpiry_keeps (z : ZoneId) (h : EventKeeps s t) : EventKeeps s (delayExpiry z t) := by
  unfold delayExpiry
  split
  · exact completeSessions_keeps (latch_keeps z h)
  · exact h

theorem keyReported_keeps (b : Bool) (h : EventKeeps s t) : EventKeeps s (keyReported b t) := by
  unfold keyReported
  simp only []
  split
  · exact completeSessions_keeps (endService_keeps (h.modAlarm _))
  · exact h.modAlarm _

theorem railExpiry_keeps (h : EventKeeps s t) : EventKeeps s (railExpiry t) := by
  unfold railExpiry
  split
  · exact h.modSup _
  · exact h

theorem endStartUpPurge_keeps (h : EventKeeps s t) : EventKeeps s (endStartUpPurge t) := by
  unfold endStartUpPurge
  split
  · exact endOrder_keeps _ _ h (fun _ => rfl)
  · exact h

theorem startClearance_keeps (h : EventKeeps s t) : EventKeeps s (startClearance t) := by
  unfold startClearance
  split
  · exact h.modConveyor _
  · exact h

theorem raiseMarked_keeps (h : EventKeeps s t) : EventKeeps s (raiseMarked t) :=
  ((((h.raiseIf _ _).raiseIf _ _).raiseIf _ _).raiseIf _ _).raiseIf _ _

theorem startUpEnd_keeps (h : EventKeeps s t) : EventKeeps s (startUpEnd t) := by
  unfold startUpEnd
  split
  · exact raiseMarked_keeps ((((startClearance_keeps
      ((evalPause_keeps ((endStartUpPurge_keeps h).modPath _)).modAlarm _)).modSup _).modPort _).raise _)
  · exact h

/-! #### Recovery -/

theorem abortPower_keeps (i : OrderSlot) (o : Order) (h : EventKeeps s t) : EventKeeps s (abortPower i o t) := by
  unfold abortPower
  split
  · exact endOrder_keeps i _ h
  · exact (h.modOrder i _).modPath _

theorem recoverOrder_keeps (i : OrderSlot) (h : EventKeeps s t) : EventKeeps s (recoverOrder i t) := by
  unfold recoverOrder
  split
  · split
    · exact stopOrder_keeps i _ _ h
    · exact stopOrder_keeps i _ _ h
    · exact abortPower_keeps i _ (releaseReservations_keeps i h)
    · exact abortPower_keeps i _ h
    · split
      · exact h
      · exact abortPower_keeps i _ h
    all_goals exact h
  · exact h

theorem recoverLeveling_keeps (found : FieldLevels) (c : CassetteId) (h : EventKeeps s t) :
    EventKeeps s (recoverLeveling found c t) := by
  unfold recoverLeveling
  split
  · refine EventKeeps.modCassette c _ ?_
    split
    · exact testNote_keeps c h
    · exact h
  · exact h

theorem recoverCassette_keeps (found : FieldLevels) (c : CassetteId) (h : EventKeeps s t) :
    EventKeeps s (recoverCassette found c t) := by
  refine shutNow_keeps c ?_
  split
  · exact seatCassette_keeps c h
  · split
    · exact h
    · exact removeCassette_keeps c h

theorem bringHome_keeps (l : LaneId) (h : EventKeeps s t) : EventKeeps s (bringHome l t) := by
  unfold bringHome
  split
  · exact (driveDrawer_keeps l _ h).modOrder _ _
  · exact driveDrawer_keeps l _ h

theorem recoverDrawer_keeps (found : FieldLevels) (l : LaneId) (h : EventKeeps s t) :
    EventKeeps s (recoverDrawer found l t) := by
  have home := endRecall_keeps l (standDrawer_keeps l .closed h)
  unfold recoverDrawer
  split
  · exact h.modWork l _
  · simp only []
    split
    · exact takeEnvelope_keeps l _ home
    · exact home
  · exact bringHome_keeps l h

theorem recoverHead_keeps (l : LaneId) (h : EventKeeps s t) : EventKeeps s (recoverHead l t) := by
  unfold recoverHead
  split
  · exact dumpHead_keeps l _ _ h
  · exact h

theorem recoverLane_keeps (found : FieldLevels) (l : LaneId) (h : EventKeeps s t) :
    EventKeeps s (recoverLane found l t) :=
  recoverDrawer_keeps found l (recoverHead_keeps l ((h.modLane l _).modWork l _))

theorem latchDelayed_keeps (z : ZoneId) (h : EventKeeps s t) : EventKeeps s (latchDelayed z t) := by
  unfold latchDelayed
  split
  · exact latch_keeps z h
  · exact h

theorem recoverZones_keeps (found : FieldLevels) (h : EventKeeps s t) : EventKeeps s (recoverZones found t) :=
  (((h.modAlarm _).forEach fun z _ k => k.modZone z _).forEach fun z _ k => latchDelayed_keeps z k).forEach
    fun z _ k => activateIfOpen_keeps z k

theorem recover_keeps (found : FieldLevels) (h : EventKeeps s t) : EventKeeps s (recover found t) := by
  have supervisor : EventKeeps s (recoverSupervisor t) := (h.modAlarm _).modSup _
  have orders := supervisor.forEach fun i _ k => recoverOrder_keeps i k
  have sessions := orders.forEach fun c _ k => recoverLeveling_keeps found c k
  have cassettes := sessions.forEach fun c _ k => recoverCassette_keeps found c k
  have lanes := cassettes.forEach fun l _ k => recoverLane_keeps found l k
  have conveyor : EventKeeps s (recoverConveyor _) := lanes.modConveyor _
  have zones := recoverZones_keeps found conveyor
  unfold recover recoverTransport
  exact ((zones.modLevels _).modPath _).modSup _

end Sys2Proof.Machine
end

section
/-! What the part answers to a command that comes in no frame. -/

namespace Sys2Proof.Machine
set_option Elab.async false

variable {s t u : State}

/-! ### What an event answers -/

/-- What the part answers to an event outside recovery: the retained store as it was, or the end of an event whose effect
keeps the records. -/
def EventEnds (s t : State) : Prop :=
  t.custody = s.custody ∨ ∃ after, EventKeeps s after ∧ t = finish s after none none

/-- What the part answers to the recovery event in phase SETTLE. -/
def RecoveryEnds (s t : State) : Prop :=
  s.sup.phase = some .settle ∧ ∃ found,
    t = finish (sampleRetention found s) (recover found (sampleRetention found s)) none none

/-- An event of a timer or a block, with an effect that keeps the records. -/
theorem event_ends {c : Instr} {g : State → State} (hc : exec c s = event g s) (keeps : EventKeeps s (g s)) :
    Yields c s fun t => EventEnds s t ∨ RecoveryEnds s t := by
  unfold event at hc
  split at hc
  · exact yields_of hc (.inl (.inl rfl))
  · exact yields_of hc (.inl (.inr ⟨_, keeps, rfl⟩))

/-- An event of a line with a level, which in phase SETTLE sets the level and nothing else. -/
theorem fieldEvent_ends {c : Instr} {level : FieldLevels → FieldLevels} {g : State → State}
    (hc : exec c s = fieldEvent level g s) (keeps : EventKeeps s (g (s.modLevels level))) :
    Yields c s fun t => EventEnds s t ∨ RecoveryEnds s t := by
  unfold fieldEvent at hc
  split at hc
  · exact yields_of hc (.inl (.inl rfl))
  · exact yields_of hc (.inl (.inr ⟨_, keeps, rfl⟩))

/-- Every command that comes in no frame leaves the retained store as it was, or ends as an event whose effect keeps the
records, or is the recovery event. -/
theorem frameless_ends {c : Instr} (frameless : encodeFrame c = none) :
    Yields c s fun t => EventEnds s t ∨ RecoveryEnds s t := by
  have r : EventKeeps s s := .refl s
  have level : ∀ g, EventKeeps s (s.modLevels g) := fun g => r.modLevels g
  cases c with
  | overrun =>
    have same : (s.released.linkFault overrunFlag).custody = s.custody := by
      simp [State.linkFault, State.syncAttention, State.released]
    by_cases hushed : s.hushed = true
    · exact yields_of (if_pos hushed) (.inl (.inl rfl))
    · by_cases busy : s.overruns = true
      · exact yields_of ((if_neg hushed).trans (if_pos busy)) (.inl (.inl same))
      · exact yields_of ((if_neg hushed).trans (if_neg busy)) (.inl (.inl rfl))
  | resultWritten =>
    refine yields_of rfl (.inl (.inl ?_))
    unfold State.written
    split <;> rfl
  | powerOn => exact .inl (.inl rfl)
  | resetLine => exact .inl (.inl rfl)
  | settleExpiry found =>
    by_cases phase : s.sup.phase = some .settle
    · exact yields_of (if_pos phase) (.inr ⟨phase, found, rfl⟩)
    · exact yields_of (if_neg phase) (.inl (.inl rfl))
  | linkSettleExpiry =>
    refine yields_of rfl (.inl (.inl ?_))
    split <;> rfl
  | selectAssertion => exact .inl (.inl rfl)
  | noteReachesGauge g =>
    by_cases phase : s.sup.phase = some .settle
    · have settle : exec (.noteReachesGauge g) s = .next (s.modLevels fun v => { v with gaugeNote := true }) := if_pos phase
      exact yields_of settle (.inl (.inl rfl))
    · exact event_ends (if_neg phase) (noteAtGauge_keeps _ r)
  | startUpEnd => exact event_ends rfl (startUpEnd_keeps r)
  | clearanceEnd => exact event_ends rfl (clearanceEnd_keeps r)
  | railSettleExpiry => exact event_ends rfl (railExpiry_keeps r)
  | quietDwellExpiry => exact event_ends rfl (r.modSup _)
  | shutterTravelEnd k => exact event_ends rfl (shutterTravelEnd_keeps k r)
  | shutterIdleExpiry => exact event_ends rfl (shutterIdleExpiry_keeps r)
  | levelingIdleExpiry => exact event_ends rfl (levelingExpiry_keeps r)
  | cassetteRemoved k => exact fieldEvent_ends rfl (cassetteRemoved_keeps k (level _))
  | cassetteSeated k => exact fieldEvent_ends rfl (seatCassette_keeps k (level _))
  | grant => exact event_ends rfl (grant_keeps r)
  | pickWindowExpiry => exact event_ends rfl (pickWindowExpiry_keeps r)
  | stackerCountReport n => exact fieldEvent_ends rfl ((level _).modPath _)
  | headArrival l => exact event_ends rfl (headArrival_keeps l r)
  | routeLimitExpiry => exact event_ends rfl (routeExpiry_keeps r)
  | purgeRunExpiry => exact event_ends rfl (purgeExpiry_keeps r)
  | retractEdge e => exact event_ends rfl (retractEdge_keeps e r)
  | holdDeadlineExpiry i => exact event_ends rfl (holdExpiry_keeps i r)
  | outerLimit l b => exact fieldEvent_ends rfl (outerLimit_keeps l b (level _))
  | innerLimit l e => exact fieldEvent_ends rfl (innerLimit_keeps l e (level _))
  | bundleSensorClears l => exact event_ends rfl (bundleClears_keeps l r)
  | presentDeadlineExpiry i => exact event_ends rfl (presentExpiry_keeps i r)
  | dumpRunExpiry l => exact event_ends rfl (dumpExpiry_keeps l r)
  | drawerTravelLimitExpiry l => exact event_ends rfl (travelExpiry_keeps l r)
  | admission => exact event_ends rfl (admission_keeps r)
  | admissionSpacingExpiry => exact event_ends rfl (r.modConveyor _)
  | binArrival => exact event_ends rfl (binArrival_keeps r)
  | transitTimerExpiry => exact event_ends rfl (transitExpiry_keeps r)
  | zoneInputReport z v => exact fieldEvent_ends rfl (zoneReported_keeps z v (level _))
  | entryDelayExpiry z => exact event_ends rfl (delayExpiry_keeps z r)
  | keyLineReport b => exact fieldEvent_ends rfl (keyReported_keeps b (level _))
  | _ => cases frameless

end Sys2Proof.Machine
end

section
/-! What the part answers to a command that comes in a frame. -/

namespace Sys2Proof.Machine
set_option Elab.async false

variable {s t u : State}

/-! ### What a command answers -/

/-- A command's answer as its rule may give it: one that is carried out has the result OK or CLAMPED, or none at all, and
keeps the capture law. -/
def Reply.Proper (u : State) : Reply → Prop
  | .done t c _ _ => (c = .ok ∨ c = .clamped) ∧ (CaptureLaw u → CaptureLaw t)
  | .silent t => t.port.processing = none ∧ (CaptureLaw u → CaptureLaw t)
  | .refuse _ _ _ => True

theorem Reply.Proper.ok {p : Payload} {x : Option RecordRef} (law : CaptureLaw u → CaptureLaw t) :
    (Reply.done t .ok p x).Proper u := ⟨.inl rfl, law⟩

/-- The list of checks finds nothing to refuse. -/
theorem firstRefusal_none {checks : List (Bool × ResultCode)} :
    firstRefusal checks = none ↔ ∀ p ∈ checks, p.1 = false := by
  induction checks with
  | nil => simp [firstRefusal]
  | cons p rest ih =>
    obtain ⟨b, c⟩ := p
    cases b <;> simp [firstRefusal, ih]

theorem checked_proper {checks : List (Bool × ResultCode)} {x : Option RecordRef} {go : Reply}
    (h : (∀ p ∈ checks, p.1 = false) → go.Proper u) : (checked checks x go).Proper u := by
  unfold checked
  split
  · trivial
  · next none => exact h (firstRefusal_none.mp none)

theorem param_proper {α : Type} {p : Option α} {go : α → Reply} (h : ∀ a, (go a).Proper u) : (param p go).Proper u := by
  unfold param
  split
  · exact h _
  · trivial

theorem byHandle_proper {v : Nat} {more : List (Bool × ResultCode)} {go : OrderSlot → Order → Reply}
    (h : ∀ i o, (go i o).Proper u) : (byHandle u v more go).Proper u := by
  refine param_proper fun i => checked_proper fun _ => ?_
  split
  · trivial
  · exact h i _

theorem byCapture_proper {n : Nat} {more : List (Bool × ResultCode)} {go : Envelope → Reply}
    (h : ∀ e, (go e).Proper u) : (byCapture u n more go).Proper u := by
  refine checked_proper fun _ => ?_
  split
  · trivial
  · exact h _

/-! #### The capture law in the effects of commands -/

/-- A record that is rewritten under its own number leaves the numbers as they were. -/
theorem captures_modEnvelope (n : Nat) (g : Envelope → Envelope) (same : ∀ e, (g e).capture = e.capture) (s : State) :
    (s.modEnvelope n g).captures = s.captures := by
  simp only [State.captures, State.modEnvelope_envelopes, List.map_map]
  refine List.map_congr_left fun e _ => ?_
  simp only [Function.comp]
  split
  · exact same e
  · rfl

theorem captureLaw_modEnvelope (n : Nat) (g : Envelope → Envelope) (same : ∀ e, (g e).capture = e.capture)
    (h : CaptureLaw s) : CaptureLaw (s.modEnvelope n g) :=
  h.of_fewer (by rw [captures_modEnvelope n g same]) (Finset.Subset.refl _) rfl

theorem captureLaw_modLane (l : LaneId) (g : Lane → Lane) (claim : ∀ r, (g r).claim = r.claim) (h : CaptureLaw s) :
    CaptureLaw (s.modLane l g) := by
  refine h.of_fewer (List.Sublist.refl _) (fun k hk => ?_) rfl
  rw [State.mem_claimants, State.modLane_lane] at hk
  rw [State.mem_claimants]
  split at hk
  · rwa [claim] at hk
  · exact hk

/-- Records that are retired make room (R16). -/
theorem captureLaw_retire (p : Envelope → Bool) (h : CaptureLaw s) :
    CaptureLaw { s with custody := { s.custody with envelopes := s.custody.envelopes.filter p } } :=
  h.of_fewer (List.filter_sublist.map _) (Finset.Subset.refl _) rfl

/-- A deposit claim is set only while the budget has room for it (R105, R133). -/
theorem captureLaw_claim (l : LaneId) (room : s.budget < captureRoom) (h : CaptureLaw s) :
    CaptureLaw (s.modLane l fun r => { r with claim := true }) := by
  obtain ⟨_, rest⟩ := h
  refine ⟨?_, rest⟩
  have inside : (s.modLane l fun r => { r with claim := true }).claimants ⊆ insert l s.claimants := by
    intro k hk
    rw [State.mem_claimants, State.modLane_lane] at hk
    rw [Finset.mem_insert, State.mem_claimants]
    split at hk
    · next e => exact .inl e.symm
    · exact .inr hk
  have := Finset.card_le_card inside
  have := Finset.card_insert_le l s.claimants
  unfold State.budget at room ⊢
  rw [State.claims_eq_card] at room ⊢
  simp only [State.modLane_envelopes]
  omega

theorem loadBundle_keeps (l : LaneId) (h : EventKeeps s t) : EventKeeps s (loadBundle l t) := by
  unfold loadBundle
  split
  · exact (h.modLane l _).modOrder _ _
  · exact h

/-- DRAWER SEND that passes its checks keeps the budget (R105, R133). -/
theorem captureLaw_sendDrawer (l : LaneId) (m : SendMode) (room : m.envelope = true → s.budget < captureRoom)
    (h : CaptureLaw s) : CaptureLaw (sendDrawer l m s) := by
  unfold sendDrawer
  simp only []
  refine (driveDrawer_keeps l .extending (.refl _)).law ?_
  have loaded : EventKeeps s (if m.bundle then loadBundle l s else s) := by
    split
    · exact loadBundle_keeps l (.refl s)
    · exact .refl s
  split
  · next env =>
    refine captureLaw_claim l ?_ (loaded.law h)
    have same : ∀ k, ((if m.bundle then loadBundle l s else s).lane k).claim = (s.lane k).claim := by
      intro k
      unfold loadBundle
      (repeat' split) <;> simp only [State.modOrder_lane, State.modLane_lane]
      split <;> rfl
    have envelopes : (if m.bundle then loadBundle l s else s).custody.envelopes = s.custody.envelopes := by
      unfold loadBundle
      (repeat' split) <;> rfl
    have budget : (if m.bundle then loadBundle l s else s).budget = s.budget := by
      simp only [State.budget, State.claims, same, envelopes]
    exact budget ▸ room env
  · exact loaded.law h

theorem disarmZone_keeps (g : Group) (z : ZoneId) (h : EventKeeps s t) : EventKeeps s (disarmZone g z t) := by
  unfold disarmZone
  split
  · refine EventKeeps.modZone z _ ?_
    split
    · exact h.modAlarm _
    · exact h
  · exact h

theorem captureLaw_setArmed (g : Group) (b : Bool) (h : CaptureLaw s) : CaptureLaw (setArmed g b s) := by
  cases g <;> exact h

theorem reopenLeveling_keeps (before : State) (h : EventKeeps s t) : EventKeeps s (reopenLeveling before t) := by
  unfold reopenLeveling
  (repeat' split) <;> first | exact openShutter_keeps _ (h.modPath _) | exact h

theorem captureLaw_makeOrder (i : OrderSlot) (o : Order) (h : CaptureLaw s) : CaptureLaw (makeOrder i o s) := by
  unfold makeOrder
  simp only []
  split <;> exact h

theorem captureLaw_writeItem (i : ConfigItem) (v : Nat) (h : CaptureLaw s) : CaptureLaw (writeItem i v s) := by
  unfold writeItem
  simp only []
  split
  · exact (evalPause_keeps (.refl _)).law h
  · exact h

/-! #### The bodies of the commands -/

theorem linkStatusClear_proper (ps : List Byte) : (linkStatusClear ps u).Proper u :=
  checked_proper fun _ => .ok id

theorem noticeClear_proper (ps : List Byte) : (noticeClear ps u).Proper u := checked_proper fun _ => .ok id

theorem configSet_proper (ps : List Byte) : (configSet ps u).Proper u :=
  param_proper fun i => checked_proper fun _ => ⟨by split <;> simp, captureLaw_writeItem i _⟩

theorem linkReset_proper (ps : List Byte) : (linkReset ps u).Proper u := checked_proper fun _ => ⟨rfl, id⟩

theorem quietEnter_proper (ps : List Byte) : (quietEnter ps u).Proper u := by
  have entered : EventKeeps u (enterQuiet u) :=
    completeQuiet_keeps (closeShutters_keeps (((EventKeeps.refl u).modSup _).modPath _))
  unfold quietEnter
  split
  · exact .ok id
  · exact .ok id
  · trivial
  all_goals exact checked_proper fun _ => .ok entered.law

theorem quietExit_proper (ps : List Byte) : (quietExit ps u).Proper u := by
  unfold quietExit
  split
  · exact .ok id
  · exact .ok id
  · exact .ok id
  · trivial
  · exact checked_proper fun _ => .ok id

theorem cassetteRead_proper (ps : List Byte) : (cassetteRead ps u).Proper u := param_proper fun _ => .ok id

theorem cassetteLoad_proper (ps : List Byte) : (cassetteLoad ps u).Proper u :=
  checked_proper fun _ => param_proper fun _ => checked_proper fun _ => checked_proper fun _ => .ok id

theorem cassetteSet_proper (ps : List Byte) : (cassetteSet ps u).Proper u :=
  param_proper fun _ => ⟨by split <;> simp, id⟩

theorem levelStart_proper (ps : List Byte) : (levelStart ps u).Proper u :=
  checked_proper fun _ => param_proper fun _ => checked_proper fun _ => .ok id

theorem levelTrial_proper (ps : List Byte) : (levelTrial ps u).Proper u := by
  refine checked_proper fun _ => param_proper fun c => checked_proper fun _ => ?_
  split
  · split
    · exact .ok id
    · trivial
  · trivial

theorem levelEnd_proper (ps : List Byte) : (levelEnd ps u).Proper u := by
  refine checked_proper fun _ => param_proper fun c => checked_proper fun _ => ?_
  split
  · trivial
  · refine checked_proper fun _ => .ok fun h => (endLeveling_keeps c (.refl _)).law ?_
    unfold commitReference
    split <;> exact h

theorem orderPlace_proper (ps : List Byte) : (orderPlace ps u).Proper u := by
  refine checked_proper fun _ => param_proper fun l => param_proper fun hold => checked_proper fun _ =>
    checked_proper fun _ => ?_
  split
  · trivial
  · split
    · trivial
    · exact checked_proper fun _ => .ok (captureLaw_makeOrder _ _)

theorem orderRelease_proper (ps : List Byte) : (orderRelease ps u).Proper u := by
  refine checked_proper fun _ => byHandle_proper fun i o => ?_
  split
  · exact checked_proper fun _ => .ok id
  all_goals trivial

theorem orderCancel_proper (ps : List Byte) : (orderCancel ps u).Proper u := by
  refine byHandle_proper fun i o => ?_
  split
  · exact .ok (stopOrder_keeps i _ _ (.refl u)).law
  · exact .ok (stopOrder_keeps i _ _ (.refl u)).law
  all_goals trivial

theorem orderRead_proper (ps : List Byte) : (orderRead ps u).Proper u := byHandle_proper fun _ _ => .ok id

theorem orderRetire_proper (ps : List Byte) : (orderRetire ps u).Proper u := by
  refine byHandle_proper fun i o => ?_
  split
  · exact .ok id
  · trivial

theorem orderResolve_proper (ps : List Byte) : (orderResolve ps u).Proper u :=
  checked_proper fun _ => param_proper fun _ => byHandle_proper fun _ _ => checked_proper fun _ => .ok id

theorem envelopeRead_proper (ps : List Byte) : (envelopeRead ps u).Proper u :=
  byCapture_proper fun _ => .ok (captureLaw_modEnvelope _ _ fun _ => rfl)

theorem envelopeAnnotate_proper (ps : List Byte) : (envelopeAnnotate ps u).Proper u :=
  byCapture_proper fun _ => .ok (captureLaw_modEnvelope _ _ fun _ => rfl)

theorem envelopeRetire_proper (ps : List Byte) : (envelopeRetire ps u).Proper u :=
  checked_proper fun _ => byCapture_proper fun _ => checked_proper fun _ => .ok (captureLaw_retire _)

theorem binClear_proper (ps : List Byte) : (binClear ps u).Proper u :=
  checked_proper fun _ => .ok (captureLaw_retire _)

theorem conveyorRestart_proper (ps : List Byte) : (conveyorRestart ps u).Proper u :=
  checked_proper fun _ => .ok id

theorem sessionOpen_proper (ps : List Byte) : (sessionOpen ps u).Proper u :=
  checked_proper fun _ => param_proper fun l => checked_proper fun _ =>
    .ok (captureLaw_modLane l _ fun _ => rfl)

theorem sessionClose_proper (ps : List Byte) : (sessionClose ps u).Proper u :=
  checked_proper fun _ => param_proper fun l => checked_proper fun _ =>
    .ok (completeSessions_keeps (closeSession_keeps l _ (.refl u))).law

theorem drawerSend_proper (ps : List Byte) : (drawerSend ps u).Proper u := by
  refine checked_proper fun _ => param_proper fun l => param_proper fun m => checked_proper fun passed =>
    .ok (captureLaw_sendDrawer l m fun env => ?_)
  have full := passed (m.envelope && captureRoom ≤ u.budget, .captureFull) (by simp)
  simpa [env] using full

theorem drawerRecall_proper (ps : List Byte) : (drawerRecall ps u).Proper u :=
  checked_proper fun _ => param_proper fun l => checked_proper fun _ =>
    .ok (recallCause_keeps l _ (.refl u)).law

theorem laneRead_proper (ps : List Byte) : (laneRead ps u).Proper u :=
  param_proper fun l => .ok (captureLaw_modLane l _ fun _ => rfl)

theorem laneClear_proper (ps : List Byte) : (laneClear ps u).Proper u := by
  have cleared : ∀ l n, EventKeeps u (clearLane l n u) := by
    intro l n
    unfold clearLane
    refine EventKeeps.modWork l _ (EventKeeps.modLane l _ ?_)
    cases n
    · exact standDrawer_keeps l _ (.refl u)
    · exact driveDrawer_keeps l _ (.refl u)
  refine checked_proper fun _ => param_proper fun l => ?_
  split
  · exact .ok (cleared l _).law
  · trivial

theorem transportClear_proper (ps : List Byte) : (transportClear ps u).Proper u := checked_proper fun _ => .ok id

theorem binsEmptied_proper (ps : List Byte) : (binsEmptied ps u).Proper u :=
  checked_proper fun _ => .ok (evalPause_keeps ((EventKeeps.refl u).modBins _)).law

theorem zoneRead_proper (ps : List Byte) : (zoneRead ps u).Proper u := param_proper fun _ => .ok id

theorem zoneSet_proper (ps : List Byte) : (zoneSet ps u).Proper u :=
  checked_proper fun _ => param_proper fun _ => param_proper fun _ => param_proper fun _ => param_proper fun _ =>
    checked_proper fun _ => checked_proper fun _ => ⟨by split <;> simp, id⟩

theorem arm_proper (ps : List Byte) : (armCommand ps u).Proper u := by
  refine param_proper fun g => ?_
  split
  · trivial
  · exact .ok (captureLaw_setArmed g true)

theorem disarm_proper (ps : List Byte) : (disarmCommand ps u).Proper u :=
  param_proper fun g => .ok fun h =>
    ((EventKeeps.refl _).forEach fun z _ k => disarmZone_keeps g z k).law (captureLaw_setArmed g false h)

theorem bypass_proper (ps : List Byte) : (bypassCommand ps u).Proper u :=
  checked_proper fun _ => param_proper fun _ => checked_proper fun _ => .ok id

theorem alarmReset_proper (ps : List Byte) : (alarmReset ps u).Proper u :=
  param_proper fun z => checked_proper fun _ => checked_proper fun _ => checked_proper fun _ =>
    .ok (unlatch_keeps z (.refl u)).law

theorem serviceEnter_proper (ps : List Byte) : (serviceEnter ps u).Proper u :=
  checked_proper fun _ => .ok (reopenLeveling_keeps u (closeShutters_keeps
    (((EventKeeps.refl u).modAlarm _).forEach fun z _ k => enterServiceZone_keeps z k))).law

theorem serviceExit_proper (ps : List Byte) : (serviceExit ps u).Proper u := by
  refine checked_proper fun _ => ?_
  split
  · trivial
  · exact .ok (completeSessions_keeps (endService_keeps (.refl u))).law

theorem watchSet_proper (ps : List Byte) : (watchSet ps u).Proper u :=
  param_proper fun _ => param_proper fun _ => param_proper fun _ => param_proper fun _ => param_proper fun _ =>
    param_proper fun _ => checked_proper fun _ => checked_proper fun _ => .ok id

theorem watchClear_proper (ps : List Byte) : (watchClear ps u).Proper u := checked_proper fun _ => .ok id

/-- Every frame carries NOOP, the unknown command, or a command whose meaning is a station's with a proper body. -/
theorem exec_framed {c : Instr} {code : Byte} {ps : List Byte} (framed : encodeFrame c = some (code :: ps)) :
    (c = .noop ps ∧ code = 0x01) ∨ c = .unknownCommand code ps ∨ ∃ required body,
      (∀ s, exec c s = station code required body ps s) ∧ ∀ ps u, (body ps u).Proper u := by
  cases c <;> simp only [encodeFrame, Option.some.injEq, List.cons.injEq, reduceCtorEq] at framed <;>
    obtain ⟨rfl, rfl⟩ := framed
  case noop => exact .inl ⟨rfl, rfl⟩
  case unknownCommand => exact .inr (.inl rfl)
  all_goals refine .inr (.inr ⟨_, _, fun s => rfl, ?_⟩)
  case linkStatusClear => exact fun ps u => linkStatusClear_proper ps
  case noticeClear => exact fun ps u => noticeClear_proper ps
  case configSet => exact fun ps u => configSet_proper ps
  case linkReset => exact fun ps u => linkReset_proper ps
  case quietEnter => exact fun ps u => quietEnter_proper ps
  case quietExit => exact fun ps u => quietExit_proper ps
  case cassetteRead => exact fun ps u => cassetteRead_proper ps
  case cassetteLoad => exact fun ps u => cassetteLoad_proper ps
  case cassetteSet => exact fun ps u => cassetteSet_proper ps
  case levelStart => exact fun ps u => levelStart_proper ps
  case levelTrial => exact fun ps u => levelTrial_proper ps
  case levelEnd => exact fun ps u => levelEnd_proper ps
  case orderPlace => exact fun ps u => orderPlace_proper ps
  case orderRelease => exact fun ps u => orderRelease_proper ps
  case orderCancel => exact fun ps u => orderCancel_proper ps
  case orderRead => exact fun ps u => orderRead_proper ps
  case orderRetire => exact fun ps u => orderRetire_proper ps
  case orderResolve => exact fun ps u => orderResolve_proper ps
  case envelopeRead => exact fun ps u => envelopeRead_proper ps
  case envelopeAnnotate => exact fun ps u => envelopeAnnotate_proper ps
  case envelopeRetire => exact fun ps u => envelopeRetire_proper ps
  case binClear => exact fun ps u => binClear_proper ps
  case conveyorRestart => exact fun ps u => conveyorRestart_proper ps
  case sessionOpen => exact fun ps u => sessionOpen_proper ps
  case sessionClose => exact fun ps u => sessionClose_proper ps
  case drawerSend => exact fun ps u => drawerSend_proper ps
  case drawerRecall => exact fun ps u => drawerRecall_proper ps
  case laneRead => exact fun ps u => laneRead_proper ps
  case laneClear => exact fun ps u => laneClear_proper ps
  case transportClear => exact fun ps u => transportClear_proper ps
  case binsEmptied => exact fun ps u => binsEmptied_proper ps
  case zoneRead => exact fun ps u => zoneRead_proper ps
  case zoneSet => exact fun ps u => zoneSet_proper ps
  case arm => exact fun ps u => arm_proper ps
  case disarm => exact fun ps u => disarm_proper ps
  case bypass => exact fun ps u => bypass_proper ps
  case alarmReset => exact fun ps u => alarmReset_proper ps
  case serviceEnter => exact fun ps u => serviceEnter_proper ps
  case serviceExit => exact fun ps u => serviceExit_proper ps
  case watchSet => exact fun ps u => watchSet_proper ps
  case watchClear => exact fun ps u => watchClear_proper ps
  all_goals exact fun _ _ => .ok id

end Sys2Proof.Machine
end

section
/-! Every step keeps the capture law. -/

namespace Sys2Proof.Machine
set_option Elab.async false

variable {s t u before after : State} {named access : Option RecordRef}

/-! ### The capture law through a step -/

theorem Yields.imp {c : Instr} {P Q : State → Prop} (h : Yields c s P) (imp : ∀ t, P t → Q t) : Yields c s Q := by
  unfold Yields at h ⊢
  split at h
  · exact imp _ h
  · exact h
  · exact h

theorem Yields.next {c : Instr} {P : State → Prop} (h : Yields c s P) (e : exec c s = .next t) : P t := by
  unfold Yields at h
  rwa [e] at h

/-- The capture law speaks of the retained store alone. -/
theorem CaptureLaw.of_custody (h : CaptureLaw s) (same : t.custody = s.custody) : CaptureLaw t := by
  unfold CaptureLaw State.budget State.claims State.lane at *
  rw [same]
  exact h

theorem captures_finish : (finish before after named access).captures = after.captures := by
  simp only [State.captures, finish_envelopes, List.map_map]
  refine List.map_congr_left fun e _ => ?_
  simp only [Function.comp]
  split <;> rfl

theorem CaptureLaw.finish (h : CaptureLaw after) : CaptureLaw (finish before after named access) := by
  refine h.of_fewer (by rw [captures_finish]) (fun l hl => ?_) finish_captureCounter
  rw [State.mem_claimants, finish_lane] at hl
  rw [State.mem_claimants]
  split at hl <;> exact hl

/-- The store after retention loss holds no record and no claim (R19). -/
theorem captureLaw_lost (h : s.custody = Custody.fresh v) : CaptureLaw s := by
  have claims : s.claims = 0 := by
    have none : ∀ l, (s.lane l).claim = false := fun l => by
      simp [State.lane, h, Custody.fresh, Lane.fresh, Vector.get]
    simp [State.claims, none]
  unfold CaptureLaw State.budget
  rw [claims, h]
  simp [Custody.fresh, captureRoom, lastCapture]

theorem captureLaw_sampleRetention (found : FieldLevels) (h : CaptureLaw s) : CaptureLaw (sampleRetention found s) := by
  unfold sampleRetention
  split
  · exact h
  · refine captureLaw_lost (v := found.seated) ?_
    simp [loseRetention]

theorem station_captureLaw {c : Instr} {code : Byte} {required : List Byte → Nat} {body : List Byte → State → Reply}
    {ps : List Byte} (hc : exec c s = station code required body ps s) (proper : ∀ ps u, (body ps u).Proper u)
    (h : CaptureLaw s) : Yields c s CaptureLaw := by
  have taken : CaptureLaw s.released.written := h.of_custody (taken_custody s)
  have fault : ∀ u flag, CaptureLaw u → CaptureLaw (State.linkFault flag u) := fun u flag law =>
    law.of_custody (by simp [State.linkFault, State.syncAttention])
  unfold station at hc
  split at hc
  · exact yields_of hc h
  · split at hc
    · exact yields_of hc (fault _ _ h)
    · simp only [] at hc
      split at hc
      · exact yields_of hc (fault _ _ taken)
      · refine yields_of hc ?_
        have answer := proper (ps.take 63) s.released.written
        cases reply : body (ps.take 63) s.released.written with
        | done v r p x => rw [reply] at answer; exact (answer.2 taken).finish
        | silent v => rw [reply] at answer; exact (answer.2 taken).finish
        | refuse r p x => exact CaptureLaw.finish (taken.of_custody (by simp))

/-- A frame whose code names no command changes nothing of the retained store. -/
theorem unknownCommand_custody (code : Byte) (ps : List Byte) (s : State) :
    Yields (.unknownCommand code ps) s fun t => t.custody = s.custody := by
  have fault : ∀ u flag, (State.linkFault flag u).custody = u.custody := fun u flag => by
    simp [State.linkFault, State.syncAttention]
  by_cases listed : listedCode code = true
  · exact yields_of (if_pos listed) rfl
  by_cases hushed : s.hushed = true
  · exact yields_of ((if_neg listed).trans (if_pos hushed)) rfl
  by_cases busy : s.sawBusy = true
  · exact yields_of ((if_neg listed).trans ((if_neg hushed).trans (if_pos busy))) (fault _ _)
  · exact yields_of ((if_neg listed).trans ((if_neg hushed).trans (if_neg busy))) ((fault _ _).trans (taken_custody s))

/-- Every command keeps the capture law. -/
theorem exec_captureLaw (c : Instr) (h : CaptureLaw s) : Yields c s CaptureLaw := by
  cases framed : encodeFrame c with
  | none =>
    refine (frameless_ends framed).imp fun t ends => ?_
    rcases ends with (same | ⟨after, keeps, rfl⟩) | ⟨_, found, rfl⟩
    · exact h.of_custody same
    · exact (keeps.law h).finish
    · exact ((recover_keeps found (.refl _)).law (captureLaw_sampleRetention found h)).finish
  | some frame =>
    cases frame with
    | nil => cases c <;> cases framed
    | cons code ps =>
      rcases exec_framed framed with ⟨rfl, rfl⟩ | rfl | ⟨required, body, hc, proper⟩
      · exact h
      · exact (unknownCommand_custody code ps s).imp fun t same => h.of_custody same
      · exact station_captureLaw (hc s) proper h

/-- A step keeps the capture law: it carries out a command, or lets time pass, which touches no record. -/
theorem step_captureLaw (h : CaptureLaw s) (next : step s = .next t) : CaptureLaw t := by
  unfold step at next
  split at next
  · next c rest _ => exact (exec_captureLaw c (s := { s with pending := rest }) h).next next
  · unfold idle at next
    split at next
    · next c _ => exact (exec_captureLaw c h).next next
    · cases next
      exact h

/-- Settles O56: every step keeps the capture law. -/
theorem stepsKeepTheCaptureLaw : Obligations.StepsKeepTheCaptureLaw := fun _ _ h next => step_captureLaw h next

end Sys2Proof.Machine
end

section
/-! Events mark what they change and raise the notice of its table. -/

namespace Sys2Proof.Machine
set_option Elab.async false

variable {s t u before after : State} {named access : Option RecordRef}

/-! ### Notices that an event leaves set -/

/-- The notice is set, or held while the part starts or settles (R175, R176). -/
def State.HasNotice (s : State) (n : Notice) : Prop :=
  (if s.hushed then s.port.heldNotices else s.port.notices) &&& n.bit = n.bit

/-- A flag that is set stays set as others are. -/
theorem and_of_or {x y bit : BitVec 10} (h : x &&& bit = bit) : (x ||| y) &&& bit = bit := by
  rw [BitVec.and_comm, BitVec.and_or_distrib_left, BitVec.and_comm bit x, h]
  ext i hi
  simp only [BitVec.getElem_or, BitVec.getElem_and]
  cases bit[i] <;> rfl

theorem State.HasNotice.raiseIf {n : Notice} (h : s.HasNotice n) (b : Bool) (m : Notice) : (s.raiseIf b m).HasNotice n := by
  unfold State.HasNotice at *
  rw [State.raiseIf_hushed, raiseIf_notices, raiseIf_heldNotices]
  cases hushed : s.hushed <;> rw [hushed] at h <;> cases b <;> simp_all [and_of_or]

theorem hasNotice_raiseIf {b : Bool} (n : Notice) (h : b = true) (s : State) : (s.raiseIf b n).HasNotice n := by
  unfold State.HasNotice
  rw [State.raiseIf_hushed]
  exact notice_after_raise b n s h

/-- A notice raised for a table stands at the end of the event. -/
theorem hasNotice_finish {n : Notice} (h : (raiseTables before after named (markRecords before named after)).HasNotice n) :
    (finish before after named access).HasNotice n := by
  have watched : ((raiseTables before after named (markRecords before named after)).modWatch fun w =>
    { w with slots := tableMap (fun k slot =>
        (slot.record (watchHits before after access (before.watch.slots.get k))).afterSessions before after) w.slots }).HasNotice n := h
  exact watched.raiseIf _ _

theorem finish_notice_cassettes {c : CassetteId} (h : cassetteMoved before after named c = true) :
    (finish before after named access).HasNotice .cassettes :=
  hasNotice_finish (((((hasNotice_raiseIf _ (List.any_eq_true.mpr ⟨c, mem_positions c, h⟩) _).raiseIf _ _).raiseIf _ _).raiseIf
    _ _).raiseIf _ _)

theorem finish_notice_orders {i : OrderSlot} (h : orderMoved before after named i = true) :
    (finish before after named access).HasNotice .orders :=
  hasNotice_finish ((((hasNotice_raiseIf _ (List.any_eq_true.mpr ⟨i, mem_positions i, h⟩) _).raiseIf _ _).raiseIf _ _).raiseIf
    _ _)

theorem finish_notice_envelopes {e : Envelope} (he : e ∈ after.custody.envelopes)
    (h : envelopeMoved before named e = true) : (finish before after named access).HasNotice .envelopes :=
  hasNotice_finish (((hasNotice_raiseIf _ (List.any_eq_true.mpr ⟨e, he, h⟩) _).raiseIf _ _).raiseIf _ _)

theorem finish_notice_zones {z : ZoneId} (h : zoneMoved before after named z = true) :
    (finish before after named access).HasNotice .zones :=
  hasNotice_finish ((hasNotice_raiseIf _ (List.any_eq_true.mpr ⟨z, mem_positions z, h⟩) _).raiseIf _ _)

theorem finish_notice_lanes {l : LaneId} (h : laneMoved before after named l = true) :
    (finish before after named access).HasNotice .lanes :=
  hasNotice_finish (hasNotice_raiseIf _ (List.any_eq_true.mpr ⟨l, mem_positions l, h⟩) _)

/-! ### Marks that an event leaves set -/

theorem Cassette.eq_of_same {a b : Cassette} (same : a.same b = true) (mark : b.mark = a.mark) : b = a := by
  cases a
  cases b
  simp_all [Cassette.same]

theorem Order.eq_of_same {a b : Order} (same : a.same b = true) (mark : b.mark = a.mark) : b = a := by
  cases a
  cases b
  simp_all [Order.same]

theorem Envelope.eq_of_same {a b : Envelope} (same : a.same b = true) (mark : b.mark = a.mark) : b = a := by
  cases a
  cases b
  simp_all [Envelope.same]

theorem Zone.eq_of_same {a b : Zone} (same : a.same b = true) (mark : b.mark = a.mark) : b = a := by
  cases a
  cases b
  simp_all [Zone.same]

theorem Lane.eq_of_same {a b : Lane} (same : a.same b = true) (mark : b.mark = a.mark) : b = a := by
  cases a
  cases b
  simp_all [Lane.same]

/-- A cassette record after an event that sets and clears no mark by its own effect: it stands, or it is marked and its
notice is set. -/
theorem EventKeeps.cassette_marked (keeps : EventKeeps s after) (c : CassetteId) :
    (finish s after none access).cassette c = s.cassette c ∨ ((finish s after none access).cassette c).mark = true ∧
      (finish s after none access).HasNotice .cassettes := by
  cases moved : cassetteMoved s after none c with
  | true => exact .inr ⟨by rw [finish_cassette, moved]; rfl, finish_notice_cassettes moved⟩
  | false =>
    have same : (s.cassette c).same (after.cassette c) = true := by simpa [cassetteMoved] using moved
    exact .inl (finish_cassette_of_eq (Cassette.eq_of_same same (keeps.cassettes c)))

theorem EventKeeps.zone_marked (keeps : EventKeeps s after) (z : ZoneId) :
    (finish s after none access).zone z = s.zone z ∨ ((finish s after none access).zone z).mark = true ∧
      (finish s after none access).HasNotice .zones := by
  cases moved : zoneMoved s after none z with
  | true => exact .inr ⟨by rw [finish_zone, moved]; rfl, finish_notice_zones moved⟩
  | false =>
    have same : (s.zone z).same (after.zone z) = true := by simpa [zoneMoved] using moved
    exact .inl (finish_zone_of_eq (Zone.eq_of_same same (keeps.zones z)))

theorem EventKeeps.lane_marked (keeps : EventKeeps s after) (l : LaneId) :
    (finish s after none access).lane l = s.lane l ∨ ((finish s after none access).lane l).mark = true ∧
      (finish s after none access).HasNotice .lanes := by
  cases moved : laneMoved s after none l with
  | true => exact .inr ⟨by rw [finish_lane, moved]; rfl, finish_notice_lanes moved⟩
  | false =>
    have same : (s.lane l).same (after.lane l) = true := by simpa [laneMoved] using moved
    exact .inl (finish_lane_of_eq (Lane.eq_of_same same (keeps.lanes l)))

/-- The same of an order; no event empties or fills a slot of the order table. -/
theorem EventKeeps.order_marked (keeps : EventKeeps s after) (i : OrderSlot) :
    (finish s after none access).order i = s.order i ∨ ((finish s after none access).order i).any (·.mark) = true ∧
      (finish s after none access).HasNotice .orders := by
  have marks := keeps.orders i
  cases moved : orderMoved s after none i with
  | true =>
    refine .inr ⟨?_, finish_notice_orders moved⟩
    rw [finish_order, moved]
    unfold orderMoved at moved
    cases o : after.order i with
    | none => rw [o] at moved; cases h : s.order i <;> rw [h] at moved <;> cases moved
    | some b => rfl
  | false =>
    refine .inl (finish_order_of_eq ?_)
    unfold orderMoved at moved
    cases h : s.order i <;> cases k : after.order i <;> rw [h, k] at marks moved <;> simp_all
    exact Order.eq_of_same moved marks

/-- The same of the envelope records: each stood before, or is marked and the notice is set. The numbers tell a new record
from one that stood. -/
theorem EventKeeps.envelope_marked (keeps : EventKeeps s after) (law : CaptureLaw s) {e : Envelope}
    (he : e ∈ (finish s after none access).custody.envelopes) :
    e ∈ s.custody.envelopes ∨ e.mark = true ∧ (finish s after none access).HasNotice .envelopes := by
  obtain ⟨new, labels, free⟩ := keeps.envelopes law
  obtain ⟨_, nodup, _⟩ := law
  rw [finish_envelopes, List.mem_map] at he
  obtain ⟨b, hb, rfl⟩ := he
  cases moved : envelopeMoved s none b with
  | true => exact .inr ⟨rfl, finish_notice_envelopes hb moved⟩
  | false =>
    left
    obtain ⟨a, ha, same⟩ : ∃ a ∈ s.custody.envelopes, a.same b = true := by
      simpa [envelopeMoved] using moved
    have number : b.capture = a.capture := by
      simp only [Envelope.same, beq_iff_eq, Envelope.mk.injEq] at same
      exact same.1.symm
    have label : (b.capture, b.mark) ∈ s.labels ++ new := labels ▸ List.mem_map_of_mem hb
    rcases List.mem_append.mp label with stood | issued
    · obtain ⟨d, hd, eq⟩ := List.mem_map.mp stood
      simp only [Prod.mk.injEq] at eq
      have one : d = a := List.inj_on_of_nodup_map nodup hd ha (eq.1.trans number)
      have equal : b = a := Envelope.eq_of_same same (one ▸ eq.2.symm)
      exact equal ▸ ha
    · exact absurd (List.mem_map_of_mem (f := (·.capture)) ha) (number ▸ free _ issued)

/-- Settles O53: whatever an event changes in a record is marked, and the notice of the table is set. -/
theorem eventsMarkWhatTheyChange : Obligations.EventsMarkWhatTheyChange := by
  intro c s frameless phase law
  refine (frameless_ends frameless).imp fun t ends => ?_
  rcases ends with (same | ⟨after, keeps, rfl⟩) | ⟨settle, _⟩
  · simp [State.cassette, State.order, State.zone, State.lane, same]
    exact fun e he => .inl he
  · have noticed {α : Type} {p : α → Prop} {q : Prop} (h : ∀ a, p a ∨ q) (k : ∃ a, ¬ p a) : q := by
      obtain ⟨a, ha⟩ := k
      exact (h a).resolve_left ha
    refine ⟨fun k => (keeps.cassette_marked k).imp_right And.left, fun k => (keeps.zone_marked k).imp_right And.left,
      fun k => (keeps.lane_marked k).imp_right And.left, fun k => (keeps.order_marked k).imp_right And.left,
      fun e he => (keeps.envelope_marked law he).imp_right And.left,
      noticed fun k => (keeps.cassette_marked k).imp_right And.right,
      noticed fun k => (keeps.order_marked k).imp_right And.right,
      noticed fun k => (keeps.zone_marked k).imp_right And.right,
      noticed fun k => (keeps.lane_marked k).imp_right And.right, ?_⟩
    rintro ⟨e, he, new⟩
    exact ((keeps.envelope_marked law he).resolve_left new).2
  · exact absurd settle phase

end Sys2Proof.Machine
end

section
/-! Refused commands leave every record as it was. -/

namespace Sys2Proof.Machine
set_option Elab.async false

variable {s t u before after : State} {named access : Option RecordRef}

/-! ### Commands that are refused -/

/-- An event whose effect leaves the retained store leaves it so at its end: no record is marked. -/
theorem finish_custody_of_same (same : after.custody = before.custody) :
    (finish before after named access).custody = before.custody := by
  have cassettes : ∀ c, cassetteMoved before after named c = false := fun c =>
    cassetteMoved_of_eq (by simp [State.cassette, same])
  have orders : ∀ i, orderMoved before after named i = false := fun i => orderMoved_of_eq (by simp [State.order, same])
  have zones : ∀ z, zoneMoved before after named z = false := fun z => zoneMoved_of_eq (by simp [State.zone, same])
  have lanes : ∀ l, laneMoved before after named l = false := fun l => laneMoved_of_eq (by simp [State.lane, same])
  have envelopes : ∀ e ∈ after.custody.envelopes, envelopeMoved before named e = false := fun e he =>
    envelopeMoved_of_mem (same ▸ he)
  have table {α : Type} {n : Nat} (v : Vector α n) : tableMap (fun _ r => r) v = v := table_ext fun i => by simp
  have marked : (markRecords before named after).custody = after.custody := by
    have list : (after.custody.envelopes.map fun e => if envelopeMoved before named e then { e with mark := true } else e)
        = after.custody.envelopes := by
      conv => rhs; rw [← List.map_id after.custody.envelopes]
      exact List.map_congr_left fun e he => by rw [envelopes e he]; rfl
    simp [markRecords, cassettes, orders, zones, lanes, list, table]
  rw [← same, ← marked]
  simp [finish, watchRecords, raiseTables, State.syncAttention]

/-- An event whose effect leaves the lanes leaves the enable of every watch slot. -/
theorem finish_enable_of_same (same : after.custody = before.custody) (k : WatchId) :
    ((finish before after named access).watch.slots.get k).enable = (after.watch.slots.get k).enable := by
  have lanes : ∀ l, after.lane l = before.lane l := fun l => by simp [State.lane, same]
  rw [finish_slot]
  generalize watchHits before after access (before.watch.slots.get k) = hits
  unfold WatchSlot.afterSessions WatchSlot.record
  cases hits.getLast? <;> simp only [] <;> split <;> simp [lanes]

/-- What a refusal leaves: the records, the working state of the blocks and the configuration and enable of every watch
slot stand, and the refusal record has taken the command (R4, R167). -/
def RefusalLeaves (code : Byte) (ps : List Byte) (r : ResultCode) (s t : State) : Prop :=
  t.custody = s.custody ∧ t.path = s.path ∧ t.work = s.work ∧
  t.conveyor = s.conveyor ∧ t.alarm = s.alarm ∧ t.sup = s.sup ∧ t.levels = s.levels ∧
  (∀ k, (t.watch.slots.get k).enable = (s.watch.slots.get k).enable ∧
    (t.watch.slots.get k).kind = (s.watch.slots.get k).kind ∧
    (t.watch.slots.get k).first = (s.watch.slots.get k).first ∧
    (t.watch.slots.get k).span = (s.watch.slots.get k).span ∧
    (t.watch.slots.get k).trigger = (s.watch.slots.get k).trigger ∧
    (t.watch.slots.get k).threshold = (s.watch.slots.get k).threshold ∧
    (t.watch.slots.get k).scope = (s.watch.slots.get k).scope) ∧
  t.watch.refused = some { code := code, param := ps.getD 0 0, result := r } ∧
  t.watch.refusals = bump s.watch.refusals

/-- The refusal of a malformed frame, with the link status flag it sets (R173). -/
theorem malformed_leaves (code : Byte) (ps : List Byte) (r : ResultCode) (flag : BitVec 3) (s : State) :
    RefusalLeaves code ps r s
      (((s.released.written.noteRefusal code ps r).linkFault flag).answering r .empty) := by
  simp [RefusalLeaves, State.answering, State.linkFault, State.noteRefusal, State.syncAttention]

/-- The refusal of a command by its own rule. -/
theorem refuse_leaves (code : Byte) (ps : List Byte) (r : ResultCode) (p : Payload) (x : Option RecordRef) (s : State) :
    RefusalLeaves code ps r s (s.released.written.answer code ps (.refuse r p x)) := by
  generalize raised : s.released.written.raiseIf (r == .retractFull) .bins = after
  have same : after.custody = s.released.written.custody := by rw [← raised]; simp
  have custody := finish_custody_of_same (named := none) (access := x) same
  have enables := finish_enable_of_same (named := none) (access := x) same
  have watch : after.watch = s.watch := by rw [← raised]; simp
  obtain ⟨_, _, slots⟩ := watchStands_finish (before := s.released.written) (after := after) (named := none) (access := x)
    (by rw [watch]; simp)
  simp only [taken_watch] at slots
  simp only [State.answer, raised, State.answering, State.noteRefusal]
  refine ⟨by simpa using custody, ?_, ?_, ?_, ?_, ?_, ?_, fun k => ⟨?_, ?_⟩, by simp, by simp [watch]⟩
  case refine_7 => simpa [watch] using enables k
  case refine_8 =>
    obtain ⟨kind, first, span, trigger, threshold, scope, _⟩ := slots k
    exact ⟨kind, first, span, trigger, threshold, scope⟩
  all_goals simp [← raised]

/-- A well-formed command carries no more bytes than the port shifts in (R169). -/
theorem length_of_wf {c : Instr} {code : Byte} {ps : List Byte} (wf : c.wf = true)
    (framed : encodeFrame c = some (code :: ps)) : ps.length ≤ 63 := by
  cases c <;> simp only [encodeFrame, Option.some.injEq, List.cons.injEq, reduceCtorEq] at framed <;>
    obtain ⟨rfl, rfl⟩ := framed <;> simp_all [Instr.wf, bytesFit]

/-- What the state after a taken command says of its refusal. -/
def RefusalNoted (code : Byte) (ps : List Byte) (s t : State) : Prop :=
  match t.port.processing with
  | some r => r.code = .ok ∨ r.code = .clamped ∨ RefusalLeaves code ps r.code s t
  | none => True

theorem station_refusal {c : Instr} {code : Byte} {required : List Byte → Nat} {body : List Byte → State → Reply}
    {ps : List Byte} (hc : exec c s = station code required body ps s) (proper : ∀ ps u, (body ps u).Proper u)
    (takes : s.takes = true) (short : ps.length ≤ 63) : Yields c s (RefusalNoted code ps s) := by
  by_cases enough : required ps ≤ ps.length
  · refine yields_of (hc.trans (station_taken takes short enough)) ?_
    have answer := proper ps s.released.written
    cases reply : body ps s.released.written with
    | done v r p x => rw [reply] at answer; exact answer.1.imp id .inl
    | silent v =>
      rw [reply] at answer
      have silent : (finish s.released.written v none none).port.processing = none := finish_processing.trans answer.1
      simp only [RefusalNoted, State.answer, silent]
    | refuse r p x => exact .inr (.inr (refuse_leaves code ps r p x s))
  · exact yields_of (hc.trans (station_short takes short (Nat.not_le.mp enough)))
      (.inr (.inr (malformed_leaves code ps .frameLength frameFlag s)))

/-- Settles O6: a refused command changes no record and no working state. -/
theorem refusedCommandsChangeNoRecord : Obligations.RefusedCommandsChangeNoRecord := by
  intro c code ps s wf framed noop takes
  have short := length_of_wf wf framed
  refine Yields.imp (P := RefusalNoted code ps s) ?_ fun t noted => noted
  rcases exec_framed framed with ⟨_, isNoop⟩ | rfl | ⟨required, body, hc, proper⟩
  · exact absurd isNoop noop
  · simp only [Instr.wf, Bool.and_eq_true, Bool.not_eq_true'] at wf
    simp only [State.takes, Bool.and_eq_true, Bool.not_eq_true'] at takes
    have taken : exec (.unknownCommand code ps) s = .next (((s.released.written.noteRefusal code ps .unknownCommand).linkFault
        unknownFlag).answering .unknownCommand .empty) := by
      simp only [exec, execUnknownCommand, wf.1, takes.1, takes.2]
      rfl
    exact yields_of taken (.inr (.inr (malformed_leaves code ps .unknownCommand unknownFlag s)))
  · exact station_refusal (hc s) proper takes short

end Sys2Proof.Machine
end

section
/-! Reads that name no record change nothing but the port. -/

namespace Sys2Proof.Machine
set_option Elab.async false

variable {s t u : State}

/-! ### A command that has no effect -/

/-- Nothing hits a slot when nothing has changed and no record is resolved (R163). -/
theorem watchHits_self (s : State) (w : WatchSlot) : watchHits s s none w = [] := by
  have unmet : w.met false false false false = false := by unfold WatchSlot.met; split <;> rfl
  have stays (k n : Nat) : (decide (k ≤ n) && decide (n < k)) = false := by
    simp only [Bool.and_eq_false_iff, decide_eq_false_iff_not]
    omega
  unfold watchHits
  split
  · split
    case h_1 => cases above : w.threshold <;> simp [cassetteHits, above, stays, unmet]
    case h_2 =>
      refine List.map_eq_nil_iff.mpr (List.filter_eq_nil_iff.mpr fun i _ => ?_)
      cases s.order i <;> simp [unmet]
    case h_3 =>
      refine List.map_eq_nil_iff.mpr (List.filter_eq_nil_iff.mpr fun e _ => ?_)
      cases s.envelope e.capture <;> simp [unmet]
    case h_4 => simp [zoneHits, unmet]
    case h_5 => simp [laneHits, unmet]
  · rfl

theorem raiseIf_of_false {b : Bool} (h : b = false) (n : Notice) (s : State) : s.raiseIf b n = s := by
  subst h
  rfl

/-- An event without effect moves no record. -/
theorem raiseTables_self (s t : State) (named : Option RecordRef) : raiseTables s s named t = t := by
  have cassettes : (positions _).any (cassetteMoved s s named) = false := by simp [cassetteMoved_of_eq]
  have orders : (positions _).any (orderMoved s s named) = false := by simp [orderMoved_of_eq]
  have envelopes : s.custody.envelopes.any (envelopeMoved s named) = false :=
    List.any_eq_false.mpr fun e he => by simp [envelopeMoved_of_mem he]
  have zones : (positions _).any (zoneMoved s s named) = false := by simp [zoneMoved_of_eq]
  have lanes : (positions _).any (laneMoved s s named) = false := by simp [laneMoved_of_eq]
  simp only [raiseTables, cassettes, orders, envelopes, zones, lanes, raiseIf_of_false]

/-- An event without effect ends without one: only the attention line follows the notices. -/
theorem finish_self (s : State) : finish s s none none = s.syncAttention := by
  have marked : markRecords s none s = s := by
    have custody := finish_custody_of_same (before := s) (named := none) (access := none) rfl
    have stands : (finish s s none none).custody = (markRecords s none s).custody := by
      simp [finish, watchRecords, raiseTables, State.syncAttention]
    calc markRecords s none s = { s with custody := (markRecords s none s).custody } := rfl
      _ = s := by rw [← stands, custody]
  have slots : tableMap (fun k (slot : WatchSlot) =>
      (slot.record (watchHits s s none (s.watch.slots.get k))).afterSessions s s) s.watch.slots = s.watch.slots :=
    table_ext fun k => by
      have apart (l : LaneId) : ((s.lane l).session == .opened && (s.lane l).session != .opened) = false := by
        cases (s.lane l).session <;> rfl
      rw [tableMap_get, watchHits_self]
      cases scope : (s.watch.slots.get k).scope <;> simp [WatchSlot.record, WatchSlot.afterSessions, scope, apart]
  have quiet : ((positions _).any fun k => !(watchHits s s none (s.watch.slots.get k)).isEmpty) = false := by
    simp [watchHits_self]
  have recorded : watchRecords s s none s = s := by
    rw [watchRecords, raiseIf_of_false quiet]
    simp only [State.modWatch, slots]
  rw [finish, marked, raiseTables_self, recorded]

/-- A taken command that has no effect is answered with its result. -/
theorem answered_of_done (code : Byte) (ps : List Byte) (p : Payload) (s : State) :
    s.released.written.answer code ps (.done s.released.written .ok p none) = s.answered { code := .ok, payload := p } := by
  rw [answer_done, finish_self]
  cases previous : s.port.processing <;> simp [State.answered, State.released, State.written, State.answering, State.syncAttention,
    State.attentionDue, State.modPort, previous]

/-- A taken frame with all its bytes has its command carried out. -/
theorem station_carried {code : Byte} {n : Nat} {body : List Byte → State → Reply} {ps : List Byte} (takes : s.takes = true)
    (bytes : carries n ps = true) :
    station code (fixed n) body ps s = .next (s.released.written.answer code ps (body ps s.released.written)) := by
  simp only [carries, Bool.and_eq_true, decide_eq_true_eq] at bytes
  exact station_taken takes bytes.2 bytes.1

/-- A command whose rule only returns p is answered with it. -/
theorem yields_answered {c : Instr} {code : Byte} {body : List Byte → State → Reply} {ps : List Byte} {p : Payload}
    (hc : exec c s = station code (fixed 0) body ps s)
    (reply : body ps s.released.written = .done s.released.written .ok p none) (takes : s.takes = true)
    (bytes : carries 0 ps = true) : Yields c s fun t => t = s.answered { code := .ok, payload := p } :=
  yields_of (hc.trans (station_carried takes bytes)) (by rw [reply, answered_of_done])

/-- The end of a frame rewrites nothing but the port. -/
theorem taken_eq (s : State) : ∃ q : Port, s.released.written = { s with port := q } := by
  unfold State.written State.released
  split <;> exact ⟨_, rfl⟩

/-- What does not read the port is as it was when a frame is taken. -/
theorem taken_reads {α : Type} {g : State → α} (blind : ∀ (s : State) (q : Port), g { s with port := q } = g s) (s : State) :
    g s.released.written = g s := by
  obtain ⟨q, e⟩ := taken_eq s
  rw [e, blind]

/-- Settles O8: the reads and scans that name no single record return what stands and change nothing else. -/
theorem readsOfTheWholeChangeNothing : Obligations.ReadsOfTheWholeChangeNothing := by
  refine ⟨?_, ?_, ?_, ?_, ?_, ?_, ?_, ?_, ?_, ?_, ?_, ?_, Payload.data_handles, ?_⟩
  case refine_13 => intro l more; cases more <;> rfl
  all_goals
    intro ps s takes bytes
    refine yields_answered rfl ?_ takes bytes
  case refine_1 => rfl
  case refine_2 => simp [linkStatusRead, byte1]
  case refine_3 => simp [noticeRead]
  case refine_4 => simp [configRead, Settings.bytes]
  case refine_5 => simp [cassetteReadAll, State.cassetteSummaries]
  case refine_6 => simp [orderScan, State.markedOrders, State.handle]
  case refine_7 => simp [envelopeScan, State.markedEnvelopes]
  case refine_8 => rw [binRead, taken_reads (g := State.binReport) fun _ _ => rfl]
  case refine_9 => simp [laneReadAll, State.laneSummaries]
  case refine_10 => rw [transportRead, taken_reads (g := State.transportReport) fun _ _ => rfl]
  case refine_11 =>
    rw [zoneReadAll, taken_reads (g := State.zoneSummaries) fun _ _ => rfl, taken_reads (g := State.alarmStatus) fun _ _ => rfl]
  case refine_12 => simp [watchRead, State.hitValue, positions]

end Sys2Proof.Machine
end

section
/-! What a command that names a record answers. -/

namespace Sys2Proof.Machine
set_option Elab.async false

variable {s t u before after : State} {access : Option RecordRef}

/-! ### The answer of a taken command -/

/-- A taken command that its rule carries out ends as its event does, with its result in processing. -/
theorem yields_done {c : Instr} {code : Byte} {required : List Byte → Nat} {body : List Byte → State → Reply} {ps : List Byte}
    {r : ResultCode} {p : Payload} {target : Option RecordRef} {P : State → Prop}
    (hc : exec c s = station code required body ps s) (takes : s.takes = true) (bytes : carries (required ps) ps = true)
    (reply : body ps s.released.written = .done after r p target)
    (ends : P ((finish s.released.written after target target).answering r p)) : Yields c s P := by
  simp only [carries, Bool.and_eq_true, decide_eq_true_eq] at bytes
  refine yields_of (hc.trans (station_taken takes bytes.2 bytes.1)) ?_
  rw [reply, answer_done]
  exact ends

/-- A taken command that its rule refuses ends as its event does and is noted, with the refusal in processing. -/
theorem yields_refused {c : Instr} {code : Byte} {required : List Byte → Nat} {body : List Byte → State → Reply} {ps : List Byte}
    {r : ResultCode} {p : Payload} {target : Option RecordRef} {P : State → Prop}
    (hc : exec c s = station code required body ps s) (takes : s.takes = true) (bytes : carries (required ps) ps = true)
    (reply : body ps s.released.written = .refuse r p target)
    (ends : P (((finish s.released.written (s.released.written.raiseIf (r == .retractFull) .bins) none target).noteRefusal code ps
      r).answering r p)) : Yields c s P := by
  simp only [carries, Bool.and_eq_true, decide_eq_true_eq] at bytes
  refine yields_of (hc.trans (station_taken takes bytes.2 bytes.1)) ?_
  rw [reply, State.answer]
  exact ends

/-- A taken command that its rule refuses has the refusal's result. -/
theorem refuses_of {c : Instr} {code : Byte} {required : List Byte → Nat} {body : List Byte → State → Reply} {ps : List Byte}
    {r : ResultCode} {p : Payload} {target : Option RecordRef}
    (hc : exec c s = station code required body ps s) (takes : s.takes = true) (bytes : carries (required ps) ps = true)
    (reply : body ps s.released.written = .refuse r p target) : Refuses c s r :=
  yields_refused hc takes bytes reply rfl

@[simp] theorem answering_custody (r : ResultCode) (p : Payload) (s : State) : (s.answering r p).custody = s.custody := rfl
@[simp] theorem answering_cassette (r : ResultCode) (p : Payload) (s : State) (c) : (s.answering r p).cassette c = s.cassette c :=
  rfl
@[simp] theorem answering_order (r : ResultCode) (p : Payload) (s : State) (i) : (s.answering r p).order i = s.order i := rfl
@[simp] theorem answering_zone (r : ResultCode) (p : Payload) (s : State) (z) : (s.answering r p).zone z = s.zone z := rfl
@[simp] theorem answering_lane (r : ResultCode) (p : Payload) (s : State) (l) : (s.answering r p).lane l = s.lane l := rfl
@[simp] theorem answering_envelope (r : ResultCode) (p : Payload) (s : State) (n) : (s.answering r p).envelope n = s.envelope n :=
  rfl
@[simp] theorem answering_path (r : ResultCode) (p : Payload) (s : State) : (s.answering r p).path = s.path := rfl

/-! ### The record that a command names is not marked (R9) -/

theorem finish_cassette_named {c : CassetteId} : (finish before after (some (.cassette c)) access).cassette c = after.cassette c := by
  simp [finish_cassette, cassetteMoved]

theorem finish_order_named {i : OrderSlot} : (finish before after (some (.order i)) access).order i = after.order i := by
  have still : orderMoved before after (some (.order i)) i = false := by unfold orderMoved; split <;> simp
  simp [finish_order, still]

theorem finish_zone_named {z : ZoneId} : (finish before after (some (.zone z)) access).zone z = after.zone z := by
  simp [finish_zone, zoneMoved]

theorem finish_lane_named {l : LaneId} : (finish before after (some (.lane l)) access).lane l = after.lane l := by
  simp [finish_lane, laneMoved]

/-- A command that touches the one envelope it names marks none. -/
theorem finish_envelope_named {n : Nat} {f : Footprint} (h : Touches f before after) (alone : f.envelopes = [n]) (k : Nat) :
    (finish before after (some (.envelope n)) access).envelope k = after.envelope k := by
  have still : ∀ e ∈ after.custody.envelopes, envelopeMoved before (some (.envelope n)) e = false := fun e he => by
    by_cases here : e.capture = n
    · simp [envelopeMoved, here]
    · have kept : e ∈ after.custody.envelopes.filter fun e => !f.envelopes.contains e.capture :=
        List.mem_filter.mpr ⟨he, by simp [alone, here]⟩
      rw [h.envelopes] at kept
      exact envelopeMoved_of_mem (List.mem_of_mem_filter kept)
  have same : (finish before after (some (.envelope n)) access).custody.envelopes = after.custody.envelopes := by
    rw [finish_envelopes]
    conv => rhs; rw [← List.map_id after.custody.envelopes]
    exact List.map_congr_left fun e he => by rw [still e he]; rfl
  rw [State.envelope, same, State.envelope]

theorem envelope_capture {n : Nat} {e : Envelope} (found : s.envelope n = some e) : e.capture = n := by
  simpa using List.find?_some found

/-- The record of a capture number after it has been rewritten. -/
theorem modEnvelope_envelope_self {n : Nat} {e : Envelope} {g : Envelope → Envelope} (found : s.envelope n = some e)
    (keeps : ∀ e, (g e).capture = e.capture) : (s.modEnvelope n g).envelope n = some (g e) := by
  have same : ((fun e : Envelope => e.capture == n) ∘ fun e => if e.capture = n then g e else e) = fun e => e.capture == n := by
    funext e
    by_cases here : e.capture = n <;> simp [here, keeps]
  have first : s.custody.envelopes.find? (fun e => e.capture == n) = some e := found
  rw [State.envelope, State.modEnvelope_envelopes, List.find?_map, same, first, Option.map_some, if_pos (envelope_capture found)]

/-! ### How a command resolves the record it names (R3, R4, R8) -/

/-- A handle whose slot holds an order with the handle's tag resolves it. -/
theorem byHandle_resolved {v : Nat} {i : OrderSlot} {o : Order} {more : List (Bool × ResultCode)} {go : OrderSlot → Order → Reply}
    (slot : handleSlot v = some i) (passes : firstRefusal more = none) (order : s.order i = some o)
    (tag : handleTag v = s.custody.tags.get i) : byHandle s v more go = go i o := by
  simp [byHandle, param, checked, State.resolve, slot, passes, order, tag]

/-- A handle whose slot is free or has another tag is refused. -/
theorem byHandle_unresolved {v : Nat} {i : OrderSlot} {more : List (Bool × ResultCode)} {go : OrderSlot → Order → Reply}
    (slot : handleSlot v = some i) (passes : firstRefusal more = none)
    (names : (s.order i).isNone = true ∨ handleTag v ≠ s.custody.tags.get i) :
    byHandle s v more go = .refuse (if (s.order i).isNone then .noSuch else .stale) .empty none := by
  cases order : s.order i with
  | none => simp [byHandle, param, checked, State.resolve, slot, passes, order]
  | some o =>
    have other : s.custody.tags.get i ≠ handleTag v := by simpa [order, eq_comm] using names
    simp [byHandle, param, checked, State.resolve, slot, passes, order, other]

/-- A capture number of a live record resolves it. -/
theorem byCapture_resolved {n : Nat} {e : Envelope} {more : List (Bool × ResultCode)} {go : Envelope → Reply} (known : n ≠ 0)
    (passes : firstRefusal more = none) (found : s.envelope n = some e) : byCapture s n more go = go e := by
  simp [byCapture, checked, firstRefusal, known, passes, found]

/-- A capture number that names no live record is refused. -/
theorem byCapture_unresolved {n : Nat} {more : List (Bool × ResultCode)} {go : Envelope → Reply}
    (passes : firstRefusal more = none) (missing : s.envelope n = none) :
    byCapture s n more go = .refuse (if n = 0 then .badParam else .noSuch) .empty none := by
  by_cases zero : n = 0 <;> simp [byCapture, checked, firstRefusal, zero, passes, missing]

end Sys2Proof.Machine
end

section
/-! A command that reads one record clears its mark. -/

namespace Sys2Proof.Machine
set_option Elab.async false

variable {s : State} {ps : List Byte}

/-! ### What the rules of the READs answer -/

theorem cassetteRead_reply {c : CassetteId} (slot : cassetteOf (byteAt ps 0) = some c) :
    cassetteRead ps s = .done (s.modCassette c fun r => { r with mark := false }) .ok (.bytes ((s.cassette c).bytes c))
      (some (.cassette c)) := by
  simp only [cassetteRead, slot, param]

theorem orderRead_reply {i : OrderSlot} {o : Order} (slot : handleSlot (byteAt ps 0) = some i) (order : s.order i = some o)
    (tag : handleTag (byteAt ps 0) = s.custody.tags.get i) :
    orderRead ps s = .done (s.modOrder i fun o => { o with mark := false }) .ok (.bytes (o.bytes (s.handle i) s.clock))
      (some (.order i)) := by
  rw [orderRead, byHandle_resolved slot rfl order tag]

theorem envelopeRead_reply {e : Envelope} (known : word4 ps 0 ≠ 0) (found : s.envelope (word4 ps 0) = some e) :
    envelopeRead ps s = .done (s.modEnvelope (word4 ps 0) fun r => { r with mark := false }) .ok
      (.bytes (e.bytes s.clock s.conveyor.list)) (some (.envelope (word4 ps 0))) := by
  rw [envelopeRead, byCapture_resolved known rfl found, envelope_capture found]

theorem zoneRead_reply {z : ZoneId} (zone : zoneOf (byteAt ps 0) = some z) :
    zoneRead ps s = .done (s.modZone z fun r => { r with mark := false }) .ok (.zone (s.zoneReport z)) (some (.zone z)) := by
  simp only [zoneRead, zone, param]

theorem laneRead_reply {l : LaneId} (lane : laneOf (byteAt ps 0) = some l) :
    laneRead ps s = .done (s.modLane l fun r => { r with mark := false }) .ok (.lane (s.laneReport l)) (some (.lane l)) := by
  simp only [laneRead, lane, param]

/-! ### The byte layouts of section 10.7 -/

theorem tallyBytes_of_not_leveling {r : Cassette} (h : r.state ≠ .leveling) :
    r.tallyBytes = byte2 r.accepted ++ byte2 r.rejectNotes ++ byte2 r.testNotes ++ byte2 r.writtenOff := by
  unfold Cassette.tallyBytes
  split
  · contradiction
  · rfl

theorem placeIn_eq (n : Nat) (list : List Nat) : placeIn n list = if n ∈ list then list.idxOf n + 1 else 0 := by
  unfold placeIn
  cases place : list.idxOf? n with
  | none => simp [List.idxOf?_eq_none_iff.mp place]
  | some k =>
    obtain ⟨short, rfl⟩ := List.findIdx?_eq_some_iff_findIdx_eq.mp place
    have found : n ∈ list := List.idxOf_lt_length_iff.mp short
    rw [if_pos found, List.idxOf]

/-- The deadline bytes of ORDER READ, for a time of at most 32 bits. -/
theorem optTime4_shownDeadline {o : Order} {x : Nat}
    (shown : x = if o.state = .held then o.holdDeadline.getD 4294967295
      else if o.state = .presented then o.presentDeadline.getD 4294967295 else 4294967295)
    (small : x < 4294967296) : optTime4 o.shownDeadline = byte4 x := by
  subst shown
  unfold Order.shownDeadline
  cases state : o.state <;> simp only [state, reduceCtorEq, if_true, if_false] at small ⊢
  case held => cases h : o.holdDeadline <;> simp [h] at small <;> simp [optTime4, time4, small]
  case presented => cases h : o.presentDeadline <;> simp [h] at small <;> simp [optTime4, time4, small]
  all_goals rfl

/-- Settles O9: a READ returns the whole named record with its mark as it stood, and then clears the mark alone. -/
theorem recordReadsClearTheMark : Obligations.RecordReadsClearTheMark := by
  refine ⟨?_, ?_, ?_, ?_, ?_, ?_, ?_, ?_, ?_, ?_⟩
  case refine_1 =>
    intro ps c s takes bytes slot
    refine yields_done rfl takes bytes (cassetteRead_reply slot) ?_
    rw [taken_cassette, answering_cassette, finish_cassette_named]
    exact ⟨commandLeaves_finish (Touches.modCassette (by simp) _) (by simp), by simp⟩
  case refine_2 =>
    intro ps i o s takes bytes slot order tag
    refine yields_done rfl takes bytes (orderRead_reply (o := o) slot (by simpa using order) (by simpa using tag)) ?_
    rw [taken_reads (g := (State.handle · i)) fun _ _ => rfl, taken_clock, answering_order, finish_order_named]
    exact ⟨commandLeaves_finish (Touches.modOrder (by simp) _) (by simp), by simp [order]⟩
  case refine_3 =>
    intro ps e s takes bytes known found
    have here : s.released.written.envelope (word4 ps 0) = some e := by simpa using found
    refine yields_done rfl takes bytes (envelopeRead_reply known here) ?_
    have touches : Touches { envelopes := [word4 ps 0] } s.released.written
        (s.released.written.modEnvelope (word4 ps 0) fun r => { r with mark := false }) :=
      Touches.modEnvelope (by simp) _ fun _ => rfl
    rw [taken_clock, taken_conveyor, answering_envelope, finish_envelope_named touches rfl,
      modEnvelope_envelope_self here (by simp)]
    exact ⟨commandLeaves_finish touches (by simp), rfl⟩
  case refine_4 =>
    intro ps z s takes bytes zone
    refine yields_done rfl takes bytes (zoneRead_reply zone) ?_
    rw [taken_reads (g := (State.zoneReport · z)) fun _ _ => rfl, answering_zone, finish_zone_named]
    exact ⟨commandLeaves_finish (Touches.modZone (by simp) _) (by simp), by simp⟩
  case refine_5 =>
    intro ps l s takes bytes lane
    refine yields_done rfl takes bytes (laneRead_reply lane) ?_
    rw [taken_reads (g := (State.laneReport · l)) fun _ _ => rfl, answering_lane, finish_lane_named]
    exact ⟨commandLeaves_finish (Touches.modLane (by simp) _) (by simp), by simp⟩
  case refine_6 =>
    intro c r still
    simp [Cassette.bytes, tallyBytes_of_not_leveling still, byte1, byte2, weight]
  case refine_7 =>
    intro c r v state leveling
    rcases trial : v.lastTrial with _ | ⟨x, _ | _⟩ <;>
      simp [Cassette.bytes, Cassette.tallyBytes, state, leveling, trial, byte1, byte2, weight]
  case refine_8 =>
    intro o handle clock x shown small early
    have deadline := optTime4_shownDeadline shown small
    rcases reason : o.reason with _ | r <;> rcases caps : o.caps with _ | ⟨cap, caps⟩ <;>
      simp only [Order.bytes, deadline, reason, caps, time4, if_pos early] <;> rfl
  case refine_9 =>
    intro e clock list early small
    have mark : BitVec.ofNat 8 (weight e.mark 1) = if e.mark = true then 1 else 0 := by cases e.mark <;> rfl
    rw [← mark]
    cases state : e.state <;>
      simp only [Envelope.bytes, state, placeIn_eq, time4, if_pos early, if_pos small, reduceCtorEq, true_and, false_and, if_true,
        if_false] <;> rfl
  case refine_10 => decide

end Sys2Proof.Machine
end

section
/-! What the operations on orders write, and the commands and the deadline that end an order which has moved no notes. -/

namespace Sys2Proof.Machine
set_option Elab.async false

variable {s t u before after : State} {named access : Option RecordRef} {i : OrderSlot} {o : Order} {ps : List Byte}

/-! ### What the operations on orders write -/

theorem mem_everyCassette : ∀ c : CassetteId, c ∈ ([0, 1, 2, 3, 4, 5] : List CassetteId) := by decide

theorem releaseReservations_cassette (order : s.order i = some o) (c : CassetteId) :
    (releaseReservations i s).cassette c = { s.cassette c with reserved := (s.cassette c).reserved - o.need c } := by
  simp [releaseReservations, order, State.cassette]

theorem releaseReservations_rest (i : OrderSlot) (s : State) :
    ∃ v, releaseReservations i s = { s with custody := { s.custody with cassettes := v } } := by
  unfold releaseReservations
  split <;> exact ⟨_, rfl⟩

@[simp] theorem releaseReservations_order (i k : OrderSlot) (s : State) : (releaseReservations i s).order k = s.order k := by
  obtain ⟨v, e⟩ := releaseReservations_rest i s
  rw [e]
  rfl

@[simp] theorem releaseReservations_placement (i : OrderSlot) (s : State) :
    (releaseReservations i s).custody.placement = s.custody.placement := by
  obtain ⟨v, e⟩ := releaseReservations_rest i s
  rw [e]

@[simp] theorem releaseReservations_path (i : OrderSlot) (s : State) : (releaseReservations i s).path = s.path := by
  obtain ⟨v, e⟩ := releaseReservations_rest i s
  rw [e]

theorem endOrder_order (i k : OrderSlot) (g : Order → Order) (s : State) :
    (endOrder i g s).order k = if i = k then (s.order k).map fun o => { g o with holdDeadline := none, presentDeadline := none }
      else s.order k :=
  State.modOrder_order s i _ k

@[simp] theorem endOrder_cassette (i : OrderSlot) (g : Order → Order) (s : State) (c : CassetteId) :
    (endOrder i g s).cassette c = s.cassette c := rfl

@[simp] theorem endOrder_placement (i : OrderSlot) (g : Order → Order) (s : State) :
    (endOrder i g s).custody.placement = s.custody.placement.filter (· != i) := rfl

@[simp] theorem endOrder_path (i : OrderSlot) (g : Order → Order) (s : State) :
    (endOrder i g s).path = { s.path with queue := s.path.queue.filter (· != .order i) } := rfl

/-- An order that is stopped has its end state and its reason, and its deadlines are gone. -/
theorem stopOrder_order (order : s.order i = some o) (st : OrderState) (r : Reason) :
    (stopOrder i st r s).order i =
      some { o with state := st, reason := some r, holdDeadline := none, presentDeadline := none } := by
  simp [stopOrder, endOrder_order, order]

theorem stopOrder_cassette (order : s.order i = some o) (st : OrderState) (r : Reason) (c : CassetteId) :
    (stopOrder i st r s).cassette c = { s.cassette c with reserved := (s.cassette c).reserved - o.need c } := by
  rw [stopOrder, endOrder_cassette, releaseReservations_cassette order]

/-! ### Marks -/

/-- A cassette whose reservations alone an event rewrites is marked if they change (R9, R30). -/
theorem finish_cassette_reserved {c : CassetteId} {x : Nat} (moved : after.cassette c = { before.cassette c with reserved := x })
    (apart : named ≠ some (.cassette c)) :
    (finish before after named access).cassette c =
      { before.cassette c with reserved := x, mark := (before.cassette c).mark || x != (before.cassette c).reserved } := by
  rw [finish_cassette, cassetteMoved, moved]
  by_cases same : x = (before.cassette c).reserved
  · simp [same, Cassette.same]
  · have other : (before.cassette c).reserved ≠ x := fun e => same e.symm
    simp [Cassette.same, apart, same, other]

/-- The reservations of an order that is stopped are released at the end of the event. -/
theorem released_of_stopOrder (order : before.order i = some o) (st : OrderState) (r : Reason)
    (apart : ∀ c, named ≠ some (.cassette c)) (same : ∀ c, before.cassette c = s.cassette c) :
    Released o s (finish before (stopOrder i st r before) named access) := fun c => by
  rw [finish_cassette_reserved (stopOrder_cassette order st r c) (apart c), same c]

/-! ### Refusals by a list of checks -/

theorem checked_pass {checks : List (Bool × ResultCode)} {target : Option RecordRef} {go : Reply}
    (passes : firstRefusal checks = none) : checked checks target go = go := by
  rw [checked, passes]

theorem checked_fail {checks : List (Bool × ResultCode)} {target : Option RecordRef} {go : Reply} {r : ResultCode}
    (fails : firstRefusal checks = some r) : checked checks target go = .refuse r .empty target := by
  rw [checked, fails]

/-- In mode ACTIVE no command is refused for QUIET. -/
theorem quietChecks_of_awake (awake : s.awake = true) : firstRefusal s.released.written.quietChecks = none := by
  simp only [State.awake, Bool.and_eq_true, beq_iff_eq] at awake
  simp [State.quietChecks, firstRefusal, awake.2]

theorem takes_of_awake (awake : s.awake = true) : s.takes = true := by
  simp only [State.awake, Bool.and_eq_true] at awake
  exact awake.1

/-! ### ORDER RELEASE, ORDER CANCEL and the hold deadline -/

/-- A terminal or a moving order is refused by both commands: EXPIRED if its hold deadline ended it (R62). -/
theorem orderCancel_refused (slot : handleSlot (byteAt ps 0) = some i) (order : s.order i = some o)
    (tag : handleTag (byteAt ps 0) = s.custody.tags.get i) (held : o.state ≠ .held) (queued : o.state ≠ .queued) :
    orderCancel ps s = .refuse (if o.state = .cancelled ∧ o.reason = some .expired then .expired else .wrongState) .empty
      (some (.order i)) := by
  rw [orderCancel, byHandle_resolved slot rfl order tag]
  cases state : o.state <;> simp_all

theorem orderCancel_reply (slot : handleSlot (byteAt ps 0) = some i) (order : s.order i = some o)
    (tag : handleTag (byteAt ps 0) = s.custody.tags.get i) (state : o.state = .held ∨ o.state = .queued) :
    orderCancel ps s = .done (stopOrder i .cancelled .station s) .ok .empty (some (.order i)) := by
  rw [orderCancel, byHandle_resolved slot rfl order tag]
  rcases state with state | state <;> simp only [state]

theorem orderRelease_reply (quiet : firstRefusal s.quietChecks = none) (slot : handleSlot (byteAt ps 0) = some i)
    (order : s.order i = some o) (tag : handleTag (byteAt ps 0) = s.custody.tags.get i) (held : o.state = .held)
    (service : s.alarm.service = false) (lock : (s.lane o.lane).lock = .none) :
    orderRelease ps s = .done (releaseOrder i s) .ok .empty (some (.order i)) := by
  rw [orderRelease, checked_pass quiet, byHandle_resolved slot rfl order tag]
  simp [held, service, lock, checked, firstRefusal]

theorem orderRelease_refused (quiet : firstRefusal s.quietChecks = none) (slot : handleSlot (byteAt ps 0) = some i)
    (order : s.order i = some o) (tag : handleTag (byteAt ps 0) = s.custody.tags.get i)
    (barred : o.state = .held → s.alarm.service = true ∨ (s.lane o.lane).lock ≠ .none) :
    orderRelease ps s = .refuse (if o.state = .cancelled ∧ o.reason = some .expired then .expired
      else if o.state = .held ∧ s.alarm.service = false then .laneLocked else .wrongState) .empty (some (.order i)) := by
  rw [orderRelease, checked_pass quiet, byHandle_resolved slot rfl order tag]
  cases state : o.state with
  | held =>
    cases service : s.alarm.service with
    | true => simp [checked, firstRefusal]
    | false =>
      have lock : (s.lane o.lane).lock ≠ .none := by simpa [service] using barred state
      simp [checked, firstRefusal, lock]
  | _ => simp

/-- Settles O23: ORDER RELEASE queues a HELD order; ORDER CANCEL and the hold deadline end an order that has moved no notes
and release its reservations. -/
theorem releaseCancelAndHoldExpiryOfAnOrder : Obligations.ReleaseCancelAndHoldExpiryOfAnOrder := by
  refine ⟨?_, ?_, ?_, ?_, ?_⟩
  case refine_1 =>
    intro ps i o s awake bytes slot order tag held service lock
    refine yields_done (takes := takes_of_awake awake) rfl bytes (orderRelease_reply (o := o) (quietChecks_of_awake awake) slot
      (by simpa using order) (by simpa using tag) held (by simpa using service) (by simpa using lock)) ?_
    refine ⟨commandLeaves_finish ((Touches.modOrder (by simp) _).trans (joinQueue_touches rfl _ _)) (by simp), ?_, ?_⟩
    · rw [answering_order, finish_order_named]
      simp [releaseOrder, joinQueue, order]
    · simp [releaseOrder, joinQueue]
  case refine_2 =>
    intro ps i o s awake bytes slot order tag barred
    have reply := orderRelease_refused (o := o) (quietChecks_of_awake awake) slot (by simpa using order) (by simpa using tag)
      (by simpa using barred)
    rw [taken_alarm] at reply
    exact refuses_of rfl (takes_of_awake awake) bytes reply
  case refine_3 =>
    intro ps i o s takes bytes slot order tag state
    have here : s.released.written.order i = some o := by simpa using order
    refine yields_done rfl takes bytes (orderCancel_reply slot here (by simpa using tag) state) ?_
    refine ⟨commandLeaves_finish (stopOrder_touches mem_everyCassette (by simp) rfl rfl _ _ _) (by simp), ?_, ?_, ?_, ?_⟩
    · rw [answering_order, finish_order_named, stopOrder_order here]
    · exact released_of_stopOrder here .cancelled .station (by simp) (by simp)
    · simp [stopOrder]
    · simp [stopOrder]
  case refine_4 =>
    intro i o s heeds order held
    have stops : holdExpiry i s = stopOrder i .cancelled .expired s := by simp [holdExpiry, order, held]
    have moved : orderMoved s (stopOrder i .cancelled .expired s) none i = true := by
      rw [orderMoved, order, stopOrder_order order]
      simp [Order.same, held]
    refine yields_of (event_heeded heeds) ?_
    rw [stops]
    refine ⟨eventLeaves_finish (stopOrder_touches mem_everyCassette (by simp) rfl rfl _ _ _), ?_, ?_, ?_, ?_⟩
    · rw [finish_order, moved, stopOrder_order order]
      rfl
    · exact released_of_stopOrder order .cancelled .expired (by simp) (by simp)
    · simp [stopOrder]
    · simp [stopOrder]
  case refine_5 =>
    intro ps i o s takes bytes slot order tag held queued
    exact refuses_of rfl takes bytes (orderCancel_refused slot (by simpa using order) (by simpa using tag) held queued)

end Sys2Proof.Machine
end

section
/-! Records that a command retires, settles or annotates. -/

namespace Sys2Proof.Machine
set_option Elab.async false

variable {s : State} {i : OrderSlot} {o : Order} {e : Envelope} {ps : List Byte}

/-! ### ORDER RETIRE and ORDER RESOLVE -/

/-- ORDER RETIRE of an order that its handle resolves (R15). -/
theorem orderRetire_reply (slot : handleSlot (byteAt ps 0) = some i) (order : s.order i = some o)
    (tag : handleTag (byteAt ps 0) = s.custody.tags.get i) :
    orderRetire ps s = if o.state.terminal then .done (s.setOrder i none) .ok .empty (some (.order i))
      else .refuse .wrongState .empty (some (.order i)) := by
  rw [orderRetire, byHandle_resolved slot rfl order tag]

theorem service_pass (service : s.alarm.service = true) : firstRefusal [(!s.alarm.service, .notService)] = none := by
  simp [firstRefusal, service]

theorem service_fail (service : s.alarm.service = false) :
    firstRefusal [(!s.alarm.service, .notService)] = some .notService := by
  simp [firstRefusal, service]

/-- The count that ORDER RESOLVE settles: 0 stands for every unresolved note. -/
theorem orderResolve_reply {d : Disposition} (service : s.alarm.service = true)
    (disposition : dispositionOf (byteAt ps 1) = some d) (count : byteAt ps 2 ≤ 60)
    (slot : handleSlot (byteAt ps 0) = some i) (order : s.order i = some o)
    (tag : handleTag (byteAt ps 0) = s.custody.tags.get i) {n : Nat}
    (figure : n = if byteAt ps 2 = 0 then o.unresolved else byteAt ps 2) :
    orderResolve ps s = if o.state.terminal = false ∨ o.unresolved = 0 ∨ o.unresolved < n
      then .refuse .wrongState .empty (some (.order i))
      else .done (s.modOrder i (Order.settle d n)) .ok
        (.settled (o.settle d n).taken (o.settle d n).recovered (o.settle d n).unresolved) (some (.order i)) := by
  have narrow : firstRefusal [(decide (60 < byteAt ps 2), ResultCode.badParam)] = none := by
    simp [firstRefusal, Nat.not_lt.mpr count]
  rw [orderResolve, checked_pass (service_pass service), disposition]
  simp only [param, byHandle_resolved slot narrow order tag, ← figure]
  by_cases barred : o.state.terminal = false ∨ o.unresolved = 0 ∨ o.unresolved < n
  · rw [if_pos barred, checked_fail (r := .wrongState)]
    simp [firstRefusal, barred, or_assoc]
  · rw [if_neg barred, checked_pass]
    simpa [firstRefusal, or_assoc] using barred

/-- Settles O24: ORDER RETIRE frees the slot of a terminal order, tag kept; ORDER RESOLVE settles unresolved notes. -/
theorem retireAndResolveTerminalOrders : Obligations.RetireAndResolveTerminalOrders := by
  refine ⟨?_, ?_, ?_, ?_, ?_, ?_, ?_, ?_⟩
  case refine_1 =>
    intro ps i o s takes bytes slot order tag terminal
    refine yields_done rfl takes bytes ((orderRetire_reply slot (by simpa using order) (by simpa using tag)).trans
      (if_pos terminal)) ?_
    refine ⟨commandLeaves_finish (Touches.setOrder (by simp) _) (by simp), ?_⟩
    rw [answering_order, finish_order_named, State.setOrder_order_self]
  case refine_2 =>
    intro ps i o s takes bytes slot order tag moving
    exact refuses_of rfl takes bytes ((orderRetire_reply slot (by simpa using order) (by simpa using tag)).trans
      (if_neg (by simp [moving])))
  case refine_3 =>
    intro ps i s takes bytes slot names
    rw [← taken_order s i] at names ⊢
    exact refuses_of rfl takes bytes (byHandle_unresolved slot rfl (by simpa using names))
  case refine_4 =>
    intro ps i o d n s takes bytes service disposition slot count order tag terminal figure bounds
    have reply := orderResolve_reply (s := s.released.written) (by simpa using service) disposition count slot
      (by simpa using order) (by simpa using tag) figure
    rw [if_neg (by simp [terminal]; omega)] at reply
    refine yields_done rfl takes bytes reply ?_
    cases d <;>
      refine ⟨commandLeaves_finish (Touches.modOrder (by simp) _) (by simp), ?_⟩ <;>
      rw [answering_order, finish_order_named] <;> simp [order, Order.settle]
  case refine_5 =>
    intro ps s takes bytes service
    exact refuses_of rfl takes bytes (checked_fail (service_fail (by simpa using service)))
  case refine_6 =>
    intro ps s takes bytes service wide
    refine refuses_of (p := .empty) (target := none) rfl takes bytes ?_
    rw [orderResolve, checked_pass (service_pass (by simpa using service))]
    cases disposition : dispositionOf (byteAt ps 1) with
    | none => rfl
    | some d =>
      cases slot : handleSlot (byteAt ps 0) with
      | none => simp [param, byHandle, slot]
      | some i =>
        have count : 60 < byteAt ps 2 := by simpa [disposition, slot] using wide
        simp [param, byHandle, slot, checked, firstRefusal, count]
  case refine_7 =>
    intro ps i d s takes bytes service disposition count slot names
    rw [← taken_order s i] at names ⊢
    refine refuses_of (p := .empty) (target := none) rfl takes bytes ?_
    rw [orderResolve, checked_pass (service_pass (by simpa using service)), disposition]
    exact byHandle_unresolved slot (by simp [firstRefusal, Nat.not_lt.mpr count]) (by simpa using names)
  case refine_8 =>
    intro ps i o d s takes bytes service disposition count slot order tag barred
    have reply := orderResolve_reply (s := s.released.written) (by simpa using service) disposition count slot
      (by simpa using order) (by simpa using tag) rfl
    rw [if_pos (barred.imp_right fun figures => by split <;> omega)] at reply
    exact refuses_of rfl takes bytes reply

/-! ### ENVELOPE ANNOTATE and ENVELOPE RETIRE -/

/-- The further checks of ENVELOPE ANNOTATE: an amount beyond 999,999 and a reference beyond 16 bytes (R135). -/
theorem annotate_checks (ps : List Byte) :
    firstRefusal [((declaredOf (word3 ps 4)).any (fun v => 999999 < v) || 16 < byteAt ps 7, ResultCode.badParam)] =
      if (word3 ps 4 ≠ 0xFFFFFF ∧ 999999 < word3 ps 4) ∨ 16 < byteAt ps 7 then some .badParam else none := by
  by_cases absent : word3 ps 4 = 0xFFFFFF <;> simp [firstRefusal, declaredOf, absent]

theorem annotate_passes (amount : word3 ps 4 = 0xFFFFFF ∨ word3 ps 4 ≤ 999999) (short : byteAt ps 7 ≤ 16) :
    firstRefusal [((declaredOf (word3 ps 4)).any (fun v => 999999 < v) || 16 < byteAt ps 7, ResultCode.badParam)] = none :=
  (annotate_checks ps).trans (if_neg (by omega))

theorem envelopeAnnotate_reply (known : word4 ps 0 ≠ 0) (found : s.envelope (word4 ps 0) = some e)
    (amount : word3 ps 4 = 0xFFFFFF ∨ word3 ps 4 ≤ 999999) (short : byteAt ps 7 ≤ 16) :
    envelopeAnnotate ps s = .done (s.modEnvelope (word4 ps 0) fun r =>
      { r with declared := declaredOf (word3 ps 4), reference := referenceOf ps }) .ok .empty
      (some (.envelope (word4 ps 0))) := by
  rw [envelopeAnnotate, byCapture_resolved known (annotate_passes amount short) found, envelope_capture found]

theorem byCapture_fail {n : Nat} {more : List (Bool × ResultCode)} {go : Envelope → Reply}
    (fails : n = 0 ∨ firstRefusal more = some .badParam) : byCapture s n more go = .refuse .badParam .empty none := by
  rw [byCapture, checked_fail]
  by_cases zero : n = 0
  · simp [firstRefusal, zero]
  · simpa [firstRefusal, zero] using fails

theorem removeEnvelope_envelope (n : Nat) (s : State) : (removeEnvelope n s).envelope n = none := by
  simp [removeEnvelope, State.envelope]

theorem envelopeRetire_reply (service : s.alarm.service = true) (known : word4 ps 0 ≠ 0)
    (found : s.envelope (word4 ps 0) = some e) :
    envelopeRetire ps s = checked [(e.state != .strayed, .wrongState)] (some (.envelope (word4 ps 0)))
      (.done (removeEnvelope (word4 ps 0) s) .ok .empty (some (.envelope (word4 ps 0)))) := by
  rw [envelopeRetire, checked_pass (service_pass service), byCapture_resolved known rfl found, envelope_capture found]

/-- Settles O25: ENVELOPE ANNOTATE writes amount and reference; ENVELOPE RETIRE removes a STRAYED record; they and ENVELOPE
READ refuse a number that names none. -/
theorem envelopeAnnotateAndRetire : Obligations.EnvelopeAnnotateAndRetire := by
  refine ⟨?_, ?_, ?_, ?_, ?_, ?_, ?_, ?_⟩
  case refine_1 =>
    intro ps e s takes bytes known found amount short
    have here : s.released.written.envelope (word4 ps 0) = some e := by simpa using found
    have touches : Touches { envelopes := [word4 ps 0] } s.released.written (s.released.written.modEnvelope (word4 ps 0) fun r =>
        { r with declared := declaredOf (word3 ps 4), reference := referenceOf ps }) :=
      Touches.modEnvelope (by simp) _ fun _ => rfl
    refine yields_done rfl takes bytes (envelopeAnnotate_reply known here amount short) ?_
    rw [answering_envelope, finish_envelope_named touches rfl, modEnvelope_envelope_self here (by simp)]
    exact ⟨commandLeaves_finish touches (by simp), rfl⟩
  case refine_2 =>
    intro ps e s takes bytes service known found strayed
    have reply := envelopeRetire_reply (s := s.released.written) (by simpa using service) known (by simpa using found)
    rw [checked_pass (by simp [firstRefusal, strayed])] at reply
    have touches : Touches { envelopes := [word4 ps 0] } s.released.written (removeEnvelope (word4 ps 0) s.released.written) :=
      removeEnvelope_touches (by simp) _
    refine yields_done rfl takes bytes reply ?_
    rw [answering_envelope, finish_envelope_named touches rfl, removeEnvelope_envelope]
    exact ⟨commandLeaves_finish touches (by simp), rfl⟩
  case refine_3 =>
    intro ps s takes bytes missing
    exact refuses_of rfl takes bytes (byCapture_unresolved rfl (by simpa using missing))
  case refine_4 =>
    intro ps s takes bytes wide
    refine refuses_of rfl takes bytes (byCapture_fail (wide.imp_right fun beyond => ?_))
    rw [annotate_checks, if_pos beyond]
  case refine_5 =>
    intro ps s takes bytes known amount short missing
    refine refuses_of (p := .empty) (target := none) rfl takes bytes ?_
    rw [envelopeAnnotate, byCapture_unresolved (annotate_passes amount short) (by simpa using missing), if_neg known]
  case refine_6 =>
    intro ps s takes bytes service
    exact refuses_of rfl takes bytes (checked_fail (service_fail (by simpa using service)))
  case refine_7 =>
    intro ps s takes bytes service names
    refine refuses_of (p := .empty) (target := none) rfl takes bytes ?_
    rw [envelopeRetire, checked_pass (service_pass (by simpa using service))]
    by_cases zero : word4 ps 0 = 0
    · rw [if_pos zero, byCapture_fail (.inl zero)]
    · exact byCapture_unresolved rfl (by simpa [zero] using names)
  case refine_8 =>
    intro ps e s takes bytes service known found state
    exact refuses_of rfl takes bytes ((envelopeRetire_reply (by simpa using service) known (by simpa using found)).trans
      (checked_fail (by simp [firstRefusal, state])))

end Sys2Proof.Machine
end

section
/-! ORDER PLACE. -/

namespace Sys2Proof.Machine
set_option Elab.async false

variable {s before after : State} {access : Option RecordRef} {i : OrderSlot} {o : Order} {ps : List Byte} {l : LaneId}
  {hold : Bool} {mix : List MixEntry}

/-! ### A command that names a lane and leaves it -/

/-- To name a record that the effect leaves alone makes no difference to the marks. -/
theorem finish_named_lane (still : after.lane l = before.lane l) :
    finish before after (some (.lane l)) access = finish before after none access := by
  have apart {r : RecordRef} (h : r ≠ .lane l) : (some (.lane l) != some r) = ((none : Option RecordRef) != some r) := by
    rw [Bool.eq_iff_iff]
    simp [Ne.symm h]
  have cassettes : cassetteMoved before after (some (.lane l)) = cassetteMoved before after none := by
    funext c; rw [cassetteMoved, apart (by simp), cassetteMoved]
  have orders : orderMoved before after (some (.lane l)) = orderMoved before after none := by
    funext i; simp only [orderMoved, apart (r := .order i) (by simp)]
  have envelopes : envelopeMoved before (some (.lane l)) = envelopeMoved before none := by
    funext e; rw [envelopeMoved, apart (by simp), envelopeMoved]
  have zones : zoneMoved before after (some (.lane l)) = zoneMoved before after none := by
    funext z; rw [zoneMoved, apart (by simp), zoneMoved]
  have lanes : laneMoved before after (some (.lane l)) = laneMoved before after none := by
    funext k
    by_cases here : k = l
    · rw [here, laneMoved_of_eq still, laneMoved_of_eq still]
    · rw [laneMoved, apart (by simpa using here), laneMoved]
  simp only [finish, raiseTables, markRecords, cassettes, orders, envelopes, zones, lanes]

/-- A notice that an event raises is set, or held, at its end. -/
theorem State.HasNotice.finish {n : Notice} (raised : after.HasNotice n) (before : State) (named access : Option RecordRef) :
    (Machine.finish before after named access).HasNotice n := by
  have marked : (markRecords before named after).HasNotice n := raised
  exact hasNotice_finish (((((marked.raiseIf _ _).raiseIf _ _).raiseIf _ _).raiseIf _ _).raiseIf _ _)

/-! ### ORDER PLACE -/

/-- The frame and the state pass every check of ORDER PLACE up to the search of a slot and a mix (R58). -/
structure PlaceAdmits (ps : List Byte) (l : LaneId) (hold : Bool) (s : State) : Prop where
  quiet : firstRefusal s.quietChecks = none
  lane : laneOf (byteAt ps 0) = some l
  flag : flagOf (byteAt ps 3) = some hold
  amount : 1 ≤ word2 ps 1 ∧ word2 ps 1 ≤ 60000
  caps : capsValid (capsAt ps (byteAt ps 4) 5) = true
  service : s.alarm.service = false
  lockdown : s.lockdown = false
  session : (s.lane l).session = .opened
  lock : (s.lane l).lock = .none

theorem PlaceAdmits.taken (awake : s.awake = true) (lane : laneOf (byteAt ps 0) = some l) (flag : flagOf (byteAt ps 3) = some hold)
    (amount : 1 ≤ word2 ps 1 ∧ word2 ps 1 ≤ 60000) (caps : capsValid (capsAt ps (byteAt ps 4) 5) = true)
    (service : s.alarm.service = false) (lockdown : s.lockdown = false) (session : (s.lane l).session = .opened)
    (lock : (s.lane l).lock = .none) : PlaceAdmits ps l hold s.released.written :=
  ⟨quietChecks_of_awake awake, lane, flag, amount, caps, by simpa using service,
    (taken_reads (g := State.lockdown) (fun _ _ => rfl) s).trans lockdown, by simpa using session, by simpa using lock⟩

/-- The amount and the caps that ORDER PLACE asks for. -/
def State.mixAsked (ps : List Byte) (s : State) : Option (List MixEntry) :=
  s.findMix (word2 ps 1) (capsAt ps (byteAt ps 4) 5)

/-- The order that ORDER PLACE asks for, with its mix. -/
def State.orderAsked (ps : List Byte) (l : LaneId) (hold : Bool) (mix : List MixEntry) (s : State) : Order :=
  newOrder s l (word2 ps 1) hold (capsAt ps (byteAt ps 4) 5) mix

theorem PlaceAdmits.full (a : PlaceAdmits ps l hold s) (free : s.freeSlot = none) :
    orderPlace ps s = .refuse .tableFull .empty (some (.lane l)) := by
  obtain ⟨quiet, lane, flag, amount, caps, service, lockdown, session, lock⟩ := a
  simp [orderPlace, checked, param, firstRefusal, within, quiet, lane, flag, amount, caps, service, lockdown, session, lock, free]

theorem PlaceAdmits.noMix (a : PlaceAdmits ps l hold s) (free : s.freeSlot = some i) (search : s.mixAsked ps = none) :
    orderPlace ps s = .refuse .noMix .empty (some (.lane l)) := by
  obtain ⟨quiet, lane, flag, amount, caps, service, lockdown, session, lock⟩ := a
  rw [State.mixAsked] at search
  simp [orderPlace, checked, param, firstRefusal, within, quiet, lane, flag, amount, caps, service, lockdown, session, lock, free,
    search]

theorem PlaceAdmits.found (a : PlaceAdmits ps l hold s) (free : s.freeSlot = some i) (search : s.mixAsked ps = some mix) :
    orderPlace ps s = checked [(!s.custody.bins.retractCounted, .uncounted),
        (300 < s.custody.bins.retractCount + s.outstanding + (mix.map (·.count)).sum, .retractFull)] (some (.lane l))
      (.done (makeOrder i (s.orderAsked ps l hold mix) s) .ok
        (.placed ((makeOrder i (s.orderAsked ps l hold mix) s).handle i) mix) (some (.lane l))) := by
  obtain ⟨quiet, lane, flag, amount, caps, service, lockdown, session, lock⟩ := a
  rw [State.mixAsked] at search
  rw [orderPlace, checked_pass quiet, lane, flag]
  simp only [param]
  rw [checked_pass (by simp [firstRefusal, within, amount, caps]),
    checked_pass (by simp [firstRefusal, service, lockdown, session, lock]), free, search]
  rfl

/-! #### The order made -/

theorem makeOrder_order (i k : OrderSlot) (o : Order) (s : State) :
    (makeOrder i o s).order k = if i = k then some o else s.order k := by
  unfold makeOrder
  split <;> simp only [State.order, joinQueue, State.modPath_custody, tableSet_get]

theorem makeOrder_tags (i : OrderSlot) (o : Order) (s : State) :
    (makeOrder i o s).custody.tags = tableSet s.custody.tags i (s.custody.tags.get i + 1#4) := by
  unfold makeOrder
  split <;> rfl

theorem makeOrder_placement (i : OrderSlot) (o : Order) (s : State) :
    (makeOrder i o s).custody.placement = s.custody.placement ++ [i] := by
  unfold makeOrder
  split <;> rfl

theorem makeOrder_cassette (i : OrderSlot) (o : Order) (s : State) (c : CassetteId) :
    (makeOrder i o s).cassette c = { s.cassette c with reserved := (s.cassette c).reserved + o.need c } := by
  unfold makeOrder
  split <;> simp [State.cassette, joinQueue]

theorem makeOrder_lane (i : OrderSlot) (o : Order) (s : State) (l : LaneId) : (makeOrder i o s).lane l = s.lane l := by
  unfold makeOrder
  split <;> rfl

theorem makeOrder_path (i : OrderSlot) (o : Order) (s : State) :
    (makeOrder i o s).path = { s.path with queue := if o.state = .queued then s.path.queue ++ [.order i] else s.path.queue } := by
  unfold makeOrder
  split <;> rfl

/-- The handle of the order made: the slot with its tag advanced (R2, R54). -/
theorem makeOrder_handle (i : OrderSlot) (o : Order) (s : State) :
    (makeOrder i o s).handle i = (s.custody.tags.get i + 1#4) ++ BitVec.ofNat 4 (i.val + 1) := by
  rw [State.handle, makeOrder_tags, tableSet_get, if_pos rfl]

theorem makeOrder_touches {f : Footprint} (cs : ∀ c, c ∈ f.cassettes) (os : i ∈ f.orders) (tags : f.tags = true)
    (placement : f.placement = true) (path : f.path = true) (o : Order) (s : State) : Touches f s (makeOrder i o s) := by
  have apart (k : OrderSlot) : k ∈ f.orders ∨ (tableSet s.custody.orders i (some o)).get k = s.custody.orders.get k := by
    by_cases here : i = k
    · exact .inl (here ▸ os)
    · exact .inr (by rw [tableSet_get, if_neg here])
  unfold makeOrder
  split
  · refine .trans ?_ (joinQueue_touches path _ _)
    constructor <;> simp [cs, tags, placement, apart, State.order, State.zone, State.lane, State.laneWork]
  · constructor <;> simp [cs, tags, placement, apart, State.order, State.zone, State.lane, State.laneWork]

theorem mixAsked_fresh (search : s.mixAsked ps = some mix) : ∀ e ∈ mix, e.accepted = 0 := by
  obtain ⟨counts, _, rfl⟩ := Option.map_eq_some_iff.mp search
  intro e he
  obtain ⟨_, _, rfl⟩ := List.mem_map.mp he
  rfl

/-- A new mix is needed in full. -/
theorem need_orderAsked (c : CassetteId) (fresh : ∀ e ∈ mix, e.accepted = 0) :
    (s.orderAsked ps l hold mix).need c = ((mix.filter fun e => e.slot == c).map (·.count)).sum := by
  refine congrArg List.sum (List.map_congr_left fun e he => ?_)
  rw [fresh e (List.mem_of_mem_filter he), Nat.sub_zero]

/-- A free slot holds no order, so the order made there is not marked (R9). -/
theorem finish_makeOrder_order (free : before.freeSlot = some i) :
    (finish before (makeOrder i o before) none access).order i = some o := by
  have empty : before.order i = none := by simpa using List.find?_some free
  have still : orderMoved before (makeOrder i o before) none i = false := by rw [orderMoved, empty]
  rw [finish_order, still, makeOrder_order]
  simp

/-- Settles O21: ORDER PLACE allocates the lowest free slot, advances its tag, reserves the mix and makes the order HELD or
QUEUED. -/
theorem orderPlaceReservesTheMix : Obligations.OrderPlaceReservesTheMix := by
  have slot (s : State) : s.released.written.freeSlot = s.freeSlot := taken_reads (g := State.freeSlot) (fun _ _ => rfl) s
  have asked (ps : List Byte) (s : State) : s.released.written.mixAsked ps = s.findMix (word2 ps 1) (capsAt ps (byteAt ps 4) 5) :=
    taken_reads (g := State.mixAsked ps) (fun _ _ => rfl) s
  have outstanding (s : State) : s.released.written.outstanding = s.outstanding :=
    taken_reads (g := State.outstanding) (fun _ _ => rfl) s
  refine ⟨?_, ?_, ?_, ?_, ?_⟩
  case refine_1 =>
    intro ps l hold i mix s awake bytes lane flag amount caps service lockdown session lock free search counted room
    have a := PlaceAdmits.taken awake lane flag amount caps service lockdown session lock
    have free' := (slot s).trans free
    have search' := (asked ps s).trans search
    have reply := a.found free' search'
    rw [checked_pass (by simp [firstRefusal, counted, outstanding, Nat.not_lt.mpr room]), makeOrder_handle, taken_custody] at reply
    refine yields_done rfl (takes_of_awake awake) bytes reply ?_
    rw [finish_named_lane (makeOrder_lane _ _ _ _)]
    refine ⟨commandLeaves_finish (makeOrder_touches mem_everyCassette (by simp) rfl rfl rfl _ _) (by simp), ?_, ?_, ?_, ?_, ?_⟩
    · rw [answering_order, finish_makeOrder_order free']
      simp [State.orderAsked, newOrder]
    · simp [makeOrder_tags]
    · simp [makeOrder_placement]
    · intro c
      have moved := makeOrder_cassette i (s.released.written.orderAsked ps l hold mix) s.released.written c
      have rises (a n : Nat) : (a + n != a) = decide (n ≠ 0) := by rw [Bool.eq_iff_iff]; simp
      rw [answering_cassette, finish_cassette_reserved moved (by simp), need_orderAsked c (mixAsked_fresh search'), taken_cassette,
        rises]
    · rw [answering_path, finish_path, makeOrder_path]
      cases hold <;> simp [State.orderAsked, newOrder]
  case refine_2 =>
    intro ps l hold s awake bytes lane flag amount caps service lockdown session lock full
    have a := PlaceAdmits.taken awake lane flag amount caps service lockdown session lock
    exact refuses_of rfl (takes_of_awake awake) bytes (a.full ((slot s).trans full))
  case refine_3 =>
    intro ps l hold s awake bytes lane flag amount caps service lockdown session lock some_free search
    obtain ⟨i, free⟩ := Option.isSome_iff_exists.mp some_free
    have a := PlaceAdmits.taken awake lane flag amount caps service lockdown session lock
    exact refuses_of rfl (takes_of_awake awake) bytes (a.noMix ((slot s).trans free) ((asked ps s).trans search))
  case refine_4 =>
    intro ps l hold mix s awake bytes lane flag amount caps service lockdown session lock some_free search counted
    obtain ⟨i, free⟩ := Option.isSome_iff_exists.mp some_free
    have a := PlaceAdmits.taken awake lane flag amount caps service lockdown session lock
    exact refuses_of rfl (takes_of_awake awake) bytes ((a.found ((slot s).trans free) ((asked ps s).trans search)).trans
      (checked_fail (by simp [firstRefusal, counted])))
  case refine_5 =>
    intro ps l hold mix s awake bytes lane flag amount caps service lockdown session lock some_free search counted beyond
    obtain ⟨i, free⟩ := Option.isSome_iff_exists.mp some_free
    have a := PlaceAdmits.taken awake lane flag amount caps service lockdown session lock
    have reply := (a.found ((slot s).trans free) ((asked ps s).trans search)).trans
      (checked_fail (r := .retractFull) (by simp [firstRefusal, counted, outstanding, beyond]))
    refine yields_refused rfl (takes_of_awake awake) bytes reply ⟨rfl, ?_, ?_⟩
    · have loud : s.hushed = false := by
        have takes := takes_of_awake awake
        simp only [State.takes, Bool.and_eq_true, Bool.not_eq_true'] at takes
        exact takes.1
      have raised := (hasNotice_raiseIf .bins rfl s.released.written).finish s.released.written none (some (.lane l))
      simp only [State.HasNotice, finish_hushed, State.raiseIf_hushed, taken_hushed, loud] at raised
      exact raised
    · exact (finish_custody_of_same (by simp)).trans (by simp)

end Sys2Proof.Machine
end

section
/-! The recovery event step by step: what each step may touch. -/

namespace Sys2Proof.Machine
set_option Elab.async false

variable {s t u : State} {found : FieldLevels}

/-! ### Passages -/

/-- A passage through the positions, seen from one of them: P holds up to its turn, and Q from its turn on. -/
theorem forEach_turn {σ : Type} {n : Nat} {P Q : σ → Prop} {f : Fin n → σ → σ} (i : Fin n)
    (early : ∀ j s, j ≠ i → P s → P (f j s)) (turn : ∀ s, P s → Q (f i s)) (late : ∀ j s, j ≠ i → Q s → Q (f j s)) {s : σ}
    (h : P s) : Q (forEach f s) := by
  have passes {R : σ → Prop} (step : ∀ j s, j ≠ i → R s → R (f j s)) :
      ∀ (l : List (Fin n)) (s : σ), i ∉ l → R s → R (l.foldl (fun s j => f j s) s) := by
    intro l
    induction l with
    | nil => exact fun _ _ hs => hs
    | cons j l ih =>
      intro s out hs
      simp only [List.mem_cons, not_or] at out
      exact ih _ out.2 (step j s (Ne.symm out.1) hs)
  obtain ⟨l, r, split⟩ := List.append_of_mem (mem_positions i)
  have once : (l ++ i :: r).Nodup := split ▸ positions_nodup
  have outside : i ∉ l ∧ i ∉ r := by
    rw [List.nodup_append] at once
    obtain ⟨_, right, apart⟩ := once
    exact ⟨fun il => apart i il i (by simp) rfl, (List.nodup_cons.mp right).1⟩
  rw [forEach, split, List.foldl_append, List.foldl_cons]
  exact passes late r _ outside.2 (turn _ (passes early l s outside.1 h))

/-! ### The steps of recovery -/

/-- Steps 1 to 4 of recovery: the orders, the leveling sessions and the cassettes. -/
def storeRecovered (found : FieldLevels) (s : State) : State :=
  forEach (recoverCassette found) (forEach (recoverLeveling found) (forEach recoverOrder (recoverSupervisor s)))

/-- Steps 1 to 5 of recovery: then the lanes. -/
def lanesRecovered (found : FieldLevels) (s : State) : State := forEach (recoverLane found) (storeRecovered found s)

/-- Steps 1 to 7 of recovery: then the conveyor and the zones. -/
def zonesRecovered (found : FieldLevels) (s : State) : State := recoverZones found (recoverConveyor (lanesRecovered found s))

theorem recover_eq (found : FieldLevels) (s : State) : recover found s = recoverTransport found (zonesRecovered found s) := by
  rw [recover, zonesRecovered, lanesRecovered, storeRecovered]

/-- What the steps 2 to 4 may touch. -/
def storeRoom : Footprint where
  cassettes := positions _
  orders := positions _
  placement := true
  bins := true
  path := true

/-- What step 5 may touch at a lane, in which an envelope may take the number n. -/
def laneRoom (l : LaneId) (n : Nat) : Footprint where
  orders := positions _
  placement := true
  path := true
  lanes := [l]
  work := [l]
  counter := true
  envelopes := [n]

/-- What step 7 may touch. -/
def zoneRoom : Footprint where
  cassettes := positions _
  orders := positions _
  placement := true
  bins := true
  path := true
  lanes := positions _
  work := positions _
  alarm := true
  zones := positions _
  trips := true



/-! #### Steps 2 to 4 -/

theorem abortPower_touches (i : OrderSlot) (o : Order) (s : State) : Touches storeRoom s (abortPower i o s) := by
  unfold abortPower
  split
  · exact endOrder_touches (by simp [storeRoom]) rfl rfl _ s
  · exact (Touches.modOrder (by simp [storeRoom]) _).trans (.modPath rfl _)

theorem recoverOrder_touches (i : OrderSlot) (s : State) : Touches storeRoom s (recoverOrder i s) := by
  have stops (r : Reason) : Touches storeRoom s (stopOrder i .cancelled r s) :=
    stopOrder_touches (by simp [storeRoom]) (by simp [storeRoom]) rfl rfl _ _ s
  unfold recoverOrder
  split
  · split
    · exact stops _
    · exact stops _
    · exact (releaseReservations_touches (by simp [storeRoom]) i s).trans (abortPower_touches i _ _)
    · exact abortPower_touches i _ s
    · split
      · exact .refl _ s
      · exact abortPower_touches i _ s
    all_goals exact .refl _ s
  · exact .refl _ s

theorem recoverLeveling_touches (found : FieldLevels) (c : CassetteId) (s : State) :
    Touches storeRoom s (recoverLeveling found c s) := by
  unfold recoverLeveling
  split
  · refine .trans ?_ (.modCassette (by simp [storeRoom]) _)
    split
    · exact testNote_touches (by simp [storeRoom]) rfl rfl s
    · exact .refl _ s
  · exact .refl _ s

theorem failGone_touches (c : CassetteId) (i : OrderSlot) (s : State) : Touches storeRoom s (failGone c i s) := by
  unfold failGone
  (repeat' split) <;>
    first | exact stopOrder_touches (by simp [storeRoom]) (by simp [storeRoom]) rfl rfl _ _ s | exact .refl _ s

theorem abortGone_touches (c : CassetteId) (s : State) : Touches storeRoom s (abortGone c s) := by
  unfold abortGone
  (repeat' split) <;>
    first | exact abortPicking_touches (by simp [storeRoom]) (by simp [storeRoom]) rfl rfl _ s | exact .refl _ s

theorem endGone_touches (c : CassetteId) (s : State) : Touches storeRoom s (endGone c s) := by
  unfold endGone
  split
  · exact endLeveling_touches (by simp [storeRoom]) rfl rfl s
  · exact .refl _ s

theorem stopAttempt_touches (c : CassetteId) (s : State) : Touches storeRoom s (stopAttempt c s) := by
  unfold stopAttempt
  split
  · exact .modPath rfl _
  · exact .refl _ s

theorem removeCassette_touches (c : CassetteId) (s : State) : Touches storeRoom s (removeCassette c s) :=
  (((((stopAttempt_touches c s).trans (endGone_touches c _)).trans (abortGone_touches c _)).trans
    (.forEach (failGone_touches c) _)).trans (shutNow_touches (by simp [storeRoom]) rfl _)).trans
    (.modCassette (by simp [storeRoom]) _)

theorem seatCassette_touches (c : CassetteId) (s : State) : Touches storeRoom s (seatCassette c s) := by
  unfold seatCassette
  split
  · exact (shutNow_touches (by simp [storeRoom]) rfl s).trans (.modCassette (by simp [storeRoom]) _)
  · exact .refl _ s

theorem recoverCassette_touches (found : FieldLevels) (c : CassetteId) (s : State) :
    Touches storeRoom s (recoverCassette found c s) := by
  unfold recoverCassette
  refine .trans ?_ (shutNow_touches (by simp [storeRoom]) rfl _)
  split
  · exact seatCassette_touches c s
  · split
    · exact .refl _ s
    · exact removeCassette_touches c s

theorem storeRecovered_touches (found : FieldLevels) (s : State) :
    Touches storeRoom (recoverSupervisor s) (storeRecovered found s) :=
  ((Touches.forEach recoverOrder_touches _).trans (.forEach (recoverLeveling_touches found) _)).trans
    (.forEach (recoverCassette_touches found) _)

/-! #### Step 5 -/

theorem recoverHead_touches (l : LaneId) (n : Nat) (s : State) : Touches (laneRoom l n) s (recoverHead l s) := by
  unfold recoverHead
  split
  · exact dumpHead_touches (by simp [laneRoom]) (by simp [laneRoom]) _ s
  · exact .refl _ s

theorem bringHome_touches (l : LaneId) (n : Nat) (s : State) : Touches (laneRoom l n) s (bringHome l s) := by
  unfold bringHome
  split
  · exact (driveDrawer_touches (by simp [laneRoom]) (by simp [laneRoom]) _ s).trans (.modOrder (by simp [laneRoom]) _)
  · exact driveDrawer_touches (by simp [laneRoom]) (by simp [laneRoom]) _ s

/-- The number of the envelope that step 5 may find in a drawer is the one that would be issued. -/
theorem recoverDrawer_touches (found : FieldLevels) (l : LaneId) (s : State) :
    ∃ n, Touches (laneRoom l n) s (recoverDrawer found l s) := by
  unfold recoverDrawer
  split
  · exact ⟨0, .modWork (by simp [laneRoom]) _⟩
  · have home (n : Nat) : Touches (laneRoom l n) s (endRecall l (standDrawer l .closed s)) :=
      (standDrawer_touches (by simp [laneRoom]) (by simp [laneRoom]) _ s).trans
        (endRecall_touches (by simp [laneRoom]) (by simp [laneRoom]) rfl rfl _)
    simp only []
    split
    · exact ⟨_, (home _).trans (takeEnvelope_touches (by simp [laneRoom]) (by simp [laneRoom]) rfl (List.mem_singleton_self _) _)⟩
    · exact ⟨0, home 0⟩
  · exact ⟨0, bringHome_touches l 0 s⟩

theorem recoverLane_touches (found : FieldLevels) (l : LaneId) (s : State) :
    ∃ n, Touches (laneRoom l n) s (recoverLane found l s) := by
  obtain ⟨n, drawer⟩ := recoverDrawer_touches found l (recoverHead l
    ((s.modLane l fun r => { r with session := .closed }).modWork l fun _ => LaneWork.fresh))
  exact ⟨n, (((Touches.modLane (by simp [laneRoom]) _).trans (.modWork (by simp [laneRoom]) _)).trans
    (recoverHead_touches l n _)).trans drawer⟩



/-! ### What steps 2 to 5 leave -/

/-- The settings, the zones, the conveyor, the Alarm Unit, the Supervisor and the known levels are as they were, and the
notices stand. -/
structure Steady (s t : State) : Prop where
  tags : t.custody.tags = s.custody.tags
  dayArmed : t.custody.dayArmed = s.custody.dayArmed
  nightArmed : t.custody.nightArmed = s.custody.nightArmed
  zones : ∀ z, t.zone z = s.zone z
  trips : t.custody.tripList = s.custody.tripList
  settings : t.custody.settings = s.custody.settings
  retention : t.custody.retention = s.custody.retention
  conveyor : t.conveyor = s.conveyor
  alarm : t.alarm = s.alarm
  sup : t.sup = s.sup
  levels : t.levels = s.levels
  settle : t.port.settle = s.port.settle
  notices : NoticesStand s t

theorem Steady.refl (s : State) : Steady s s := by constructor <;> simp [NoticesStand]

theorem Steady.trans (h : Steady s t) (k : Steady t u) : Steady s u where
  tags := k.tags.trans h.tags
  dayArmed := k.dayArmed.trans h.dayArmed
  nightArmed := k.nightArmed.trans h.nightArmed
  zones z := (k.zones z).trans (h.zones z)
  trips := k.trips.trans h.trips
  settings := k.settings.trans h.settings
  retention := k.retention.trans h.retention
  conveyor := k.conveyor.trans h.conveyor
  alarm := k.alarm.trans h.alarm
  sup := k.sup.trans h.sup
  levels := k.levels.trans h.levels
  settle := k.settle.trans h.settle
  notices := ⟨Touches.stands_trans h.notices.1 k.notices.1, Touches.stands_trans h.notices.2 k.notices.2⟩

/-- What a footprint does not name is left. -/
theorem Touches.steady {f : Footprint} (h : Touches f s t) (tags : f.tags = false) (zones : f.zones = []) (arms : f.arms = false)
    (trips : f.trips = false) (settings : f.settings = false) (conveyor : f.conveyor = false) (alarm : f.alarm = false)
    (sup : f.sup = false) (levels : f.levels = false) : Steady s t where
  tags := h.tags.resolve_left (by simp [tags])
  dayArmed := (h.arms.resolve_left (by simp [arms])).1
  nightArmed := (h.arms.resolve_left (by simp [arms])).2
  zones z := (h.zones z).resolve_left (by simp [zones])
  trips := h.trips.resolve_left (by simp [trips])
  settings := h.settings.resolve_left (by simp [settings])
  retention := h.retention
  conveyor := h.conveyor.resolve_left (by simp [conveyor])
  alarm := h.alarm.resolve_left (by simp [alarm])
  sup := h.sup.resolve_left (by simp [sup])
  levels := h.levels.resolve_left (by simp [levels])
  settle := h.settle
  notices := ⟨h.notices, h.held⟩

theorem storeRecovered_steady (found : FieldLevels) (s : State) : Steady (recoverSupervisor s) (storeRecovered found s) :=
  (storeRecovered_touches found s).steady rfl rfl rfl rfl rfl rfl rfl rfl rfl

theorem recoverLane_steady (found : FieldLevels) (l : LaneId) (s : State) : Steady s (recoverLane found l s) := by
  obtain ⟨n, touches⟩ := recoverLane_touches found l s
  exact touches.steady rfl rfl rfl rfl rfl rfl rfl rfl rfl

theorem lanesRecovered_steady (found : FieldLevels) (s : State) : Steady (recoverSupervisor s) (lanesRecovered found s) :=
  (storeRecovered_steady found s).trans
    (forEach_keeps (Steady (storeRecovered found s)) _ (fun l _ k => k.trans (recoverLane_steady found l _)) _ (.refl _))

/-- The lanes, their working state and the envelope table stand through steps 2 to 4. -/
theorem Touches.lane_of_store (h : Touches storeRoom s t) (l : LaneId) : t.lane l = s.lane l :=
  ((h.lanes l).resolve_left (by simp [storeRoom])).resolve_right (by simp [storeRoom])

theorem Touches.envelopes_of_store (h : Touches storeRoom s t) : t.custody.envelopes = s.custody.envelopes := by
  simpa [storeRoom] using h.envelopes

/-- The cassettes and the bins stand through step 5, and so does every other lane. -/
theorem recoverLane_cassette (found : FieldLevels) (l : LaneId) (s : State) (c : CassetteId) :
    (recoverLane found l s).cassette c = s.cassette c := by
  obtain ⟨n, touches⟩ := recoverLane_touches found l s
  exact (touches.cassettes c).resolve_left (by simp [laneRoom])

theorem recoverLane_bins (found : FieldLevels) (l : LaneId) (s : State) :
    (recoverLane found l s).custody.bins = s.custody.bins := by
  obtain ⟨n, touches⟩ := recoverLane_touches found l s
  exact touches.bins.resolve_left (by simp [laneRoom])

theorem recoverLane_lane_other {l k : LaneId} (apart : k ≠ l) (found : FieldLevels) (s : State) :
    (recoverLane found l s).lane k = s.lane k := by
  obtain ⟨n, touches⟩ := recoverLane_touches found l s
  exact ((touches.lanes k).resolve_left (by simpa [laneRoom] using apart)).resolve_right (by simp [laneRoom])

theorem recoverLane_work_other {l k : LaneId} (apart : k ≠ l) (found : FieldLevels) (s : State) :
    (recoverLane found l s).laneWork k = s.laneWork k := by
  obtain ⟨n, touches⟩ := recoverLane_touches found l s
  exact (touches.work k).resolve_left (by simpa [laneRoom] using apart)

end Sys2Proof.Machine
end

section
/-! The cassettes through the recovery event. -/

namespace Sys2Proof.Machine
set_option Elab.async false

variable {s t u : State} {found : FieldLevels} {c k : CassetteId}

/-! ### A cassette but for its reservations -/

/-- The record but for its reservations. -/
def Cassette.unreserved (r : Cassette) : Cassette := { r with reserved := 0 }

/-- A cassette record as step 3 leaves it: its session has ended, and a note at the gauge for it is spent (R41). -/
def Cassette.sessionEnded (gaugeNote : Bool) (r : Cassette) : Cassette :=
  match r.leveling with
  | some v =>
    let spent := if gaugeNote = true ∧ v.phase ≠ .waiting then { r.lower 1 with testNotes := r.testNotes + 1 } else r
    { spent with state := spent.afterLeveling, leveling := none }
  | none => r

/-- The record with its shutter SHUT. -/
def Cassette.closed (r : Cassette) : Cassette := { r with shutter := .shut }

/-- The record of a cassette that is seated in an ABSENT slot (R21). -/
def Cassette.seatedNow (r : Cassette) : Cassette := { r with state := .uncounted, value := 0, shutter := .shut }

/-- The record of a cassette without a session that is taken out (R20). -/
def Cassette.removed (r : Cassette) : Cassette := { r with state := .absent, shutter := .shut }

/-- A cassette record without a session as step 4 leaves it: set by its seat sensor, its shutter SHUT (R22). -/
def Cassette.seatChecked (seated : Bool) (r : Cassette) : Cassette :=
  if seated then if r.state = .absent then r.seatedNow else r.closed else r.removed

theorem Cassette.sessionEnded_of_none {r : Cassette} (idle : r.leveling = none) (gaugeNote : Bool) :
    r.sessionEnded gaugeNote = r := by
  simp only [Cassette.sessionEnded, idle]

theorem Cassette.sessionEnded_of_some {r : Cassette} {v : Leveling} (session : r.leveling = some v) (gaugeNote : Bool) :
    r.sessionEnded gaugeNote =
      if gaugeNote = true ∧ v.phase ≠ .waiting
      then { r.lower 1 with testNotes := r.testNotes + 1, state := (r.lower 1).afterLeveling, leveling := none }
      else { r with state := r.afterLeveling, leveling := none } := by
  simp only [Cassette.sessionEnded, session]
  split <;> rfl

theorem Cassette.unreserved_sessionEnded (gaugeNote : Bool) (r : Cassette) :
    (r.sessionEnded gaugeNote).unreserved = r.unreserved.sessionEnded gaugeNote := by
  cases session : r.leveling with
  | none => rw [sessionEnded_of_none session, sessionEnded_of_none (r := r.unreserved) session]
  | some v =>
    rw [sessionEnded_of_some session, sessionEnded_of_some (r := r.unreserved) session]
    split <;> rfl

theorem Cassette.unreserved_seatChecked (seated : Bool) (r : Cassette) :
    (r.seatChecked seated).unreserved = r.unreserved.seatChecked seated := by
  unfold Cassette.seatChecked Cassette.unreserved
  (repeat' split) <;> rfl

theorem Cassette.sessionEnded_leveling (gaugeNote : Bool) (r : Cassette) : (r.sessionEnded gaugeNote).leveling = none := by
  unfold Cassette.sessionEnded
  split
  · rfl
  · assumption

theorem Cassette.seatChecked_leveling (seated : Bool) (r : Cassette) : (r.seatChecked seated).leveling = r.leveling := by
  unfold Cassette.seatChecked
  (repeat' split) <;> rfl

theorem Cassette.seatChecked_shutter (seated : Bool) (r : Cassette) : (r.seatChecked seated).shutter = .shut := by
  unfold Cassette.seatChecked
  (repeat' split) <;> rfl

/-! ### The operations on orders leave the cassettes but for reservations -/

theorem releaseReservations_unreserved (i : OrderSlot) (s : State) (c : CassetteId) :
    ((releaseReservations i s).cassette c).unreserved = (s.cassette c).unreserved := by
  cases order : s.order i with
  | none => simp only [releaseReservations, order]
  | some o => rw [releaseReservations_cassette order]; rfl

theorem stopOrder_unreserved (i : OrderSlot) (st : OrderState) (r : Reason) (s : State) (c : CassetteId) :
    ((stopOrder i st r s).cassette c).unreserved = (s.cassette c).unreserved :=
  releaseReservations_unreserved i s c

theorem abortPicking_unreserved (r : Reason) (s : State) (c : CassetteId) :
    ((abortPicking r s).cassette c).unreserved = (s.cassette c).unreserved := by
  unfold abortPicking
  split
  · split <;> exact releaseReservations_unreserved _ s c
  · rfl

/-! ### Step 2 -/

theorem abortPower_cassette (i : OrderSlot) (o : Order) (s : State) (c : CassetteId) :
    (abortPower i o s).cassette c = s.cassette c := by
  unfold abortPower
  split <;> rfl

theorem recoverOrder_unreserved (i : OrderSlot) (s : State) (c : CassetteId) :
    ((recoverOrder i s).cassette c).unreserved = (s.cassette c).unreserved := by
  unfold recoverOrder
  split
  · split
    · exact stopOrder_unreserved i _ _ s c
    · exact stopOrder_unreserved i _ _ s c
    · rw [abortPower_cassette]; exact releaseReservations_unreserved i s c
    · rw [abortPower_cassette]
    · split
      · rfl
      · rw [abortPower_cassette]
    all_goals rfl
  · rfl

/-! ### Step 3 -/

theorem testNote_cassette (c k : CassetteId) (s : State) :
    (testNote c s).cassette k =
      if c = k then { (s.cassette k).lower 1 with testNotes := (s.cassette k).testNotes + 1 } else s.cassette k := by
  simp [testNote, addRejects, evalPause, State.modCassette_cassette]

theorem recoverLeveling_cassette_self (found : FieldLevels) (c : CassetteId) (s : State) :
    (recoverLeveling found c s).cassette c = (s.cassette c).sessionEnded found.gaugeNote := by
  unfold recoverLeveling Cassette.sessionEnded
  cases session : (s.cassette c).leveling with
  | none => rfl
  | some v =>
    simp only [State.modCassette_cassette, if_true]
    split <;> simp [testNote_cassette]

theorem recoverLeveling_cassette_other (apart : k ≠ c) (found : FieldLevels) (s : State) :
    (recoverLeveling found c s).cassette k = s.cassette k := by
  unfold recoverLeveling
  split
  · rw [State.modCassette_cassette, if_neg (Ne.symm apart)]
    split <;> simp [testNote_cassette, Ne.symm apart]
  · rfl

/-! ### Step 4 -/

theorem failGone_unreserved (c : CassetteId) (i : OrderSlot) (s : State) (k : CassetteId) :
    ((failGone c i s).cassette k).unreserved = (s.cassette k).unreserved := by
  unfold failGone
  (repeat' split) <;> first | exact stopOrder_unreserved i _ _ s k | rfl

theorem abortGone_unreserved (c : CassetteId) (s : State) (k : CassetteId) :
    ((abortGone c s).cassette k).unreserved = (s.cassette k).unreserved := by
  unfold abortGone
  (repeat' split) <;> first | exact abortPicking_unreserved _ s k | rfl

theorem stopAttempt_cassette (c : CassetteId) (s : State) (k : CassetteId) : (stopAttempt c s).cassette k = s.cassette k := by
  unfold stopAttempt
  split <;> rfl

theorem endGone_of_no_session (idle : (s.cassette c).leveling = none) : endGone c s = s := by
  simp only [endGone, idle]

theorem shutNow_cassette (c : CassetteId) (s : State) (k : CassetteId) :
    (shutNow c s).cassette k = if c = k then (s.cassette k).closed else s.cassette k :=
  State.modCassette_cassette s c Cassette.closed k

/-- The orders that lose notes by a removal change the cassettes at most in their reservations. -/
theorem orders_gone_unreserved (c : CassetteId) (s : State) (k : CassetteId) :
    ((forEach (failGone c) (abortGone c (stopAttempt c s))).cassette k).unreserved = (s.cassette k).unreserved := by
  have gone := abortGone_unreserved c (stopAttempt c s) k
  rw [stopAttempt_cassette] at gone
  exact forEach_keeps (fun t => (t.cassette k).unreserved = (s.cassette k).unreserved) _
    (fun i t h => (failGone_unreserved c i t k).trans h) _ gone

theorem removeCassette_unreserved (idle : (s.cassette c).leveling = none) (k : CassetteId) :
    ((removeCassette c s).cassette k).unreserved =
      if c = k then (s.cassette k).unreserved.removed else (s.cassette k).unreserved := by
  have still : endGone c (stopAttempt c s) = stopAttempt c s := endGone_of_no_session (by rw [stopAttempt_cassette, idle])
  have orders := orders_gone_unreserved c s k
  rw [removeCassette, still, State.modCassette_cassette, shutNow_cassette, ← orders]
  generalize (forEach (failGone c) (abortGone c (stopAttempt c s))).cassette k = r
  split <;> rfl

theorem seatCassette_cassette (c : CassetteId) (s : State) (k : CassetteId) :
    (seatCassette c s).cassette k =
      if c = k ∧ (s.cassette k).state = .absent then (s.cassette k).seatedNow else s.cassette k := by
  unfold seatCassette
  by_cases here : c = k
  · subst here
    split
    · next absent => rw [State.modCassette_cassette, shutNow_cassette]; simp [absent, Cassette.seatedNow, Cassette.closed]
    · next seated => simp [seated]
  · split
    · rw [State.modCassette_cassette, shutNow_cassette]; simp [here]
    · simp [here]

theorem Cassette.unreserved_closed (r : Cassette) : r.closed.unreserved = r.unreserved.closed := rfl

theorem Cassette.closed_seatedNow (r : Cassette) : r.seatedNow.closed = r.seatedNow := rfl

theorem Cassette.closed_removed (r : Cassette) : r.removed.closed = r.removed := rfl

theorem Cassette.removed_of_absent {r : Cassette} (absent : r.state = .absent) : r.removed = r.closed := by
  rw [Cassette.removed, Cassette.closed, ← absent]

theorem recoverCassette_unreserved_self (found : FieldLevels) (idle : (s.cassette c).leveling = none) :
    ((recoverCassette found c s).cassette c).unreserved = (s.cassette c).unreserved.seatChecked (found.seated.get c) := by
  rw [recoverCassette, shutNow_cassette, if_pos rfl]
  cases seated : found.seated.get c with
  | true =>
    rw [if_pos rfl, seatCassette_cassette, ← Cassette.unreserved_seatChecked]
    by_cases absent : (s.cassette c).state = .absent
    · rw [if_pos ⟨rfl, absent⟩, Cassette.seatChecked, if_pos rfl, if_pos absent, Cassette.closed_seatedNow]
    · rw [if_neg fun h => absent h.2, Cassette.seatChecked, if_pos rfl, if_neg absent]
  | false =>
    rw [if_neg Bool.false_ne_true, Cassette.unreserved_closed, Cassette.seatChecked, if_neg Bool.false_ne_true]
    by_cases absent : (s.cassette c).state = .absent
    · rw [if_pos absent, Cassette.removed_of_absent (r := (s.cassette c).unreserved) absent]
    · rw [if_neg absent, removeCassette_unreserved idle, if_pos rfl, Cassette.closed_removed]

theorem recoverCassette_unreserved_other (found : FieldLevels) (idle : (s.cassette c).leveling = none) (apart : k ≠ c) :
    ((recoverCassette found c s).cassette k).unreserved = (s.cassette k).unreserved := by
  rw [recoverCassette, shutNow_cassette, if_neg (Ne.symm apart)]
  split
  · rw [seatCassette_cassette, if_neg fun h => apart h.1.symm]
  · split
    · rfl
    · rw [removeCassette_unreserved idle, if_neg (Ne.symm apart)]

theorem leveling_of_unreserved {r q : Cassette} (same : r.unreserved = q.unreserved) : r.leveling = q.leveling :=
  (congrArg Cassette.leveling same : r.unreserved.leveling = q.unreserved.leveling)

/-- The seat check of a cassette leaves all cassettes without a session. -/
theorem recoverCassette_idle (found : FieldLevels) (c : CassetteId) (idle : ∀ k, (s.cassette k).leveling = none)
    (k : CassetteId) : ((recoverCassette found c s).cassette k).leveling = none := by
  by_cases here : k = c
  · subst here
    have checked := congrArg Cassette.leveling (recoverCassette_unreserved_self found (idle k))
    rw [Cassette.seatChecked_leveling] at checked
    exact checked.trans (idle k)
  · exact (leveling_of_unreserved (recoverCassette_unreserved_other found (idle c) here)).trans (idle k)

/-! ### Steps 2 to 4 together -/

theorem ordersRecovered_unreserved (s : State) (c : CassetteId) :
    ((forEach recoverOrder s).cassette c).unreserved = (s.cassette c).unreserved :=
  forEach_keeps (fun t => (t.cassette c).unreserved = (s.cassette c).unreserved) _
    (fun i t h => (recoverOrder_unreserved i t c).trans h) _ rfl

theorem sessionsRecovered_cassette (found : FieldLevels) (s : State) (c : CassetteId) :
    (forEach (recoverLeveling found) s).cassette c = (s.cassette c).sessionEnded found.gaugeNote :=
  forEach_at (fun t => t.cassette c) _ c _ (fun _ t apart => recoverLeveling_cassette_other (Ne.symm apart) found t)
    (fun t => recoverLeveling_cassette_self found c t) s

/-- What steps 2 to 4 make of a cassette, but for its reservations (R22, R41). -/
theorem storeRecovered_unreserved (found : FieldLevels) (s : State) (c : CassetteId) :
    ((storeRecovered found s).cassette c).unreserved =
      ((s.cassette c).unreserved.sessionEnded found.gaugeNote).seatChecked (found.seated.get c) := by
  generalize sessions : forEach (recoverLeveling found) (forEach recoverOrder (recoverSupervisor s)) = u
  have ended (k : CassetteId) : (u.cassette k).unreserved = (s.cassette k).unreserved.sessionEnded found.gaugeNote := by
    rw [← sessions, sessionsRecovered_cassette, Cassette.unreserved_sessionEnded, ordersRecovered_unreserved]
    rfl
  have idle (k : CassetteId) : (u.cassette k).leveling = none := by
    have record := congrArg Cassette.leveling (ended k)
    rwa [Cassette.sessionEnded_leveling] at record
  rw [storeRecovered, sessions, ← ended c]
  refine (forEach_turn
    (P := fun t : State => (∀ k, (t.cassette k).leveling = none) ∧ (t.cassette c).unreserved = (u.cassette c).unreserved)
    (Q := fun t : State => (∀ k, (t.cassette k).leveling = none) ∧
      (t.cassette c).unreserved = (u.cassette c).unreserved.seatChecked (found.seated.get c)) c ?_ ?_ ?_ ⟨idle, rfl⟩).2
  · intro j t apart h
    exact ⟨recoverCassette_idle found j h.1, (recoverCassette_unreserved_other found (h.1 j) (Ne.symm apart)).trans h.2⟩
  · intro t h
    exact ⟨recoverCassette_idle found c h.1, (recoverCassette_unreserved_self found (h.1 c)).trans (by rw [h.2])⟩
  · intro j t apart h
    exact ⟨recoverCassette_idle found j h.1, (recoverCassette_unreserved_other found (h.1 j) (Ne.symm apart)).trans h.2⟩

theorem lanesRecovered_cassette (found : FieldLevels) (s : State) (c : CassetteId) :
    (lanesRecovered found s).cassette c = (storeRecovered found s).cassette c :=
  forEach_keeps (fun t => t.cassette c = (storeRecovered found s).cassette c) _
    (fun l t h => (recoverLane_cassette found l t c).trans h) _ rfl

end Sys2Proof.Machine
end

section
/-! The zones through the recovery event, and what their latches leave of the other records. -/

namespace Sys2Proof.Machine
set_option Elab.async false

variable {s t u : State} {found : FieldLevels}

/-! ### The rest in which recovery takes the zones -/

/-- No leveling session stands, every shutter is SHUT, every session is CLOSED and no drawer is OPEN. -/
structure Calm (s : State) : Prop where
  leveling : ∀ c, (s.cassette c).leveling = none
  shutter : ∀ c, (s.cassette c).shutter = .shut
  session : ∀ l, (s.lane l).session = .closed
  drawer : ∀ l, (s.lane l).drawer ≠ .opened

/-- The lane record but for its lock. -/
def Lane.unlocked (r : Lane) : Lane := { r with lock := .none }

/-- The working state of a lane as a lockdown that finds its drawer not OPEN may leave it. -/
def LaneWork.Goes (w v : LaneWork) : Prop :=
  v.travel = w.travel ∧ v.jamNote = w.jamNote ∧ (v.dump = w.dump ∨ v.dump = some routeLimit)

/-- What the latch of a zone changes while all is calm: of a cassette the reservations, of a lane the lock, of its working
state the dump run and the pending recall. -/
structure Lull (s t : State) : Prop where
  touches : Touches zoneRoom s t
  cassettes : ∀ c, (t.cassette c).unreserved = (s.cassette c).unreserved
  lanes : ∀ l, (t.lane l).unlocked = (s.lane l).unlocked
  work : ∀ l, (s.laneWork l).Goes (t.laneWork l)
  bins : t.custody.bins = s.custody.bins
  service : t.alarm.service = s.alarm.service

theorem LaneWork.Goes.refl (w : LaneWork) : w.Goes w := ⟨rfl, rfl, .inl rfl⟩

theorem LaneWork.Goes.trans {w v x : LaneWork} (h : w.Goes v) (k : v.Goes x) : w.Goes x :=
  ⟨k.1.trans h.1, k.2.1.trans h.2.1, k.2.2.elim (fun e => h.2.2.imp e.trans e.trans) .inr⟩

namespace Lull

theorem refl (s : State) : Lull s s := ⟨.refl _ s, fun _ => rfl, fun _ => rfl, fun _ => .refl _, rfl, rfl⟩

theorem trans (h : Lull s t) (k : Lull t u) : Lull s u where
  touches := h.touches.trans k.touches
  cassettes c := (k.cassettes c).trans (h.cassettes c)
  lanes l := (k.lanes l).trans (h.lanes l)
  work l := (h.work l).trans (k.work l)
  bins := k.bins.trans h.bins
  service := k.service.trans h.service

theorem calm (h : Lull s t) (k : Calm s) : Calm t where
  leveling c := (leveling_of_unreserved (h.cassettes c)).trans (k.leveling c)
  shutter c := (congrArg Cassette.shutter (h.cassettes c) : (t.cassette c).unreserved.shutter = _).trans (k.shutter c)
  session l := (congrArg Lane.session (h.lanes l) : (t.lane l).unlocked.session = _).trans (k.session l)
  drawer l := by
    have same : (t.lane l).unlocked.drawer = (s.lane l).unlocked.drawer := congrArg Lane.drawer (h.lanes l)
    change (t.lane l).unlocked.drawer ≠ .opened
    rw [same]
    exact k.drawer l

/-- A passage whose turns are calm is calm. -/
theorem forEach {n : Nat} {g : Fin n → State → State} (turn : ∀ i t, Calm t → Lull t (g i t)) (calm : Calm s) :
    Lull s (Machine.forEach g s) :=
  (forEach_keeps (fun t => Lull s t) g (fun i t h => h.trans (turn i t (h.calm calm))) s (refl s))

/-- An effect on the orders, the placement order and the transport alone, with releases of reservations. -/
theorem of_store (touches : Touches zoneRoom s t) (cassettes : ∀ c, (t.cassette c).unreserved = (s.cassette c).unreserved)
    (lanes : ∀ l, t.lane l = s.lane l) (work : ∀ l, t.laneWork l = s.laneWork l) (bins : t.custody.bins = s.custody.bins)
    (service : t.alarm.service = s.alarm.service) : Lull s t :=
  ⟨touches, cassettes, fun l => by rw [lanes l], fun l => by rw [work l]; exact .refl _, bins, service⟩

theorem modZone (z : ZoneId) (g : Zone → Zone) : Lull s (s.modZone z g) :=
  of_store (.modZone (by simp [zoneRoom]) g) (fun _ => rfl) (fun _ => rfl) (fun _ => rfl) rfl rfl

theorem modAlarm (g : AlarmUnit → AlarmUnit) (same : (g s.alarm).service = s.alarm.service) : Lull s (s.modAlarm g) :=
  of_store (.modAlarm rfl g) (fun _ => rfl) (fun _ => rfl) (fun _ => rfl) rfl same

theorem raise (n : Notice) : Lull s (s.raise n) :=
  of_store (.raise n) (by simp) (by simp) (by simp) (by simp) (by simp)

theorem setTripList (l : List ZoneId) : Lull s { s with custody := { s.custody with tripList := l } } :=
  of_store (.setTripList rfl l) (fun _ => rfl) (fun _ => rfl) (fun _ => rfl) rfl rfl

theorem modPath (g : NotePath → NotePath) : Lull s (s.modPath g) :=
  of_store (.modPath rfl g) (fun _ => rfl) (fun _ => rfl) (fun _ => rfl) rfl rfl

end Lull

/-! ### Lockdown while all is calm -/

/-- What the end of an order may touch. -/
def orderRoom : Footprint where
  cassettes := positions _
  orders := positions _
  placement := true
  path := true

theorem abortPicking_lull (r : Reason) (s : State) : Lull s (abortPicking r s) := by
  have order : Touches orderRoom s (abortPicking r s) :=
    abortPicking_touches (by simp [orderRoom]) (by simp [orderRoom]) rfl rfl r s
  have zone : Touches zoneRoom s (abortPicking r s) :=
    abortPicking_touches (by simp [zoneRoom]) (by simp [zoneRoom]) rfl rfl r s
  exact .of_store zone (abortPicking_unreserved r s)
    (fun l => ((order.lanes l).resolve_left (by simp [orderRoom])).resolve_right (by simp [orderRoom]))
    (fun l => (order.work l).resolve_left (by simp [orderRoom])) (order.bins.resolve_left (by simp [orderRoom]))
    (by rw [order.alarm.resolve_left (by simp [orderRoom])])

theorem lockdownPicking_lull (s : State) : Lull s (lockdownPicking s) := by
  unfold lockdownPicking
  split
  · exact .modPath _
  · exact abortPicking_lull _ s
  · exact .refl s

theorem closeShutters_calm (calm : Calm s) : closeShutters s = s :=
  forEach_keeps (fun t => t = s) closeShutter (fun c t h => by rw [h, closeShutter, calm.shutter c]) s rfl

theorem lockdownLeveling_calm (calm : Calm s) : forEach lockdownLeveling s = s :=
  forEach_keeps (fun t => t = s) lockdownLeveling (fun c t h => by rw [h, lockdownLeveling, calm.leveling c]) s rfl

/-- The siren sounds and ALARM is raised, as lockdown starts (R153). -/
def sounded (s : State) : State := (s.modAlarm fun a => { a with siren := true }).raise .alarm

theorem sounded_lull (s : State) : Lull s (sounded s) := (Lull.modAlarm _ rfl).trans (.raise _)

/-- The start of lockdown while all is calm: the picking order is stopped, staged heads are dumped, and recalls pend. -/
theorem startLockdown_calm (calm : Calm s) : startLockdown s = forEach lockdownLane (lockdownPicking (sounded s)) := by
  have picking := ((sounded_lull s).trans (lockdownPicking_lull _)).calm calm
  rw [sounded] at picking ⊢
  rw [startLockdown, closeShutters_calm picking, lockdownLeveling_calm picking]

theorem Lull.modOrder (i : OrderSlot) (g : Order → Order) : Lull s (s.modOrder i g) :=
  of_store (.modOrder (by simp [zoneRoom]) g) (fun _ => rfl) (fun _ => rfl) (fun _ => rfl) rfl rfl

theorem Lull.modWork {l : LaneId} {g : LaneWork → LaneWork} (goes : ∀ w : LaneWork, w.Goes (g w)) :
    Lull s (s.modWork l g) where
  touches := .modWork (by simp [zoneRoom]) g
  cassettes _ := rfl
  lanes _ := rfl
  work k := by
    rw [State.modWork_laneWork]
    split
    · exact goes _
    · exact .refl _
  bins := rfl
  service := rfl

theorem Lull.modLock {l : LaneId} {g : Lane → Lane} (lock : ∀ r, (g r).unlocked = r.unlocked) : Lull s (s.modLane l g) where
  touches := .modLane (by simp [zoneRoom]) g
  cassettes _ := rfl
  lanes k := by
    rw [State.modLane_lane]
    split
    · exact lock _
    · rfl
  work _ := .refl _
  bins := rfl
  service := rfl

theorem dumpStaged_lull (l : LaneId) (r : Reason) (s : State) : Lull s (dumpStaged l r s) := by
  unfold dumpStaged
  (repeat' split) <;> first | exact .refl s | exact (Lull.modOrder _ _).trans (.modWork fun _ => ⟨rfl, rfl, .inr rfl⟩)

theorem recallCause_lull {l : LaneId} (closed : (s.lane l).drawer ≠ .opened) (c : RecallCause) : Lull s (recallCause l c s) := by
  unfold recallCause
  split
  · contradiction
  · exact .modWork fun _ => ⟨rfl, rfl, .inl rfl⟩
  all_goals exact .refl s

theorem lockdownLane_lull (l : LaneId) (calm : Calm s) : Lull s (lockdownLane l s) :=
  (dumpStaged_lull l _ s).trans (recallCause_lull (((dumpStaged_lull l _ s).calm calm).drawer l) _)

theorem startLockdown_lull (calm : Calm s) : Lull s (startLockdown s) := by
  rw [startLockdown_calm calm]
  have picking := (sounded_lull s).trans (lockdownPicking_lull _)
  exact picking.trans (.forEach (fun l _ calm => lockdownLane_lull l calm) (picking.calm calm))

theorem lockLane_calm {l : LaneId} (calm : Calm s) (z : ZoneId) :
    lockLane l z s = s.modLane l fun r => { r with
      lock := match r.lock with
        | .alarm z' => .alarm z'
        | .none | .jam => .alarm z } := by
  unfold lockLane
  exact if_neg (by simp [calm.session l])

theorem lockLane_lull (l : LaneId) (z : ZoneId) (calm : Calm s) : Lull s (lockLane l z s) := by
  rw [lockLane_calm calm]
  exact .modLock fun _ => rfl

theorem respond_lull (z : ZoneId) (stood : Bool) (calm : Calm s) : Lull s (respond z stood s) := by
  unfold respond
  split
  · split
    · exact .modAlarm _ rfl
    · exact startLockdown_lull calm
  · split
    · exact lockLane_lull _ z calm
    · exact .refl s
  · exact .modAlarm _ rfl
  · exact .refl s

/-- A zone has gone LATCHED and joined the trip list, before its response acts (R149). -/
def tripped (z : ZoneId) (s : State) : State :=
  { stopDelay z (s.modZone z fun r => { r with state := .latched }) with
    custody := { (stopDelay z (s.modZone z fun r => { r with state := .latched })).custody with
      tripList := s.custody.tripList ++ [z] } }

theorem latch_eq (z : ZoneId) (s : State) : latch z s = (respond z s.lockdown (tripped z s)).raise .alarm := rfl

theorem tripped_lull (z : ZoneId) (s : State) : Lull s (tripped z s) := by
  have stopped : Lull _ (stopDelay z (s.modZone z fun r => { r with state := .latched })) := .modAlarm _ rfl
  exact ((Lull.modZone z _).trans stopped).trans (.setTripList (s.custody.tripList ++ [z]))

theorem latch_lull (z : ZoneId) (calm : Calm s) : Lull s (latch z s) := by
  rw [latch_eq]
  exact ((tripped_lull z s).trans (respond_lull z _ ((tripped_lull z s).calm calm))).trans (.raise _)

theorem activate_lull (z : ZoneId) (calm : Calm s) : Lull s (activate z s) := by
  have tripped := Lull.modZone (s := s) z fun r => { r with tripCount := bump r.tripCount }
  unfold activate
  simp only []
  split
  · exact tripped.trans (latch_lull z (tripped.calm calm))
  · exact (tripped.trans (.modZone z _)).trans (.modAlarm _ rfl)

theorem activateIfOpen_lull (z : ZoneId) (calm : Calm s) : Lull s (activateIfOpen z s) := by
  unfold activateIfOpen
  split
  · exact activate_lull z calm
  · exact .refl s

theorem latchDelayed_lull (z : ZoneId) (calm : Calm s) : Lull s (latchDelayed z s) := by
  unfold latchDelayed
  split
  · exact latch_lull z calm
  · exact .refl s

/-- A zone takes its first report, the bypasses of service mode having ended (R159). -/
def reported (found : FieldLevels) (z : ZoneId) (s : State) : State :=
  s.modZone z fun r => { (Zone.endService z r) with input := found.zones.get z }

/-- Step 7 up to the latches: the key switch and the first reports of the zones stand. -/
def zonesSampled (found : FieldLevels) (s : State) : State :=
  forEach (reported found) (s.modAlarm fun a => { a with key := found.key })

/-- Step 7 up to the activations: the first reports stand, and the entry delays have ended. -/
def delaysEnded (found : FieldLevels) (s : State) : State := forEach latchDelayed (zonesSampled found s)

theorem recoverZones_eq (found : FieldLevels) (s : State) : recoverZones found s = forEach activateIfOpen (delaysEnded found s) :=
  rfl

theorem zonesSampled_lull (found : FieldLevels) (calm : Calm s) : Lull s (zonesSampled found s) := by
  have key := Lull.modAlarm (s := s) (fun a => { a with key := found.key }) rfl
  exact key.trans (.forEach (fun z _ _ => .modZone z _) (key.calm calm))

theorem delaysEnded_lull (found : FieldLevels) (calm : Calm s) : Lull s (delaysEnded found s) := by
  have inputs := zonesSampled_lull found calm
  exact inputs.trans (.forEach (fun z _ calm => latchDelayed_lull z calm) (inputs.calm calm))

/-- The zones through recovery, while all is calm. -/
theorem recoverZones_lull (found : FieldLevels) (calm : Calm s) : Lull s (recoverZones found s) := by
  have delays := delaysEnded_lull found calm
  rw [recoverZones_eq]
  exact delays.trans (.forEach (fun z _ calm => activateIfOpen_lull z calm) (delays.calm calm))

end Sys2Proof.Machine
end

section
/-! The lanes through the recovery event. -/

namespace Sys2Proof.Machine
set_option Elab.async false

variable {s t u : State} {found : FieldLevels} {l k : LaneId}

/-! ### A lane record as start-up leaves it -/

/-- The lane record of a drawer that start-up finds at its inner limit, its bundle counted home (R112, R120). -/
def Lane.home (r : Lane) : Lane := { r with session := .closed, drawer := .closed, load := none }

/-- The lane record of a drawer that start-up drives home (R120). -/
def Lane.away (r : Lane) : Lane := { r with session := .closed, drawer := .retracting }

/-- The lane record of a jammed drawer (R120). -/
def Lane.stays (r : Lane) : Lane := { r with session := .closed }

/-- The deposit claim of a drawer that has come home, decided by its envelope sensor; `full` tells whether an envelope
stands in the lane's gate (R112). -/
def Lane.decided (e : EnvelopeReport) (full : Bool) (r : Lane) : Lane :=
  if r.claim then
    match e with
    | .absent => { r with claim := false }
    | .present => if full then r else { r with claim := false }
    | .oversize => { r with drawer := .extending }
  else r

/-! ### The parts of step 5 -/

/-- Step 5 up to the drawer: the session is CLOSED, and the head dump begins. -/
def headRecovered (l : LaneId) (s : State) : State :=
  recoverHead l ((s.modLane l fun r => { r with session := .closed }).modWork l fun _ => LaneWork.fresh)

theorem recoverHead_lane (l k : LaneId) (s : State) : (recoverHead l s).lane k = s.lane k := by
  unfold recoverHead
  split <;> rfl

theorem recoverHead_envelopes (l : LaneId) (s : State) : (recoverHead l s).custody.envelopes = s.custody.envelopes := by
  unfold recoverHead
  split <;> rfl

theorem headRecovered_lane (l : LaneId) (s : State) : (headRecovered l s).lane l = (s.lane l).stays := by
  simp [headRecovered, recoverHead_lane, Lane.stays]

theorem headRecovered_gate (l k : LaneId) (s : State) : (headRecovered l s).gate k = s.gate k := by
  simp [State.gate, headRecovered, recoverHead_envelopes]

/-- The working state of a lane before its drawer is set: the head dump, if the head holds an order. -/
theorem headRecovered_work (l : LaneId) (s : State) :
    (headRecovered l s).laneWork l = { LaneWork.fresh with dump := if (s.lane l).head.isSome then some routeLimit else none } := by
  cases head : (s.lane l).head <;> simp [headRecovered, recoverHead, dumpHead, head, LaneWork.fresh]

theorem recoverLane_eq (found : FieldLevels) (l : LaneId) (s : State) :
    recoverLane found l s = recoverDrawer found l (headRecovered l s) := rfl

theorem recoverDrawer_jammed (jammed : (s.lane l).drawer = .jammed) :
    recoverDrawer found l s = s.modWork l fun w => { w with jamNote := limitNote (found.limits.get l) } := by
  simp only [recoverDrawer, jammed]

theorem recoverDrawer_away (runs : (s.lane l).drawer ≠ .jammed) (limit : found.limits.get l ≠ .inner) :
    recoverDrawer found l s = bringHome l s := by
  unfold recoverDrawer
  split
  · contradiction
  · contradiction
  · rfl

theorem recoverDrawer_home (runs : (s.lane l).drawer ≠ .jammed) (limit : found.limits.get l = .inner) :
    recoverDrawer found l s =
      if (s.lane l).claim then takeEnvelope l (found.envelopes.get l) (endRecall l (standDrawer l .closed s))
      else endRecall l (standDrawer l .closed s) := by
  unfold recoverDrawer
  split
  · contradiction
  · rfl
  · next h => exact (h limit).elim

theorem bringHome_lane (l : LaneId) (s : State) : (bringHome l s).lane l = { s.lane l with drawer := .retracting } := by
  unfold bringHome
  split <;> simp [driveDrawer]

theorem bringHome_work (l : LaneId) (s : State) :
    (bringHome l s).laneWork l = { s.laneWork l with travel := some drawerTravelLimit } := by
  unfold bringHome
  split <;> simp [driveDrawer]

theorem endOrder_lane (i : OrderSlot) (g : Order → Order) (s : State) (l : LaneId) : (endOrder i g s).lane l = s.lane l := rfl

theorem endRecall_lane (l : LaneId) (s : State) : (endRecall l s).lane l = { s.lane l with load := none } := by
  unfold endRecall
  split
  · rw [endOrder_lane, State.modLane_lane, if_pos rfl]
  · next empty => rw [← empty]

theorem endRecall_gate (l k : LaneId) (s : State) : (endRecall l s).gate k = s.gate k := by
  unfold endRecall
  split <;> rfl

theorem dropEnvelope_lane (l k : LaneId) (s : State) :
    (dropEnvelope l s).lane k = if l = k then { s.lane k with claim := false } else s.lane k :=
  State.modLane_lane s l (fun r => { r with claim := false }) k

theorem takeEnvelope_lane (l : LaneId) (e : EnvelopeReport) (claim : (s.lane l).claim = true) :
    (takeEnvelope l e s).lane l = (s.lane l).decided e (s.gate l).isSome := by
  unfold takeEnvelope Lane.decided
  simp only [claim, if_true]
  cases e with
  | absent => simp
  | present =>
    cases full : (s.gate l).isSome with
    | true => rfl
    | false => exact (dropEnvelope_lane l l s).trans (if_pos rfl)
  | oversize => simp [driveDrawer, claim]

theorem Lane.decided_of_unclaimed {r : Lane} (free : r.claim = false) (e : EnvelopeReport) (full : Bool) :
    r.decided e full = r := by
  unfold Lane.decided
  simp [free]

/-! ### Step 5 for one lane -/

theorem recoverLane_lane_jammed (jammed : (s.lane l).drawer = .jammed) :
    (recoverLane found l s).lane l = (s.lane l).stays := by
  have still : ((headRecovered l s).lane l).drawer = .jammed := by rw [headRecovered_lane]; exact jammed
  rw [recoverLane_eq, recoverDrawer_jammed still, State.modWork_lane, headRecovered_lane]

theorem recoverLane_work_jammed (jammed : (s.lane l).drawer = .jammed) :
    ((recoverLane found l s).laneWork l).jamNote = limitNote (found.limits.get l) := by
  have still : ((headRecovered l s).lane l).drawer = .jammed := by rw [headRecovered_lane]; exact jammed
  rw [recoverLane_eq, recoverDrawer_jammed still, State.modWork_laneWork, if_pos rfl]

theorem recoverLane_lane_away (runs : (s.lane l).drawer ≠ .jammed) (limit : found.limits.get l ≠ .inner) :
    (recoverLane found l s).lane l = (s.lane l).away := by
  have still : ((headRecovered l s).lane l).drawer ≠ .jammed := by rw [headRecovered_lane]; exact runs
  rw [recoverLane_eq, recoverDrawer_away still limit, bringHome_lane, headRecovered_lane]
  rfl

theorem recoverLane_work_away (runs : (s.lane l).drawer ≠ .jammed) (limit : found.limits.get l ≠ .inner) :
    ((recoverLane found l s).laneWork l).travel = some drawerTravelLimit := by
  have still : ((headRecovered l s).lane l).drawer ≠ .jammed := by rw [headRecovered_lane]; exact runs
  rw [recoverLane_eq, recoverDrawer_away still limit, bringHome_work]

theorem recoverLane_lane_home (runs : (s.lane l).drawer ≠ .jammed) (limit : found.limits.get l = .inner) :
    (recoverLane found l s).lane l = (s.lane l).home.decided (found.envelopes.get l) (s.gate l).isSome := by
  have still : ((headRecovered l s).lane l).drawer ≠ .jammed := by rw [headRecovered_lane]; exact runs
  have home : (endRecall l (standDrawer l .closed (headRecovered l s))).lane l = (s.lane l).home := by
    rw [endRecall_lane, standDrawer, State.modWork_lane, State.modLane_lane, if_pos rfl, headRecovered_lane]
    rfl
  have gate : (endRecall l (standDrawer l .closed (headRecovered l s))).gate l = s.gate l := by
    rw [endRecall_gate]
    exact headRecovered_gate l l s
  have claim : ((headRecovered l s).lane l).claim = (s.lane l).home.claim := by rw [headRecovered_lane]; rfl
  rw [recoverLane_eq, recoverDrawer_home still limit, claim]
  split
  · next claimed => rw [takeEnvelope_lane l _ (by rw [home]; exact claimed), home, gate]
  · next free => rw [home, Lane.decided_of_unclaimed (by simpa using free)]

theorem Lane.decided_session (e : EnvelopeReport) (full : Bool) (r : Lane) : (r.decided e full).session = r.session := by
  unfold Lane.decided
  (repeat' split) <;> rfl

theorem Lane.decided_drawer (e : EnvelopeReport) (full : Bool) (r : Lane) :
    (r.decided e full).drawer = if r.claim = true ∧ e = .oversize then .extending else r.drawer := by
  unfold Lane.decided
  cases claim : r.claim with
  | false => simp
  | true =>
    cases e with
    | absent => simp
    | present => cases full <;> simp
    | oversize => simp

/-- After step 5 the session of the lane is CLOSED and its drawer is not OPEN. -/
theorem recoverLane_rests (found : FieldLevels) (l : LaneId) (s : State) :
    ((recoverLane found l s).lane l).session = .closed ∧ ((recoverLane found l s).lane l).drawer ≠ .opened := by
  by_cases runs : (s.lane l).drawer = .jammed
  · rw [recoverLane_lane_jammed runs]
    exact ⟨rfl, by simp [Lane.stays, runs]⟩
  · by_cases limit : found.limits.get l = .inner
    · rw [recoverLane_lane_home runs limit, Lane.decided_session, Lane.decided_drawer]
      exact ⟨rfl, by split <;> simp [Lane.home]⟩
    · rw [recoverLane_lane_away runs limit]
      exact ⟨rfl, by simp [Lane.away]⟩

/-! ### The envelope table through step 5 -/

/-- The record of an envelope that drops into the gate of a lane (R5, R121). -/
def intakeRecord (l : LaneId) (n clock : Nat) : Envelope where
  capture := n
  lane := l
  state := .intake
  binPosition := none
  acceptedAt := clock
  declared := none
  reference := none
  mark := true

theorem dropEnvelope_envelopes (l : LaneId) (s : State) :
    (dropEnvelope l s).custody.envelopes = s.custody.envelopes ++ [intakeRecord l s.issueNumber s.clock] := rfl

/-- What the envelope sensor of a drawer adds to the envelope table: at most the one record (R112). -/
theorem takeEnvelope_envelopes (l : LaneId) (e : EnvelopeReport) (s : State) :
    (takeEnvelope l e s).custody.envelopes = s.custody.envelopes ++
      if (s.lane l).claim = true ∧ e = .present ∧ s.gate l = none then [intakeRecord l s.issueNumber s.clock] else [] := by
  unfold takeEnvelope
  cases claim : (s.lane l).claim with
  | false => cases e <;> simp [driveDrawer]
  | true =>
    cases e with
    | absent => simp
    | present => cases gate : s.gate l <;> simp [dropEnvelope_envelopes]
    | oversize => simp [driveDrawer]

theorem endRecall_envelopes (l : LaneId) (s : State) : (endRecall l s).custody.envelopes = s.custody.envelopes := by
  unfold endRecall
  split <;> rfl

theorem bringHome_envelopes (l : LaneId) (s : State) : (bringHome l s).custody.envelopes = s.custody.envelopes := by
  unfold bringHome
  split <;> rfl

theorem endRecall_clock (l : LaneId) (s : State) : (endRecall l s).clock = s.clock := by
  unfold endRecall
  split <;> rfl

theorem headRecovered_clock (l : LaneId) (s : State) : (headRecovered l s).clock = s.clock := by
  unfold headRecovered recoverHead
  split <;> rfl

theorem headRecovered_envelopes (l : LaneId) (s : State) : (headRecovered l s).custody.envelopes = s.custody.envelopes := by
  rw [headRecovered, recoverHead_envelopes]
  rfl

/-- Step 5 adds at most one record to the envelope table, in the gate of its lane and under a claim. -/
theorem recoverLane_envelopes (found : FieldLevels) (l : LaneId) (s : State) : ∃ n,
    (recoverLane found l s).custody.envelopes = s.custody.envelopes ++
      if (s.lane l).claim = true ∧ (s.lane l).drawer ≠ .jammed ∧ found.limits.get l = .inner ∧
        found.envelopes.get l = .present ∧ s.gate l = none then [intakeRecord l n s.clock] else [] := by
  have drawer : ((headRecovered l s).lane l).drawer = (s.lane l).drawer := by rw [headRecovered_lane]; rfl
  rw [recoverLane_eq]
  by_cases runs : (s.lane l).drawer = .jammed
  · rw [recoverDrawer_jammed (drawer.trans runs)]
    exact ⟨0, by simp [headRecovered_envelopes, runs]⟩
  · by_cases limit : found.limits.get l = .inner
    · rw [recoverDrawer_home (by rwa [drawer]) limit]
      generalize home : endRecall l (standDrawer l .closed (headRecovered l s)) = h
      have envelopes : h.custody.envelopes = s.custody.envelopes := by
        rw [← home, endRecall_envelopes]; exact headRecovered_envelopes l s
      have clock : h.clock = s.clock := by rw [← home, endRecall_clock]; exact headRecovered_clock l s
      have gate : h.gate l = s.gate l := by rw [State.gate, envelopes]; rfl
      have claim : (h.lane l).claim = (s.lane l).claim := by
        rw [← home, endRecall_lane, standDrawer, State.modWork_lane, State.modLane_lane, if_pos rfl, headRecovered_lane]
        rfl
      have before : ((headRecovered l s).lane l).claim = (s.lane l).claim := by rw [headRecovered_lane]; rfl
      refine ⟨h.issueNumber, ?_⟩
      rw [before]
      cases claimed : (s.lane l).claim with
      | true => simp [takeEnvelope_envelopes, claim, claimed, envelopes, clock, gate, runs, limit]
      | false => simp [envelopes]
    · rw [recoverDrawer_away (by rwa [drawer]) limit, bringHome_envelopes, headRecovered_envelopes]
      exact ⟨0, by simp [limit]⟩

/-- The gate of every other lane stands through step 5 of a lane. -/
theorem recoverLane_gate_other (apart : k ≠ l) (found : FieldLevels) (s : State) : (recoverLane found l s).gate k = s.gate k := by
  obtain ⟨n, envelopes⟩ := recoverLane_envelopes found l s
  rw [State.gate, envelopes, List.find?_append]
  split <;> simp [intakeRecord, Ne.symm apart, State.gate]

/-- An envelope that step 5 finds under a claim stands in the gate. -/
theorem recoverLane_gate_self (claim : (s.lane l).claim = true) (runs : (s.lane l).drawer ≠ .jammed)
    (limit : found.limits.get l = .inner) (present : found.envelopes.get l = .present) (empty : s.gate l = none) :
    ∃ n, (recoverLane found l s).gate l = some (intakeRecord l n s.clock) := by
  obtain ⟨n, envelopes⟩ := recoverLane_envelopes found l s
  rw [if_pos ⟨claim, runs, limit, present, empty⟩] at envelopes
  have gate : s.custody.envelopes.find? (fun e => e.state == .intake && e.lane == l) = none := empty
  exact ⟨n, by rw [State.gate, envelopes, List.find?_append, gate]; simp [intakeRecord]⟩

/-! ### Steps 2 to 5 together -/

theorem clock_of_sup {s t : State} (sup : t.sup = s.sup) : t.clock = s.clock := by rw [State.clock, sup, State.clock]

theorem storeRecovered_lane (found : FieldLevels) (s : State) (l : LaneId) : (storeRecovered found s).lane l = s.lane l :=
  (storeRecovered_touches found s).lane_of_store l

theorem storeRecovered_envelopes (found : FieldLevels) (s : State) :
    (storeRecovered found s).custody.envelopes = s.custody.envelopes :=
  (storeRecovered_touches found s).envelopes_of_store

theorem storeRecovered_clock (found : FieldLevels) (s : State) : (storeRecovered found s).clock = s.clock :=
  clock_of_sup (s := recoverSupervisor s) (storeRecovered_steady found s).sup

/-- What every turn of step 5 keeps, the step keeps. -/
theorem lanesRecovered_keeps {P : State → Prop} (turn : ∀ l t, P t → P (recoverLane found l t))
    (start : P (storeRecovered found s)) : P (lanesRecovered found s) :=
  forEach_keeps P _ turn _ start

/-- What step 5 makes of one lane. -/
theorem lanesRecovered_turn {Q : State → Prop} (l : LaneId)
    (turn : ∀ t, t.lane l = s.lane l → t.gate l = s.gate l → t.clock = s.clock → Q (recoverLane found l t))
    (late : ∀ k t, k ≠ l → Q t → Q (recoverLane found k t)) : Q (lanesRecovered found s) := by
  refine forEach_turn (P := fun t : State => t.lane l = s.lane l ∧ t.gate l = s.gate l ∧ t.clock = s.clock) l ?_
    (fun t h => turn t h.1 h.2.1 h.2.2) late ⟨storeRecovered_lane found s l, ?_, storeRecovered_clock found s⟩
  · intro k t apart h
    obtain ⟨lane, gate, clock⟩ := h
    exact ⟨(recoverLane_lane_other (Ne.symm apart) found t).trans lane,
      (recoverLane_gate_other (Ne.symm apart) found t).trans gate,
      (clock_of_sup (recoverLane_steady found k t).sup).trans clock⟩
  · rw [State.gate, storeRecovered_envelopes, State.gate]

theorem lanesRecovered_lane_jammed (jammed : (s.lane l).drawer = .jammed) :
    (lanesRecovered found s).lane l = (s.lane l).stays :=
  lanesRecovered_turn (Q := fun t => t.lane l = (s.lane l).stays) l
    (fun t lane _ _ => by rw [recoverLane_lane_jammed (by rwa [lane]), lane])
    fun k t apart h => (recoverLane_lane_other (Ne.symm apart) found t).trans h

theorem lanesRecovered_work_jammed (jammed : (s.lane l).drawer = .jammed) :
    ((lanesRecovered found s).laneWork l).jamNote = limitNote (found.limits.get l) :=
  lanesRecovered_turn (Q := fun t => (t.laneWork l).jamNote = limitNote (found.limits.get l)) l
    (fun t lane _ _ => recoverLane_work_jammed (by rwa [lane]))
    fun k t apart h => by rw [recoverLane_work_other (Ne.symm apart), h]

theorem lanesRecovered_lane_away (runs : (s.lane l).drawer ≠ .jammed) (limit : found.limits.get l ≠ .inner) :
    (lanesRecovered found s).lane l = (s.lane l).away :=
  lanesRecovered_turn (Q := fun t => t.lane l = (s.lane l).away) l
    (fun t lane _ _ => by rw [recoverLane_lane_away (by rwa [lane]) limit, lane])
    fun k t apart h => (recoverLane_lane_other (Ne.symm apart) found t).trans h

theorem lanesRecovered_work_away (runs : (s.lane l).drawer ≠ .jammed) (limit : found.limits.get l ≠ .inner) :
    ((lanesRecovered found s).laneWork l).travel = some drawerTravelLimit :=
  lanesRecovered_turn (Q := fun t => (t.laneWork l).travel = some drawerTravelLimit) l
    (fun t lane _ _ => recoverLane_work_away (by rwa [lane]) limit)
    fun k t apart h => by rw [recoverLane_work_other (Ne.symm apart), h]

theorem lanesRecovered_lane_home (runs : (s.lane l).drawer ≠ .jammed) (limit : found.limits.get l = .inner) :
    (lanesRecovered found s).lane l = (s.lane l).home.decided (found.envelopes.get l) (s.gate l).isSome :=
  lanesRecovered_turn (Q := fun t => t.lane l = (s.lane l).home.decided (found.envelopes.get l) (s.gate l).isSome) l
    (fun t lane gate _ => by rw [recoverLane_lane_home (by rwa [lane]) limit, lane, gate])
    fun k t apart h => (recoverLane_lane_other (Ne.symm apart) found t).trans h

theorem lanesRecovered_gate (claim : (s.lane l).claim = true) (runs : (s.lane l).drawer ≠ .jammed)
    (limit : found.limits.get l = .inner) (present : found.envelopes.get l = .present) (empty : s.gate l = none) :
    ∃ n, (lanesRecovered found s).gate l = some (intakeRecord l n s.clock) :=
  lanesRecovered_turn (Q := fun t => ∃ n, t.gate l = some (intakeRecord l n s.clock)) l
    (fun t lane gate clock => by
      rw [← clock]
      exact recoverLane_gate_self (by rwa [lane]) (by rwa [lane]) limit present (by rwa [gate]))
    fun k t apart ⟨n, h⟩ => ⟨n, (recoverLane_gate_other (Ne.symm apart) found t).trans h⟩

/-- The records that step 5 adds to the envelope table stand in gates. -/
theorem lanesRecovered_envelopes (found : FieldLevels) (s : State) :
    ∃ new, (lanesRecovered found s).custody.envelopes = s.custody.envelopes ++ new ∧ ∀ e ∈ new, e.state = .intake := by
  refine lanesRecovered_keeps (P := fun t : State => ∃ new, t.custody.envelopes = s.custody.envelopes ++ new ∧
    ∀ e ∈ new, e.state = .intake) ?_ ⟨[], by rw [storeRecovered_envelopes, List.append_nil], by simp⟩
  intro l t ⟨new, table, gates⟩
  obtain ⟨n, more⟩ := recoverLane_envelopes found l t
  rw [table, List.append_assoc] at more
  refine ⟨_, more, fun e he => ?_⟩
  rcases List.mem_append.mp he with old | added
  · exact gates e old
  · split at added
    · rw [List.mem_singleton.mp added]; rfl
    · cases added

/-- A lane without a claim takes no envelope, and gets no claim. -/
theorem recoverLane_unclaimed (free : (s.lane l).claim = false) :
    (recoverLane found l s).custody.captureCounter = s.custody.captureCounter ∧
      ((recoverLane found l s).lane l).claim = false := by
  have head : (headRecovered l s).custody.captureCounter = s.custody.captureCounter := by
    unfold headRecovered recoverHead
    split <;> rfl
  have claim : ((headRecovered l s).lane l).claim = false := by rw [headRecovered_lane]; exact free
  rw [recoverLane_eq, ← head]
  generalize headRecovered l s = h at claim
  by_cases runs : (h.lane l).drawer = .jammed
  · rw [recoverDrawer_jammed runs]
    exact ⟨rfl, claim⟩
  · by_cases limit : found.limits.get l = .inner
    · rw [recoverDrawer_home runs limit, if_neg (by simp [claim])]
      refine ⟨?_, by simp [endRecall_lane, standDrawer, claim]⟩
      unfold endRecall
      split <;> rfl
    · rw [recoverDrawer_away runs limit]
      refine ⟨?_, by simp [bringHome_lane, claim]⟩
      unfold bringHome
      split <;> rfl

/-- Without a claim no envelope is found in a drawer. -/
theorem lanesRecovered_unclaimed (found : FieldLevels) (free : ∀ l, (s.lane l).claim = false) :
    (lanesRecovered found s).custody.envelopes = s.custody.envelopes ∧
      (lanesRecovered found s).custody.captureCounter = s.custody.captureCounter := by
  have counter : (storeRecovered found s).custody.captureCounter = s.custody.captureCounter :=
    (storeRecovered_touches found s).counter.resolve_left (by simp [storeRoom])
  refine (lanesRecovered_keeps (P := fun t : State => (∀ l, (t.lane l).claim = false) ∧
    t.custody.envelopes = s.custody.envelopes ∧ t.custody.captureCounter = s.custody.captureCounter) ?_
    ⟨fun l => by rw [storeRecovered_lane, free], storeRecovered_envelopes found s, counter⟩).2
  intro l t ⟨claims, table, number⟩
  obtain ⟨stands, still⟩ := recoverLane_unclaimed (found := found) (claims l)
  obtain ⟨n, more⟩ := recoverLane_envelopes found l t
  refine ⟨fun k => ?_, by rw [more, table]; simp [claims l], stands.trans number⟩
  by_cases here : k = l
  · rw [here, still]
  · rw [recoverLane_lane_other here, claims k]

/-- The rest in which step 7 finds the part. -/
theorem lanesRecovered_calm (found : FieldLevels) (s : State) : Calm (lanesRecovered found s) where
  leveling c := by
    rw [lanesRecovered_cassette]
    have record := congrArg Cassette.leveling (storeRecovered_unreserved found s c)
    rwa [Cassette.seatChecked_leveling, Cassette.sessionEnded_leveling] at record
  shutter c := by
    rw [lanesRecovered_cassette]
    have record := congrArg Cassette.shutter (storeRecovered_unreserved found s c)
    rwa [Cassette.seatChecked_shutter] at record
  session l := lanesRecovered_turn (Q := fun t => (t.lane l).session = .closed) l
    (fun t _ _ _ => (recoverLane_rests found l t).1) fun k t apart h => by rw [recoverLane_lane_other (Ne.symm apart), h]
  drawer l := lanesRecovered_turn (Q := fun t => (t.lane l).drawer ≠ .opened) l
    (fun t _ _ _ => (recoverLane_rests found l t).2) fun k t apart h => by rwa [recoverLane_lane_other (Ne.symm apart)]

end Sys2Proof.Machine
end

section
/-! One order through the recovery event. -/

namespace Sys2Proof.Machine
set_option Elab.async false

variable {s t u : State} {found : FieldLevels} {i j : OrderSlot} {o p : Order} {h : Option Claim}

/-! ### Step 2 -/

/-- An order whose notes are on the transport as power is lost: without an accepted note it has FAILED (R68, R75). -/
def Order.sentBack (o : Order) : Order :=
  if o.acceptedTotal = 0 then
    { o with state := .failed, reason := some .power, unresolved := 0, holdDeadline := none, presentDeadline := none }
  else { o with state := .aborting, reason := some .power }

/-- An order as step 2 leaves it; `inHead` tells whether its notes stand in a head (R75). -/
def Order.powerLost (inHead : Bool) (o : Order) : Order :=
  match o.state with
  | .held | .queued =>
    { o with state := .cancelled, reason := some .power, holdDeadline := none, presentDeadline := none }
  | .picking | .routing => o.sentBack
  | .aborting => if inHead then o else o.sentBack
  | .staged | .presented | .recalling | .taken | .partlyTaken | .retracted | .cancelled | .failed => o

/-- The order has notes for the start-up purge. -/
def Order.purges (inHead : Bool) (o : Order) : Bool :=
  o.acceptedTotal != 0 && (o.state == .picking || o.state == .routing || (o.state == .aborting && !inHead))

theorem abortPower_order_self (order : s.order i = some o) (p : Order) (same : p.acceptedTotal = o.acceptedTotal) :
    (abortPower i p s).order i = some o.sentBack := by
  unfold abortPower Order.sentBack
  rw [same]
  split
  · next none_accepted =>
    have left : Order.acceptedTotal { o with state := .aborting, reason := some .power } = 0 := none_accepted
    rw [endOrder_order, if_pos rfl, order]
    simp [Order.endPurge, left]
  · simp [order]

theorem abortPower_order_other (apart : i ≠ j) (p : Order) (s : State) : (abortPower j p s).order i = s.order i := by
  unfold abortPower
  split
  · rw [endOrder_order, if_neg (Ne.symm apart)]
  · exact (State.modOrder_order s j _ i).trans (if_neg (Ne.symm apart))

theorem recoverOrder_order_self (i : OrderSlot) (s : State) :
    (recoverOrder i s).order i = (s.order i).map (Order.powerLost (s.inHead i)) := by
  unfold recoverOrder
  cases order : s.order i with
  | none => simpa using order
  | some o =>
    have stops := stopOrder_order order .cancelled .power
    cases state : o.state <;> simp only [Option.map_some, Order.powerLost, state] <;> try exact order
    case held => exact stops
    case queued => exact stops
    case picking => exact abortPower_order_self ((releaseReservations_order i i s).trans order) o rfl
    case routing => exact abortPower_order_self order o rfl
    case aborting =>
      split
      · exact order
      · exact abortPower_order_self order o rfl

theorem stopOrder_order_other (apart : i ≠ j) (st : OrderState) (r : Reason) (s : State) :
    (stopOrder j st r s).order i = s.order i := by
  rw [stopOrder, endOrder_order, if_neg (Ne.symm apart), releaseReservations_order]

theorem recoverOrder_order_other (apart : i ≠ j) (s : State) : (recoverOrder j s).order i = s.order i := by
  unfold recoverOrder
  split
  · split
    · exact stopOrder_order_other apart _ _ s
    · exact stopOrder_order_other apart _ _ s
    · exact (abortPower_order_other apart _ _).trans (releaseReservations_order j i s)
    · exact abortPower_order_other apart _ s
    · split
      · rfl
      · exact abortPower_order_other apart _ s
    all_goals rfl
  · rfl

theorem stopOrder_path (i : OrderSlot) (st : OrderState) (r : Reason) (s : State) :
    (stopOrder i st r s).path = { s.path with queue := s.path.queue.filter (· != .order i) } := by
  rw [stopOrder, endOrder_path, releaseReservations_path]

theorem abortPower_path_state (i : OrderSlot) (o : Order) (s : State) : (abortPower i o s).path.state = s.path.state := by
  unfold abortPower
  split <;> rfl

theorem abortPower_holder (i : OrderSlot) (o : Order) (s : State) :
    (abortPower i o s).path.holder = if o.acceptedTotal = 0 then s.path.holder else some (.order i) := by
  unfold abortPower
  split <;> rfl

theorem recoverOrder_path_state (i : OrderSlot) (s : State) : (recoverOrder i s).path.state = s.path.state := by
  unfold recoverOrder
  split
  · split
    · rw [stopOrder_path]
    · rw [stopOrder_path]
    · rw [abortPower_path_state, releaseReservations_path]
    · exact abortPower_path_state i _ s
    · split
      · rfl
      · exact abortPower_path_state i _ s
    all_goals rfl
  · rfl

theorem recoverOrder_holder (i : OrderSlot) (s : State) :
    (recoverOrder i s).path.holder =
      if (s.order i).any (Order.purges (s.inHead i)) then some (.order i) else s.path.holder := by
  unfold recoverOrder
  cases order : s.order i with
  | none => rfl
  | some o =>
    cases state : o.state <;>
      simp only [Option.any_some, Order.purges, state, stopOrder_path, abortPower_holder, releaseReservations_path] <;>
      by_cases none_accepted : o.acceptedTotal = 0 <;> simp [none_accepted]
    all_goals cases s.inHead i <;> simp [abortPower_holder, none_accepted]

theorem recoverOrder_lane (i : OrderSlot) (s : State) (l : LaneId) : (recoverOrder i s).lane l = s.lane l :=
  (recoverOrder_touches i s).lane_of_store l

theorem State.inHead_iff (s : State) (i : OrderSlot) : s.inHead i = true ↔ ∃ l, (s.lane l).head = some i := by
  simp [State.inHead, tableAny_iff, State.lane]

theorem inHead_of_lanes (same : ∀ l, t.lane l = s.lane l) (i : OrderSlot) : t.inHead i = s.inHead i := by
  rw [Bool.eq_iff_iff, State.inHead_iff, State.inHead_iff]
  simp only [same]

/-- Steps 1 and 2 of recovery. -/
def ordersRecovered (s : State) : State := forEach recoverOrder (recoverSupervisor s)

/-- What step 2 makes of one order. -/
theorem ordersRecovered_turn {Q : State → Prop} (i : OrderSlot)
    (turn : ∀ t, t.order i = s.order i → (∀ l, t.lane l = s.lane l) → t.path.state = s.path.state → Q (recoverOrder i t))
    (late : ∀ j t, j ≠ i → Q t → Q (recoverOrder j t)) : Q (ordersRecovered s) := by
  refine forEach_turn (P := fun t : State => t.order i = s.order i ∧ (∀ l, t.lane l = s.lane l) ∧ t.path.state = s.path.state) i
    ?_ (fun t h => turn t h.1 h.2.1 h.2.2) late ⟨rfl, fun _ => rfl, rfl⟩
  intro j t apart ⟨order, lanes, path⟩
  exact ⟨(recoverOrder_order_other (Ne.symm apart) t).trans order, fun l => (recoverOrder_lane j t l).trans (lanes l),
    (recoverOrder_path_state j t).trans path⟩

theorem ordersRecovered_order (i : OrderSlot) (s : State) :
    (ordersRecovered s).order i = (s.order i).map (Order.powerLost (s.inHead i)) :=
  ordersRecovered_turn (Q := fun t => t.order i = (s.order i).map (Order.powerLost (s.inHead i))) i
    (fun t order lanes _ => by rw [recoverOrder_order_self, order, inHead_of_lanes lanes])
    fun j t apart h => (recoverOrder_order_other (Ne.symm apart) t).trans h

theorem ordersRecovered_keeps {P : State → Prop} (turn : ∀ i t, P t → P (recoverOrder i t)) (start : P (recoverSupervisor s)) :
    P (ordersRecovered s) :=
  forEach_keeps P _ turn _ start

theorem ordersRecovered_path_state (s : State) : (ordersRecovered s).path.state = s.path.state :=
  ordersRecovered_keeps (P := fun t => t.path.state = s.path.state) (fun j t h => (recoverOrder_path_state j t).trans h) rfl

/-- What step 2 leaves has no notes for the start-up purge if it had none. -/
theorem powerLost_purges {inHead : Bool} (none_left : o.purges inHead = false) : (o.powerLost inHead).purges inHead = false := by
  have none_accepted (moves : o.state = .picking ∨ o.state = .routing ∨ (o.state = .aborting ∧ inHead = false)) :
      o.sentBack.purges inHead = false := by
    have zero : o.acceptedTotal = 0 := by rcases moves with m | m | m <;> simpa [Order.purges, m] using none_left
    simp [Order.sentBack, zero, Order.purges]
  unfold Order.powerLost
  cases state : o.state with
  | held => simp [Order.purges]
  | queued => simp [Order.purges]
  | picking => exact none_accepted (.inl state)
  | routing => exact none_accepted (.inr (.inl state))
  | aborting =>
    cases inHead with
    | true => exact none_left
    | false => exact none_accepted (.inr (.inr ⟨state, rfl⟩))
  | _ => exact none_left

/-- The order that alone has notes for the start-up purge holds it. -/
theorem ordersRecovered_holder (order : s.order i = some o) (purges : o.purges (s.inHead i) = true)
    (alone : ∀ j, j ≠ i → (s.order j).any (Order.purges (s.inHead j)) = false) :
    (ordersRecovered s).path.holder = some (.order i) := by
  have quiet {t : State} (j k : OrderSlot) (others : (t.order k).any (Order.purges (s.inHead k)) = false)
      (lanes : ∀ l, t.lane l = s.lane l) : ((recoverOrder j t).order k).any (Order.purges (s.inHead k)) = false := by
    by_cases here : k = j
    · subst here
      rw [recoverOrder_order_self, inHead_of_lanes lanes]
      cases record : t.order k with
      | none => rfl
      | some p => rw [record] at others; exact powerLost_purges others
    · rw [recoverOrder_order_other here, others]
  unfold ordersRecovered
  refine (forEach_turn (f := recoverOrder) (s := recoverSupervisor s)
    (P := fun t : State => (∀ l, t.lane l = s.lane l) ∧ t.order i = some o ∧
      ∀ k, k ≠ i → (t.order k).any (Order.purges (s.inHead k)) = false)
    (Q := fun t : State => (∀ l, t.lane l = s.lane l) ∧ t.path.holder = some (.order i) ∧
      ∀ k, k ≠ i → (t.order k).any (Order.purges (s.inHead k)) = false) i ?_ ?_ ?_
    (show _ ∧ _ ∧ _ from ⟨fun _ => rfl, order, alone⟩)).2.1
  · intro j t apart ⟨lanes, mine, others⟩
    exact ⟨fun l => (recoverOrder_lane j t l).trans (lanes l), (recoverOrder_order_other (Ne.symm apart) t).trans mine,
      fun k other => quiet j k (others k other) lanes⟩
  · intro t ⟨lanes, mine, others⟩
    refine ⟨fun l => (recoverOrder_lane i t l).trans (lanes l), ?_, fun k other => quiet i k (others k other) lanes⟩
    rw [recoverOrder_holder, mine, inHead_of_lanes lanes]
    simp [purges]
  · intro j t apart ⟨lanes, mine, others⟩
    refine ⟨fun l => (recoverOrder_lane j t l).trans (lanes l), ?_, fun k other => quiet j k (others k other) lanes⟩
    rw [recoverOrder_holder, inHead_of_lanes lanes, others j apart, mine]
    rfl

/-- What an effect that keeps the records leaves out of the placement order stays out of it. -/
theorem EventKeeps.unplaced (keeps : EventKeeps s t) (out : i ∉ s.custody.placement) : i ∉ t.custody.placement :=
  fun placed => out (keeps.placement placed)

theorem endOrder_unplaced (i : OrderSlot) (g : Order → Order) (s : State) : i ∉ (endOrder i g s).custody.placement := by
  simp

theorem recoverOrder_unplaced (order : s.order i = some o) (live : o.state.terminal = false)
    (ended : (o.powerLost (s.inHead i)).state.terminal = true) : i ∉ (recoverOrder i s).custody.placement := by
  have failed (sent : o.sentBack.state.terminal = true) (u : State) : i ∉ (abortPower i o u).custody.placement := by
    have zero : o.acceptedTotal = 0 := by
      by_contra some_accepted
      simp [Order.sentBack, some_accepted, OrderState.terminal] at sent
    rw [abortPower, if_pos zero]
    exact endOrder_unplaced i _ u
  unfold recoverOrder
  unfold Order.powerLost at ended
  cases state : o.state <;> simp only [state, order, OrderState.terminal, Bool.false_eq_true, Bool.true_eq_false] at live ended ⊢
  case held => exact endOrder_unplaced i _ _
  case queued => exact endOrder_unplaced i _ _
  case picking => exact failed ended _
  case routing => exact failed ended _
  case aborting =>
    cases there : s.inHead i with
    | true => simp [there, state] at ended
    | false => simp only [there, Bool.false_eq_true, if_false] at ended ⊢; exact failed ended _

/-- An order that step 2 ends has left the placement order. -/
theorem ordersRecovered_unplaced (order : s.order i = some o) (live : o.state.terminal = false)
    (ended : (o.powerLost (s.inHead i)).state.terminal = true) : i ∉ (ordersRecovered s).custody.placement :=
  ordersRecovered_turn (Q := fun t => i ∉ t.custody.placement) i
    (fun t mine lanes _ => recoverOrder_unplaced (mine.trans order) live (by rwa [inHead_of_lanes lanes]))
    fun j t _ out => (recoverOrder_keeps j (.refl t)).unplaced out

end Sys2Proof.Machine
end

section
/-! One order through steps 3 to 8 of the recovery event. -/

namespace Sys2Proof.Machine
set_option Elab.async false

variable {s t u : State} {found : FieldLevels} {i j : OrderSlot} {o p : Order} {h : Option Claim} {l : LaneId} {z : ZoneId}

/-! ### An order that rests -/

/-- The order stands in its slot, no order picks, and h holds the transport. -/
structure Rests (i : OrderSlot) (o : Order) (h : Option Claim) (t : State) : Prop where
  order : t.order i = some o
  path : t.path.state ≠ .picking
  holder : t.path.holder = h

/-- What leaves the order in the slot, the transport state and the holder leaves the order at rest. -/
theorem Rests.of_same (r : Rests i o h s) (order : t.order i = s.order i) (state : t.path.state = s.path.state)
    (holder : t.path.holder = s.path.holder) : Rests i o h t :=
  ⟨order.trans r.order, state ▸ r.path, holder.trans r.holder⟩

theorem Rests.stopOrder_other (r : Rests i o h s) (apart : i ≠ j) (st : OrderState) (reason : Reason) :
    Rests i o h (stopOrder j st reason s) :=
  r.of_same (stopOrder_order_other apart st reason s) (by rw [stopOrder_path]) (by rw [stopOrder_path])

/-! ### Step 3 -/

theorem recoverLeveling_rests (r : Rests i o h s) (c : CassetteId) : Rests i o h (recoverLeveling found c s) := by
  have spent : Rests i o h (testNote c s) := r.of_same (by simp [testNote, addRejects, evalPause])
    (by simp [testNote, addRejects, evalPause]) (by simp [testNote, addRejects, evalPause])
  unfold recoverLeveling
  split
  · split
    · exact spent.of_same rfl rfl rfl
    · exact r.of_same rfl rfl rfl
  · exact r

/-! ### Step 4 -/

theorem failGone_rests (r : Rests i o h s) (moved : o.state ≠ .held ∧ o.state ≠ .queued) (c : CassetteId) (j : OrderSlot) :
    Rests i o h (failGone c j s) := by
  unfold failGone
  split
  · next p record =>
    split
    · next fails =>
      refine r.stopOrder_other (fun here => ?_) _ _
      rw [← here, r.order, Option.some.injEq] at record
      rw [← record] at fails
      exact fails.1.elim moved.1 moved.2
    · exact r
  · exact r

theorem pickingOrder_none (r : Rests i o h s) : s.pickingOrder = none := by
  unfold State.pickingOrder
  split
  · next picks _ => exact absurd picks r.path
  · rfl

theorem removeCassette_rests (r : Rests i o h s) (moved : o.state ≠ .held ∧ o.state ≠ .queued) {c : CassetteId}
    (idle : (s.cassette c).leveling = none) : Rests i o h (removeCassette c s) := by
  have stopped : Rests i o h (stopAttempt c s) := by
    unfold stopAttempt
    split
    · exact r.of_same rfl rfl rfl
    · exact r
  have still : endGone c (stopAttempt c s) = stopAttempt c s := endGone_of_no_session (by rw [stopAttempt_cassette, idle])
  have unpicked : abortGone c (stopAttempt c s) = stopAttempt c s := by rw [abortGone, pickingOrder_none stopped]
  have gone := forEach_keeps (Rests i o h) (failGone c) (fun j t r => failGone_rests r moved c j) _ stopped
  have shut {t : State} (r : Rests i o h t) : Rests i o h ((shutNow c t).modCassette c fun r => { r with state := .absent }) :=
    r.of_same rfl rfl rfl
  rw [removeCassette, still, unpicked]
  exact shut gone

theorem recoverCassette_rests (r : Rests i o h s) (moved : o.state ≠ .held ∧ o.state ≠ .queued) {c : CassetteId}
    (idle : (s.cassette c).leveling = none) : Rests i o h (recoverCassette found c s) := by
  have shut {t : State} (r : Rests i o h t) : Rests i o h (shutNow c t) := r.of_same rfl rfl rfl
  refine shut ?_
  split
  · unfold seatCassette
    split
    · exact (shut r).of_same rfl rfl rfl
    · exact r
  · split
    · exact r
    · exact removeCassette_rests r moved idle

theorem sessionsRecovered_idle (found : FieldLevels) (s : State) (c : CassetteId) :
    ((forEach (recoverLeveling found) s).cassette c).leveling = none := by
  rw [sessionsRecovered_cassette, Cassette.sessionEnded_leveling]

theorem storeRecovered_rests (r : Rests i o h (ordersRecovered s)) (moved : o.state ≠ .held ∧ o.state ≠ .queued) :
    Rests i o h (storeRecovered found s) := by
  have sessions := forEach_keeps (Rests i o h) (recoverLeveling found) (fun c t r => recoverLeveling_rests r c) _ r
  have start : (∀ c, ((forEach (recoverLeveling found) (ordersRecovered s)).cassette c).leveling = none) ∧
      Rests i o h (forEach (recoverLeveling found) (ordersRecovered s)) := ⟨sessionsRecovered_idle found _, sessions⟩
  exact (forEach_keeps (fun t : State => (∀ c, (t.cassette c).leveling = none) ∧ Rests i o h t) (recoverCassette found)
    (fun c t k => ⟨recoverCassette_idle found c k.1, recoverCassette_rests k.2 moved (k.1 c)⟩) _ start).2

/-! ### Step 5 -/

/-- The order is neither in the head nor in the drawer of the lane. -/
def Lane.Clear (i : OrderSlot) (r : Lane) : Prop := r.head ≠ some i ∧ r.load ≠ some i

theorem headRecovered_rests (r : Rests i o h s) (clear : (s.lane l).head ≠ some i) : Rests i o h (headRecovered l s) := by
  unfold headRecovered recoverHead
  split
  · next j head =>
    have apart : j ≠ i := fun here => clear (by rw [← here, ← head]; simp)
    exact r.of_same ((State.modOrder_order _ j _ i).trans (if_neg apart)) rfl rfl
  · exact r.of_same rfl rfl rfl

/-- The drawer of a lane without the order leaves it at rest. -/
theorem recoverDrawer_rests (r : Rests i o h s) (clear : (s.lane l).load ≠ some i) : Rests i o h (recoverDrawer found l s) := by
  have bring : Rests i o h (bringHome l s) := by
    unfold bringHome
    split
    · next j load =>
      have apart : j ≠ i := fun here => clear (by rw [load, here])
      exact r.of_same ((State.modOrder_order _ j _ i).trans (if_neg apart)) rfl rfl
    · exact r.of_same rfl rfl rfl
  have home : Rests i o h (endRecall l (standDrawer l .closed s)) := by
    unfold endRecall
    split
    · next j load =>
      have apart : j ≠ i := fun here => clear (by rw [← here, ← load]; simp [standDrawer])
      exact r.of_same ((endOrder_order j i _ _).trans (if_neg apart)) rfl rfl
    · exact r.of_same rfl rfl rfl
  unfold recoverDrawer
  split
  · exact r.of_same rfl rfl rfl
  · simp only []
    split
    · unfold takeEnvelope
      (repeat' split) <;> exact home.of_same rfl rfl rfl
    · exact home
  · exact bring

theorem recoverLane_rests_clear (r : Rests i o h s) (clear : (s.lane l).Clear i) : Rests i o h (recoverLane found l s) := by
  rw [recoverLane_eq]
  exact recoverDrawer_rests (headRecovered_rests r clear.1) (by rw [headRecovered_lane]; exact clear.2)

theorem recoverLane_clear (found : FieldLevels) (l k : LaneId) (clear : (s.lane k).Clear i) :
    ((recoverLane found l s).lane k).Clear i := by
  by_cases here : k = l
  · subst here
    by_cases runs : (s.lane k).drawer = .jammed
    · rw [recoverLane_lane_jammed runs]; exact clear
    · by_cases limit : found.limits.get k = .inner
      · have home : (s.lane k).home.Clear i := ⟨clear.1, nofun⟩
        rw [recoverLane_lane_home runs limit]
        unfold Lane.decided
        (repeat' split) <;> exact home
      · rw [recoverLane_lane_away runs limit]; exact clear
  · rw [recoverLane_lane_other here]; exact clear

/-- An order in no lane rests through step 5. -/
theorem lanesRecovered_rests (r : Rests i o h (storeRecovered found s)) (clear : ∀ l, (s.lane l).Clear i) :
    Rests i o h (lanesRecovered found s) :=
  (lanesRecovered_keeps (P := fun t : State => (∀ l, (t.lane l).Clear i) ∧ Rests i o h t)
    (fun l t k => ⟨fun m => recoverLane_clear found l m (k.1 m), recoverLane_rests_clear k.2 (k.1 l)⟩)
    ⟨fun l => by rw [storeRecovered_lane]; exact clear l, r⟩).2

/-- An order that stands in one lane alone, through step 5. -/
theorem lanesRecovered_rests_in (r : Rests i o h (storeRecovered found s)) (clear : ∀ k, k ≠ l → (s.lane k).Clear i)
    (turn : ∀ t, Rests i o h t → t.lane l = s.lane l → Rests i p h (recoverLane found l t)) :
    Rests i p h (lanesRecovered found s) := by
  refine (forEach_turn (f := recoverLane found) (s := storeRecovered found s)
    (P := fun t : State => (∀ k, k ≠ l → (t.lane k).Clear i) ∧ t.lane l = s.lane l ∧ Rests i o h t)
    (Q := fun t : State => (∀ k, k ≠ l → (t.lane k).Clear i) ∧ Rests i p h t) l ?_ ?_ ?_
    ⟨fun k apart => by rw [storeRecovered_lane]; exact clear k apart, storeRecovered_lane found s l, r⟩).2
  · intro k t apart ⟨others, lane, rests⟩
    exact ⟨fun m other => recoverLane_clear found k m (others m other),
      (recoverLane_lane_other (Ne.symm apart) found t).trans lane, recoverLane_rests_clear rests (others k apart)⟩
  · intro t ⟨others, lane, rests⟩
    exact ⟨fun m other => recoverLane_clear found l m (others m other), turn t rests lane⟩
  · intro k t apart ⟨others, rests⟩
    exact ⟨fun m other => recoverLane_clear found k m (others m other), recoverLane_rests_clear rests (others k apart)⟩

/-! ### Step 7 -/

theorem lockdownPicking_idle (idle : s.path.state ≠ .picking) : lockdownPicking s = s := by
  unfold lockdownPicking
  split
  · next picks _ => exact absurd picks idle
  · next picks _ => exact absurd picks idle
  · rfl

theorem dumpStaged_rests (r : Rests i o h s) (unstaged : o.state ≠ .staged) (l : LaneId) (reason : Reason) :
    Rests i o h (dumpStaged l reason s) := by
  unfold dumpStaged
  split
  · next j head =>
    split
    · next q record =>
      split
      · next staged =>
        have apart : j ≠ i := fun here => by
          rw [here, r.order, Option.some.injEq] at record
          exact unstaged (record ▸ staged)
        exact r.of_same ((State.modOrder_order _ j _ i).trans (if_neg apart)) rfl rfl
      · exact r
    · exact r
  · exact r

theorem recallCause_rests (r : Rests i o h s) (closed : (s.lane l).drawer ≠ .opened) (c : RecallCause) :
    Rests i o h (recallCause l c s) := by
  unfold recallCause
  split
  · contradiction
  · exact r.of_same rfl rfl rfl
  all_goals exact r

theorem lockdownLane_rests (r : Rests i o h s) (unstaged : o.state ≠ .staged) (calm : Calm s) (l : LaneId) :
    Rests i o h (lockdownLane l s) :=
  recallCause_rests (dumpStaged_rests r unstaged l _) (((dumpStaged_lull l _ s).calm calm).drawer l) _

theorem startLockdown_rests (r : Rests i o h s) (unstaged : o.state ≠ .staged) (calm : Calm s) :
    Rests i o h (startLockdown s) := by
  have siren : Rests i o h (sounded s) := r.of_same (by simp [sounded]) (by simp [sounded]) (by simp [sounded])
  rw [startLockdown_calm calm, lockdownPicking_idle siren.path]
  exact (forEach_keeps (fun t => Calm t ∧ Rests i o h t) lockdownLane
    (fun l t k => ⟨(lockdownLane_lull l k.1).calm k.1, lockdownLane_rests k.2 unstaged k.1 l⟩) _
    ⟨(sounded_lull s).calm calm, siren⟩).2

theorem respond_rests (r : Rests i o h s) (unstaged : o.state ≠ .staged) (calm : Calm s) (z : ZoneId) (stood : Bool) :
    Rests i o h (respond z stood s) := by
  unfold respond
  split
  · split
    · exact r.of_same rfl rfl rfl
    · exact startLockdown_rests r unstaged calm
  · split
    · rw [lockLane_calm calm]; exact r.of_same rfl rfl rfl
    · exact r
  · exact r.of_same rfl rfl rfl
  · exact r

theorem latch_rests (r : Rests i o h s) (unstaged : o.state ≠ .staged) (calm : Calm s) (z : ZoneId) :
    Rests i o h (latch z s) := by
  have before : Rests i o h (tripped z s) := r.of_same rfl rfl rfl
  have responded := respond_rests before unstaged ((tripped_lull z s).calm calm) z s.lockdown
  rw [latch_eq]
  exact responded.of_same (State.raise_order _ _ _) (by rw [State.raise_path]) (by rw [State.raise_path])

theorem activateIfOpen_rests (r : Rests i o h s) (unstaged : o.state ≠ .staged) (calm : Calm s) (z : ZoneId) :
    Rests i o h (activateIfOpen z s) := by
  unfold activateIfOpen
  split
  · unfold activate
    simp only []
    split
    · have counted : Rests i o h (s.modZone z fun r => { r with tripCount := bump r.tripCount }) := r.of_same rfl rfl rfl
      exact latch_rests counted unstaged ((Lull.modZone z _).calm calm) z
    · exact r.of_same rfl rfl rfl
  · exact r

theorem latchDelayed_rests (r : Rests i o h s) (unstaged : o.state ≠ .staged) (calm : Calm s) (z : ZoneId) :
    Rests i o h (latchDelayed z s) := by
  unfold latchDelayed
  split
  · exact latch_rests r unstaged calm z
  · exact r

theorem recoverZones_rests (r : Rests i o h s) (unstaged : o.state ≠ .staged) (calm : Calm s) :
    Rests i o h (recoverZones found s) := by
  have inputs : Rests i o h (zonesSampled found s) :=
    forEach_keeps (Rests i o h) (reported found) (fun z t k => k.of_same rfl rfl rfl) _ (r.of_same rfl rfl rfl)
  have delays : Calm (delaysEnded found s) ∧ Rests i o h (delaysEnded found s) :=
    forEach_keeps (fun t => Calm t ∧ Rests i o h t) latchDelayed
      (fun z t k => ⟨(latchDelayed_lull z k.1).calm k.1, latchDelayed_rests k.2 unstaged k.1 z⟩) _
      ⟨(zonesSampled_lull found calm).calm calm, inputs⟩
  rw [recoverZones_eq]
  exact (forEach_keeps (fun t => Calm t ∧ Rests i o h t) activateIfOpen
    (fun z t k => ⟨(activateIfOpen_lull z k.1).calm k.1, activateIfOpen_rests k.2 unstaged k.1 z⟩) _ delays).2

theorem recoverConveyor_rests (r : Rests i o h s) : Rests i o h (recoverConveyor s) := r.of_same rfl rfl rfl

theorem recoverConveyor_calm (calm : Calm s) : Calm (recoverConveyor s) :=
  ⟨calm.leveling, calm.shutter, calm.session, calm.drawer⟩

theorem recoverTransport_order (i : OrderSlot) (s : State) : (recoverTransport found s).order i = s.order i := rfl

theorem recoverTransport_holder (s : State) : (recoverTransport found s).path.holder = s.path.holder := rfl

/-- An order at rest after step 5 stands at the end of recovery, and the holder with it. -/
theorem recover_rests (r : Rests i o h (lanesRecovered found s)) (unstaged : o.state ≠ .staged) :
    (recover found s).order i = some o ∧ (recover found s).path.holder = h := by
  have zones : Rests i o h (zonesRecovered found s) :=
    recoverZones_rests (recoverConveyor_rests r) unstaged (recoverConveyor_calm (lanesRecovered_calm found s))
  rw [recover_eq, recoverTransport_order, recoverTransport_holder]
  exact ⟨zones.order, zones.holder⟩

end Sys2Proof.Machine
end

section
/-! The zones and the trip list through the recovery event. -/

namespace Sys2Proof.Machine
set_option Elab.async false

variable {s t u : State} {found : FieldLevels} {z k : ZoneId}

/-! ### The response of a latch -/

/-- What the response of a latch may touch beside the Alarm Unit. -/
def responseRoom : Footprint where
  cassettes := positions _
  orders := positions _
  placement := true
  bins := true
  path := true
  lanes := positions _
  work := positions _

/-- What the response of a latch leaves: the zones, the trip list, and the Alarm Unit but for the siren and the silent
line. -/
structure Responds (s t : State) : Prop where
  zones : ∀ k, t.zone k = s.zone k
  trips : t.custody.tripList = s.custody.tripList
  alarm : { t.alarm with siren := false, silent := false } = { s.alarm with siren := false, silent := false }

theorem Touches.responds (touches : Touches responseRoom s t) : Responds s t where
  zones k := (touches.zones k).resolve_left (by simp [responseRoom])
  trips := touches.trips.resolve_left (by simp [responseRoom])
  alarm := by rw [touches.alarm.resolve_left (by simp [responseRoom])]

theorem Responds.trans (h : Responds s t) (k : Responds t u) : Responds s u :=
  ⟨fun z => (k.zones z).trans (h.zones z), k.trips.trans h.trips, k.alarm.trans h.alarm⟩

theorem startLockdown_responds (s : State) : Responds s (startLockdown s) := by
  have siren : Responds s ((s.modAlarm fun a => { a with siren := true }).raise .alarm) :=
    ⟨fun k => by simp, by simp, by simp⟩
  have picking := lockdownPicking_touches (f := responseRoom) (fun c => mem_positions c) (fun i => mem_positions i) rfl rfl
    ((s.modAlarm fun a => { a with siren := true }).raise .alarm)
  have rest := ((picking.trans (closeShutters_touches (fun c => mem_positions c) rfl _)).trans
    (.forEach (fun c s => lockdownLeveling_touches (mem_positions c) rfl rfl s) _)).trans
    (.forEach (fun l s => lockdownLane_touches (mem_positions l) (mem_positions l) (fun i => mem_positions i) s) _)
  exact siren.trans rest.responds

theorem respond_responds (z : ZoneId) (stood : Bool) (s : State) : Responds s (respond z stood s) := by
  have same : Responds s s := ⟨fun _ => rfl, rfl, rfl⟩
  unfold respond
  split
  · split
    · exact ⟨fun _ => rfl, rfl, rfl⟩
    · exact startLockdown_responds s
  · split
    · exact (lockLane_touches (f := responseRoom) (fun c => mem_positions c) (fun i => mem_positions i) rfl rfl (mem_positions _)
        (mem_positions _) z s).responds
    · exact same
  · exact ⟨fun _ => rfl, rfl, rfl⟩
  · exact same

/-! ### A latch -/

theorem tripped_zone (z k : ZoneId) (s : State) :
    (tripped z s).zone k = if z = k then { s.zone k with state := .latched } else s.zone k :=
  State.modZone_zone s z (fun r => { r with state := .latched }) k

theorem latch_zone (z k : ZoneId) (s : State) :
    (latch z s).zone k = if z = k then { s.zone k with state := .latched } else s.zone k := by
  rw [latch_eq, State.raise_zone, (respond_responds z _ _).zones, tripped_zone]

theorem latch_trips (z : ZoneId) (s : State) : (latch z s).custody.tripList = s.custody.tripList ++ [z] := by
  rw [latch_eq, State.raise_custody, (respond_responds z _ _).trips]
  rfl

theorem latch_delays (z : ZoneId) (s : State) : (latch z s).alarm.delays = tableSet s.alarm.delays z none := by
  have alarm := congrArg AlarmUnit.delays (respond_responds z s.lockdown (tripped z s)).alarm
  rw [latch_eq, State.raise_alarm]
  exact alarm

/-! ### A zone record through step 7 -/

/-- A zone record with its first report, the bypasses of service mode having ended (R159). -/
def Zone.sampled (z : ZoneId) (input : ZoneInput) (r : Zone) : Zone := { Zone.endService z r with input := input }

/-- A zone record whose entry delay has ended (R159). -/
def Zone.delayEnded (r : Zone) : Zone := if r.state = .delay then { r with state := .latched } else r

/-- The zone is activated as its input is taken, armed as told, outside service mode (R147). -/
def Zone.opens (armed : Bool) (r : Zone) : Bool := r.state == .normal && r.input == .active && armed && !r.manualBypass

/-- A zone record after its input is taken (R147). -/
def Zone.activated (armed : Bool) (r : Zone) : Zone :=
  if r.opens armed then { r with tripCount := bump r.tripCount, state := if r.entryDelay = 0 then .latched else .delay } else r

theorem latchDelayed_zone (z k : ZoneId) (s : State) :
    (latchDelayed z s).zone k = if z = k then (s.zone k).delayEnded else s.zone k := by
  unfold latchDelayed Zone.delayEnded
  by_cases here : z = k
  · subst here
    split
    · rw [latch_zone, if_pos rfl]
    · rw [if_pos rfl]
  · rw [if_neg here]
    split
    · rw [latch_zone, if_neg here]
    · rfl

theorem latchDelayed_trips (z : ZoneId) (s : State) :
    (latchDelayed z s).custody.tripList = s.custody.tripList ++ if (s.zone z).state = .delay then [z] else [] := by
  unfold latchDelayed
  split
  · exact latch_trips z s
  · simp

/-- The zone is armed as a group of the state is. -/
def State.zoneArmed (s : State) (z : ZoneId) : Bool := s.groupArmed (s.zone z).group

theorem activateIfOpen_eq (outside : s.alarm.service = false) (z : ZoneId) :
    activateIfOpen z s = if (s.zone z).opens (s.zoneArmed z) then activate z s else s := by
  have same : ((s.zone z).state = .normal ∧ (s.zone z).input = .active ∧ s.groupArmed (s.zone z).group = true ∧
      s.bypassed z = false) ↔ (s.zone z).opens (s.zoneArmed z) = true := by
    simp [Zone.opens, State.zoneArmed, State.bypassed, outside, and_assoc]
  unfold activateIfOpen
  simp only [same]

theorem activate_zone (z k : ZoneId) (s : State) :
    (activate z s).zone k = if z = k
      then { s.zone k with tripCount := bump (s.zone k).tripCount, state := if (s.zone k).entryDelay = 0 then .latched else .delay }
      else s.zone k := by
  unfold activate
  by_cases here : z = k
  · subst here
    by_cases now : (s.zone z).entryDelay = 0 <;> simp [now, latch_zone]
  · split <;> simp [here, latch_zone, State.modZone_zone]

theorem activate_trips (z : ZoneId) (s : State) :
    (activate z s).custody.tripList = s.custody.tripList ++ if (s.zone z).entryDelay = 0 then [z] else [] := by
  unfold activate
  simp only []
  split
  · exact latch_trips z _
  · simp

theorem activateIfOpen_zone (outside : s.alarm.service = false) (z k : ZoneId) :
    (activateIfOpen z s).zone k = if z = k then (s.zone k).activated (s.zoneArmed k) else s.zone k := by
  rw [activateIfOpen_eq outside]
  by_cases here : z = k
  · subst here
    rw [if_pos rfl, Zone.activated]
    split
    · rw [activate_zone, if_pos rfl]
    · rfl
  · rw [if_neg here]
    split
    · rw [activate_zone, if_neg here]
    · rfl

theorem activateIfOpen_trips (outside : s.alarm.service = false) (z : ZoneId) :
    (activateIfOpen z s).custody.tripList = s.custody.tripList ++
      if (s.zone z).opens (s.zoneArmed z) = true ∧ (s.zone z).entryDelay = 0 then [z] else [] := by
  rw [activateIfOpen_eq outside]
  split
  · next opens => rw [activate_trips]; simp [opens]
  · next shut => simp [shut]

/-- The entry delay of every other zone runs on. -/
theorem activateIfOpen_delay_other (apart : k ≠ z) (s : State) :
    (activateIfOpen z s).alarm.delays.get k = s.alarm.delays.get k := by
  unfold activateIfOpen
  split
  · unfold activate
    simp only []
    split
    · rw [latch_delays, tableSet_get_ne _ _ (Ne.symm apart)]
      rfl
    · exact tableSet_get_ne _ _ (Ne.symm apart)
  · rfl

theorem activateIfOpen_delay_self (outside : s.alarm.service = false) (opens : (s.zone z).opens (s.zoneArmed z) = true)
    (delay : (s.zone z).entryDelay ≠ 0) :
    (activateIfOpen z s).alarm.delays.get z = some ((s.zone z).entryDelay * 1000) := by
  rw [activateIfOpen_eq outside, if_pos opens, activate, if_neg delay]
  exact tableSet_get_self _ _ _

/-! ### Step 7 for one zone -/

theorem zonesSampled_zone (found : FieldLevels) (s : State) (z : ZoneId) :
    (zonesSampled found s).zone z = (s.zone z).sampled z (found.zones.get z) :=
  forEach_at (fun t : State => t.zone z) (reported found) z (Zone.sampled z (found.zones.get z))
    (fun j t apart => by rw [reported, State.modZone_zone, if_neg apart])
    (fun t => by rw [reported, State.modZone_zone, if_pos rfl]; rfl) _

theorem delaysEnded_zone (found : FieldLevels) (s : State) (z : ZoneId) :
    (delaysEnded found s).zone z = ((s.zone z).sampled z (found.zones.get z)).delayEnded := by
  rw [delaysEnded, forEach_at (fun t : State => t.zone z) latchDelayed z Zone.delayEnded
    (fun j t apart => by rw [latchDelayed_zone, if_neg apart]) (fun t => by rw [latchDelayed_zone, if_pos rfl]),
    zonesSampled_zone]

theorem groupArmed_of_same (day : t.custody.dayArmed = s.custody.dayArmed) (night : t.custody.nightArmed = s.custody.nightArmed)
    (g : Group) : t.groupArmed g = s.groupArmed g := by
  cases g <;> simp [State.groupArmed, day, night]

theorem Lull.groupArmed (lull : Lull s t) (g : Group) : t.groupArmed g = s.groupArmed g := by
  obtain ⟨day, night⟩ := lull.touches.arms.resolve_left (by simp [zoneRoom])
  exact groupArmed_of_same day night g

/-- What step 7 makes of one zone: its turn finds the record with its first report and its entry delay ended. -/
theorem recoverZones_turn {Q : State → Prop} (calm : Calm s) (outside : s.alarm.service = false) (z : ZoneId)
    (turn : ∀ t, Lull s t → t.zone z = ((s.zone z).sampled z (found.zones.get z)).delayEnded → t.alarm.service = false →
      Q (activateIfOpen z t))
    (late : ∀ k t, k ≠ z → t.alarm.service = false → Q t → Q (activateIfOpen k t)) : Q (recoverZones found s) := by
  rw [recoverZones_eq]
  refine (forEach_turn (f := activateIfOpen) (s := delaysEnded found s)
    (P := fun t : State => Lull s t ∧ t.zone z = ((s.zone z).sampled z (found.zones.get z)).delayEnded)
    (Q := fun t : State => Lull s t ∧ Q t) z ?_ ?_ ?_ ⟨delaysEnded_lull found calm, delaysEnded_zone found s z⟩).2
  · intro k t apart ⟨lull, record⟩
    exact ⟨lull.trans (activateIfOpen_lull k (lull.calm calm)), by
      rw [activateIfOpen_zone (lull.service.trans outside), if_neg apart, record]⟩
  · intro t ⟨lull, record⟩
    exact ⟨lull.trans (activateIfOpen_lull z (lull.calm calm)), turn t lull record (lull.service.trans outside)⟩
  · intro k t apart ⟨lull, holds⟩
    exact ⟨lull.trans (activateIfOpen_lull k (lull.calm calm)), late k t apart (lull.service.trans outside) holds⟩

theorem Zone.sampled_group (z : ZoneId) (input : ZoneInput) (r : Zone) : (r.sampled z input).delayEnded.group = r.group := by
  unfold Zone.delayEnded
  split <;> rfl

/-- A zone that opens with its first report was in no entry delay. -/
theorem opens_record {r q : Zone} {armed : Bool} {z : ZoneId} {input : ZoneInput}
    (record : q = (r.sampled z input).delayEnded) (opens : (r.sampled z input).opens armed = true) :
    q = r.sampled z input ∧ (r.sampled z input).group = r.group := by
  have normal : (r.sampled z input).state = .normal := by
    simp only [Zone.opens, Bool.and_eq_true, beq_iff_eq] at opens
    exact opens.1.1.1
  refine ⟨?_, rfl⟩
  rw [record, Zone.delayEnded, if_neg (by simp [normal])]

theorem recoverZones_zone (calm : Calm s) (outside : s.alarm.service = false) (z : ZoneId) :
    (recoverZones found s).zone z =
      ((s.zone z).sampled z (found.zones.get z)).delayEnded.activated (s.groupArmed (s.zone z).group) :=
  recoverZones_turn (Q := fun t => t.zone z =
      ((s.zone z).sampled z (found.zones.get z)).delayEnded.activated (s.groupArmed (s.zone z).group)) calm outside z
    (fun t lull record quiet => by
      rw [activateIfOpen_zone quiet, if_pos rfl, State.zoneArmed, lull.groupArmed, record, Zone.sampled_group])
    (fun k t apart quiet holds => by rw [activateIfOpen_zone quiet, if_neg apart, holds])

/-- A zone that latches in step 7 joins the trip list. -/
theorem recoverZones_trips (calm : Calm s) (outside : s.alarm.service = false) (z : ZoneId)
    (latches : ((s.zone z).sampled z (found.zones.get z)).state = .delay ∨
      (((s.zone z).sampled z (found.zones.get z)).opens (s.groupArmed (s.zone z).group) = true ∧ (s.zone z).entryDelay = 0)) :
    z ∈ (recoverZones found s).custody.tripList := by
  have kept (k : ZoneId) (t : State) (quiet : t.alarm.service = false) (listed : z ∈ t.custody.tripList) :
      z ∈ (activateIfOpen k t).custody.tripList := by
    rw [activateIfOpen_trips quiet]
    exact List.mem_append_left _ listed
  rcases latches with delay | ⟨opens, now⟩
  · have ended : z ∈ (delaysEnded found s).custody.tripList := by
      unfold delaysEnded
      refine forEach_turn (f := latchDelayed) (P := fun t : State => t.zone z = (s.zone z).sampled z (found.zones.get z))
        (Q := fun t : State => z ∈ t.custody.tripList) z ?_ ?_ ?_ (zonesSampled_zone found s z)
      · intro k t apart record
        rw [latchDelayed_zone, if_neg apart, record]
      · intro t record
        rw [latchDelayed_trips, record, if_pos delay]
        exact List.mem_append_right _ (List.mem_singleton_self z)
      · intro k t _ listed
        rw [latchDelayed_trips]
        exact List.mem_append_left _ listed
    rw [recoverZones_eq]
    exact (forEach_keeps (fun t : State => Lull s t ∧ z ∈ t.custody.tripList) activateIfOpen
      (fun k t ⟨lull, listed⟩ => ⟨lull.trans (activateIfOpen_lull k (lull.calm calm)),
        kept k t (lull.service.trans outside) listed⟩) _ ⟨delaysEnded_lull found calm, ended⟩).2
  · refine recoverZones_turn (Q := fun t => z ∈ t.custody.tripList) calm outside z (fun t lull record quiet => ?_)
      (fun k t _ quiet listed => kept k t quiet listed)
    obtain ⟨record, still⟩ := opens_record record opens
    rw [activateIfOpen_trips quiet, State.zoneArmed, lull.groupArmed, record, still, if_pos ⟨opens, now⟩]
    exact List.mem_append_right _ (List.mem_singleton_self z)

/-- A zone that enters its delay in step 7 has it run. -/
theorem recoverZones_delay (calm : Calm s) (outside : s.alarm.service = false) (z : ZoneId)
    (opens : ((s.zone z).sampled z (found.zones.get z)).opens (s.groupArmed (s.zone z).group) = true)
    (delay : (s.zone z).entryDelay ≠ 0) : (recoverZones found s).alarm.delays.get z = some ((s.zone z).entryDelay * 1000) := by
  refine recoverZones_turn (Q := fun t => t.alarm.delays.get z = some ((s.zone z).entryDelay * 1000)) calm outside z
    (fun t lull record quiet => ?_) (fun k t apart _ holds => (activateIfOpen_delay_other (Ne.symm apart) t).trans holds)
  obtain ⟨record, still⟩ := opens_record record opens
  have entry : (t.zone z).entryDelay = (s.zone z).entryDelay := by rw [record]; rfl
  rw [← entry]
  exact activateIfOpen_delay_self quiet (by rw [State.zoneArmed, lull.groupArmed, record]; exact opens) (by rwa [entry])

end Sys2Proof.Machine
end

section
/-! The reservations through the recovery event. -/

namespace Sys2Proof.Machine
set_option Elab.async false

variable {s t u : State} {found : FieldLevels} {i j : OrderSlot} {o : Order} {c : CassetteId}

/-! ### Reservations that step 2 releases -/

/-- What the order in a slot holds reserved on a cassette (R31). -/
def State.holds (s : State) (c : CassetteId) (i : OrderSlot) : Nat :=
  match s.order i with
  | some o => if o.state.reserves then o.need c else 0
  | none => 0

theorem holds_of_same (same : t.order i = s.order i) : t.holds c i = s.holds c i := by rw [State.holds, same, State.holds]

theorem recoverOrder_reserved (i : OrderSlot) (s : State) (c : CassetteId) :
    ((recoverOrder i s).cassette c).reserved = (s.cassette c).reserved - s.holds c i := by
  unfold recoverOrder State.holds
  cases order : s.order i with
  | none => rfl
  | some o =>
    have stops := congrArg Cassette.reserved (stopOrder_cassette order .cancelled .power c)
    cases state : o.state <;> simp only [OrderState.reserves, state, if_true, Bool.false_eq_true, if_false, Nat.sub_zero]
    case held => exact stops
    case queued => exact stops
    case picking => rw [abortPower_cassette, releaseReservations_cassette order]
    case routing => rw [abortPower_cassette]
    case aborting =>
      split
      · rfl
      · rw [abortPower_cassette]

/-- A passage of step 2 along a list of slots. -/
theorem recoverOrder_passage_reserved (c : CassetteId) : ∀ (l : List OrderSlot) (t : State), l.Nodup →
    ((l.foldl (fun t i => recoverOrder i t) t).cassette c).reserved = (t.cassette c).reserved - (l.map (t.holds c)).sum
  | [], _, _ => rfl
  | i :: l, t, once => by
    obtain ⟨out, rest⟩ := List.nodup_cons.mp once
    have same : l.map ((recoverOrder i t).holds c) = l.map (t.holds c) :=
      List.map_congr_left fun j there => holds_of_same (recoverOrder_order_other (i := j) (j := i) (fun here => out (here ▸ there)) t)
    rw [List.foldl_cons, recoverOrder_passage_reserved c l _ rest, same, recoverOrder_reserved, List.map_cons, List.sum_cons,
      Nat.sub_sub]

/-- What step 2 leaves reserved on a cassette: what no order that reserves still needs. -/
theorem ordersRecovered_reserved (s : State) (c : CassetteId) :
    ((ordersRecovered s).cassette c).reserved = (s.cassette c).reserved - s.demand c :=
  recoverOrder_passage_reserved c (positions _) (recoverSupervisor s) positions_nodup

theorem ordersRecovered_keeps_rest (found : FieldLevels) (s : State) : EventKeeps (ordersRecovered s) (recover found s) := by
  have sessions := (EventKeeps.refl (ordersRecovered s)).forEach fun c _ k => recoverLeveling_keeps found c k
  have cassettes : EventKeeps (ordersRecovered s) (storeRecovered found s) :=
    sessions.forEach fun c _ k => recoverCassette_keeps found c k
  have lanes : EventKeeps (ordersRecovered s) (lanesRecovered found s) :=
    cassettes.forEach fun l _ k => recoverLane_keeps found l k
  have zones : EventKeeps (ordersRecovered s) (zonesRecovered found s) := recoverZones_keeps found (lanes.modConveyor _)
  rw [recover_eq]
  exact ((zones.modLevels _).modPath _).modSup _

/-- Recovery leaves no reservation where the second law held. -/
theorem recover_reserved (law : (s.cassette c).reserved ≤ s.demand c) : ((recover found s).cassette c).reserved = 0 := by
  have rest := (ordersRecovered_keeps_rest found s).reserved c
  rw [ordersRecovered_reserved, Nat.sub_eq_zero_of_le law] at rest
  exact Nat.le_zero.mp rest

end Sys2Proof.Machine
end

section
/-! The state at the end of the recovery event. -/

namespace Sys2Proof.Machine
set_option Elab.async false

variable {s t u before after : State} {found : FieldLevels} {i j : OrderSlot} {o p q : Order} {c : CassetteId} {l : LaneId}
  {z : ZoneId} {h : Option Claim}

/-! ### The records at the end of an event -/

/-- An order at the end of an event that changes no mark by its own effect: it is marked if it has changed (R9). -/
theorem finish_order_changed (old : before.order i = some o) (new : after.order i = some q) (mark : q.mark = o.mark) :
    (finish before after none none).order i = some { q with mark := q.mark || decide (q ≠ o) } := by
  rw [finish_order, orderMoved, old, new]
  by_cases still : q = o
  · subst still
    simp [Order.same]
  · have moved : o.same q = false := Bool.eq_false_iff.mpr fun same => still (Order.eq_of_same same mark)
    simp [moved, still]

theorem finish_order_moved (old : before.order i = some o) (new : after.order i = some q) (mark : q.mark = o.mark)
    (moved : q.state ≠ o.state) : (finish before after none none).order i = some { q with mark := true } := by
  have apart : q ≠ o := fun same => moved (same ▸ rfl)
  rw [finish_order_changed old new mark]
  simp [apart]

theorem finish_cassette_but_mark (c : CassetteId) :
    ∃ b, (finish before after none none).cassette c = { after.cassette c with mark := b } := by
  rw [finish_cassette]
  split <;> exact ⟨_, rfl⟩

theorem finish_lane_but_mark (l : LaneId) : ∃ b, (finish before after none none).lane l = { after.lane l with mark := b } := by
  rw [finish_lane]
  split <;> exact ⟨_, rfl⟩

theorem finish_zone_but_mark (z : ZoneId) : ∃ b, (finish before after none none).zone z = { after.zone z with mark := b } := by
  rw [finish_zone]
  split <;> exact ⟨_, rfl⟩

theorem finish_cassette_marked (c : CassetteId) {α : Type} (f : Cassette → α)
    (blind : ∀ r : Cassette, f { r with mark := false } = f r) (moved : f (after.cassette c) ≠ f (before.cassette c)) : ((finish before after none none).cassette c).mark = true := by
  have apart : cassetteMoved before after none c = true := by
    simp only [cassetteMoved, Cassette.same, Bool.and_eq_true, Bool.not_eq_true', beq_eq_false_iff_ne, ne_eq]
    refine ⟨fun same => moved ?_, by simp⟩
    rw [← blind, ← same, blind]
  rw [finish_cassette, apart]
  rfl

theorem finish_zone_marked (z : ZoneId) (moved : (after.zone z).state ≠ (before.zone z).state) :
    ((finish before after none none).zone z).mark = true := by
  have apart : zoneMoved before after none z = true := by
    simp only [zoneMoved, Zone.same, Bool.and_eq_true, Bool.not_eq_true', beq_eq_false_iff_ne, ne_eq]
    refine ⟨fun same => moved ?_, by simp⟩
    exact (congrArg Zone.state same).symm
  rw [finish_zone, apart]
  rfl

/-! ### Recovery as a whole -/

/-- The state at the end of the recovery event, from the store as the sampling left it. -/
@[irreducible] def recovered (found : FieldLevels) (s : State) : State := finish s (recover found s) none none

theorem settle_yields {P : State → Prop} (phase : s.sup.phase = some .settle)
    (ends : P (recovered found (sampleRetention found s))) : Yields (.settleExpiry found) s P :=
  yields_of (by simp only [exec, execSettleExpiry, phase, if_true, recovered]) ends

/-- The store as the sampling leaves it when retention is good (R18). -/
theorem sampleRetention_kept (found : FieldLevels) (s : State) (good : found.retentionGood = true) :
    sampleRetention found s = { s with custody := { s.custody with retention := .kept }, levels := found } := by
  simp [sampleRetention, good]

/-- The state in which step 7 begins. -/
def conveyorRecovered (found : FieldLevels) (s : State) : State := recoverConveyor (lanesRecovered found s)

theorem zonesRecovered_eq (found : FieldLevels) (s : State) :
    zonesRecovered found s = recoverZones found (conveyorRecovered found s) := by
  rw [zonesRecovered, conveyorRecovered]

theorem conveyorRecovered_calm (found : FieldLevels) (s : State) : Calm (conveyorRecovered found s) :=
  recoverConveyor_calm (lanesRecovered_calm found s)

theorem zonesRecovered_lull (found : FieldLevels) (s : State) : Lull (conveyorRecovered found s) (zonesRecovered found s) :=
  recoverZones_lull found (conveyorRecovered_calm found s)

theorem zonesRecovered_calm (found : FieldLevels) (s : State) : Calm (zonesRecovered found s) :=
  (zonesRecovered_lull found s).calm (conveyorRecovered_calm found s)

/-- What the first and the last steps leave alone. -/
theorem recoverSupervisor_alarm (s : State) : (recoverSupervisor s).alarm = { s.alarm with service := false } := rfl

theorem recoverSupervisor_sup (s : State) : (recoverSupervisor s).sup = { s.sup with rails := true } := rfl

theorem recoverTransport_sup (s : State) :
    (recoverTransport found s).sup = { s.sup with phase := some .purge, phaseTimer := some 3000 } := rfl

theorem recoverTransport_levels (s : State) : (recoverTransport found s).levels = { s.levels with gaugeNote := false } := rfl

theorem lanesRecovered_alarm (found : FieldLevels) (s : State) :
    (lanesRecovered found s).alarm = { s.alarm with service := false } := by
  rw [(lanesRecovered_steady found s).alarm, recoverSupervisor_alarm]

theorem lanesRecovered_sup (found : FieldLevels) (s : State) : (lanesRecovered found s).sup = { s.sup with rails := true } := by
  rw [(lanesRecovered_steady found s).sup, recoverSupervisor_sup]

theorem lanesRecovered_zone (found : FieldLevels) (s : State) (z : ZoneId) : (lanesRecovered found s).zone z = s.zone z := by
  rw [(lanesRecovered_steady found s).zones z]
  simp [recoverSupervisor]

theorem lanesRecovered_conveyor (found : FieldLevels) (s : State) : (lanesRecovered found s).conveyor = s.conveyor := by
  rw [(lanesRecovered_steady found s).conveyor]
  simp [recoverSupervisor]

theorem conveyorRecovered_outside (found : FieldLevels) (s : State) : (conveyorRecovered found s).alarm.service = false := by
  simp [conveyorRecovered, recoverConveyor, lanesRecovered_alarm]

/-- What steps 7 and 8 leave, step by step read back to steps 5 and 6. -/
theorem recover_cassette (found : FieldLevels) (s : State) (c : CassetteId) :
    ((recover found s).cassette c).unreserved =
      ((s.cassette c).unreserved.sessionEnded found.gaugeNote).seatChecked (found.seated.get c) := by
  have zones := (zonesRecovered_lull found s).cassettes c
  simp only [conveyorRecovered, recoverConveyor, State.modConveyor_cassette, lanesRecovered_cassette,
    storeRecovered_unreserved] at zones
  simpa [recover_eq, recoverTransport] using zones

theorem recover_lane (found : FieldLevels) (s : State) (l : LaneId) :
    ((recover found s).lane l).unlocked = ((lanesRecovered found s).lane l).unlocked := by
  have zones := (zonesRecovered_lull found s).lanes l
  simp only [conveyorRecovered, recoverConveyor, State.modConveyor_lane] at zones
  simpa [recover_eq, recoverTransport] using zones

theorem recover_work (found : FieldLevels) (s : State) (l : LaneId) :
    ((lanesRecovered found s).laneWork l).Goes ((recover found s).laneWork l) := by
  have zones := (zonesRecovered_lull found s).work l
  simp only [conveyorRecovered, recoverConveyor, State.modConveyor_laneWork] at zones
  simpa [recover_eq, recoverTransport] using zones

theorem recover_envelopes (found : FieldLevels) (s : State) :
    (recover found s).custody.envelopes = (lanesRecovered found s).custody.envelopes := by
  have zones := (zonesRecovered_lull found s).touches.envelopes
  simp only [zoneRoom, List.contains_nil, Bool.not_false, List.filter_true, conveyorRecovered, recoverConveyor,
    State.modConveyor_custody] at zones
  simpa [recover_eq, recoverTransport] using zones

theorem recover_calm (found : FieldLevels) (s : State) : Calm (recover found s) := by
  have calm {t : State} (k : Calm t) : Calm (recoverTransport found t) := ⟨k.leveling, k.shutter, k.session, k.drawer⟩
  rw [recover_eq]
  exact calm (zonesRecovered_calm found s)

theorem recover_conveyor (found : FieldLevels) (s : State) :
    (recover found s).conveyor = { s.conveyor with
      state := .running, list := (lanesRecovered found s).captured .conveying,
      binList := (lanesRecovered found s).captured .binned,
      transit := transitFor ((lanesRecovered found s).captured .conveying), spacing := none, clearance := none } := by
  have zones : (zonesRecovered found s).conveyor = (conveyorRecovered found s).conveyor :=
    (zonesRecovered_lull found s).touches.conveyor.resolve_left (by simp [zoneRoom])
  rw [conveyorRecovered, recoverConveyor, State.modConveyor_conveyor, lanesRecovered_conveyor] at zones
  simpa [recover_eq, recoverTransport] using zones

theorem conveyorRecovered_armed (found : FieldLevels) (s : State) (g : Group) :
    (conveyorRecovered found s).groupArmed g = s.groupArmed g := by
  have steady := lanesRecovered_steady found s
  refine groupArmed_of_same ?_ ?_ g
  · simp [conveyorRecovered, recoverConveyor, steady.dayArmed, recoverSupervisor]
  · simp [conveyorRecovered, recoverConveyor, steady.nightArmed, recoverSupervisor]

theorem recover_zone (found : FieldLevels) (s : State) (z : ZoneId) :
    (recover found s).zone z =
      ((s.zone z).sampled z (found.zones.get z)).delayEnded.activated (s.groupArmed (s.zone z).group) := by
  have zones := recoverZones_zone (found := found) (conveyorRecovered_calm found s) (conveyorRecovered_outside found s) z
  have zone : (conveyorRecovered found s).zone z = s.zone z := by
    simp [conveyorRecovered, recoverConveyor, lanesRecovered_zone]
  rw [zone, conveyorRecovered_armed, ← zonesRecovered_eq] at zones
  simpa [recover_eq, recoverTransport] using zones

theorem recover_sup (found : FieldLevels) (s : State) :
    (recover found s).sup = { s.sup with rails := true, phase := some .purge, phaseTimer := some 3000 } := by
  have zones : (zonesRecovered found s).sup = (conveyorRecovered found s).sup :=
    (zonesRecovered_lull found s).touches.sup.resolve_left (by simp [zoneRoom])
  have before : (conveyorRecovered found s).sup = { s.sup with rails := true } := by
    simp [conveyorRecovered, recoverConveyor, lanesRecovered_sup]
  rw [recover_eq, recoverTransport_sup, zones, before]

theorem recover_levels (found : FieldLevels) (s : State) : (recover found s).levels = { s.levels with gaugeNote := false } := by
  have zones : (zonesRecovered found s).levels = (conveyorRecovered found s).levels :=
    (zonesRecovered_lull found s).touches.levels.resolve_left (by simp [zoneRoom])
  have before : (conveyorRecovered found s).levels = s.levels := by
    simp [conveyorRecovered, recoverConveyor, (lanesRecovered_steady found s).levels, recoverSupervisor]
  rw [recover_eq, recoverTransport_levels, zones, before]

theorem recover_service (found : FieldLevels) (s : State) : (recover found s).alarm.service = false := by
  have zones := (zonesRecovered_lull found s).service.trans (conveyorRecovered_outside found s)
  simpa [recover_eq, recoverTransport] using zones

theorem recover_path (found : FieldLevels) (s : State) :
    (recover found s).path.state = .purging ∧ (recover found s).path.queue = [] := by
  simp [recover_eq, recoverTransport]

end Sys2Proof.Machine
end

section
/-! What the recovery event leaves of the part, whatever the store. -/

namespace Sys2Proof.Machine
set_option Elab.async false

variable {s t u : State} {found : FieldLevels} {c : CassetteId} {l : LaneId} {z : ZoneId}

/-! ### The key switch -/

theorem latch_key (z : ZoneId) (s : State) : (latch z s).alarm.key = s.alarm.key := by
  have alarm := congrArg AlarmUnit.key (respond_responds z s.lockdown (tripped z s)).alarm
  rw [latch_eq, State.raise_alarm]
  exact alarm

theorem latchDelayed_key (z : ZoneId) (s : State) : (latchDelayed z s).alarm.key = s.alarm.key := by
  unfold latchDelayed
  split
  · exact latch_key z s
  · rfl

theorem activateIfOpen_key (z : ZoneId) (s : State) : (activateIfOpen z s).alarm.key = s.alarm.key := by
  unfold activateIfOpen
  split
  · unfold activate
    simp only []
    split
    · exact latch_key z _
    · rfl
  · rfl

theorem recoverZones_key (found : FieldLevels) (s : State) : (recoverZones found s).alarm.key = found.key := by
  have inputs : (zonesSampled found s).alarm.key = found.key :=
    forEach_keeps (fun t : State => t.alarm.key = found.key) (reported found) (fun z t h => h) _ rfl
  have ended : (delaysEnded found s).alarm.key = found.key := by
    unfold delaysEnded
    exact forEach_keeps (fun t : State => t.alarm.key = found.key) latchDelayed
      (fun z t h => (latchDelayed_key z t).trans h) _ inputs
  rw [recoverZones_eq]
  generalize delaysEnded found s = t at ended
  exact forEach_keeps (fun t : State => t.alarm.key = found.key) activateIfOpen
    (fun z t h => (activateIfOpen_key z t).trans h) t ended

theorem recover_key (found : FieldLevels) (s : State) : (recover found s).alarm.key = found.key := by
  have zones : (zonesRecovered found s).alarm.key = found.key := by rw [zonesRecovered_eq, recoverZones_key]
  simpa [recover_eq, recoverTransport] using zones

/-! ### The sampling of retention -/

theorem sampleRetention_lost (found : FieldLevels) (s : State) (lost : found.retentionGood = false) :
    sampleRetention found s = { loseRetention found s with levels := found } := by
  simp [sampleRetention, lost]

theorem sampleRetention_custody_lost (found : FieldLevels) (s : State) (lost : found.retentionGood = false) :
    (sampleRetention found s).custody = Custody.fresh found.seated := by
  rw [sampleRetention_lost found s lost]
  simp [loseRetention]

theorem Custody.fresh_cassette (seated : Vector Bool Config.cassetteCount) (c : CassetteId) :
    (Custody.fresh seated).cassettes.get c = .fresh (seated.get c) := by
  match c with
  | 0 | 1 | 2 | 3 | 4 | 5 => rfl

theorem sampleRetention_levels (found : FieldLevels) (s : State) : (sampleRetention found s).levels = found := rfl

theorem sampleRetention_sup (found : FieldLevels) (s : State) : (sampleRetention found s).sup = s.sup := by
  cases good : found.retentionGood with
  | true => rw [sampleRetention_kept found s good]
  | false => rw [sampleRetention_lost found s good]; simp [loseRetention]

/-! ### The records at the end of the event, but for their marks -/

theorem cassette_of_unreserved {q : Cassette} (same : (t.cassette c).unreserved = q) :
    ∃ x b, (finish s t none none).cassette c = { q with reserved := x, mark := b } := by
  obtain ⟨b, record⟩ := finish_cassette_but_mark (before := s) (after := t) c
  exact ⟨(t.cassette c).reserved, b, by rw [record, ← same]; rfl⟩

theorem lane_of_unlocked {q : Lane} (same : (t.lane l).unlocked = q.unlocked) :
    ∃ k b, (finish s t none none).lane l = { q with lock := k, mark := b } := by
  obtain ⟨b, record⟩ := finish_lane_but_mark (before := s) (after := t) l
  have lock : { q.unlocked with lock := (t.lane l).lock } = t.lane l := by rw [← same]; rfl
  exact ⟨(t.lane l).lock, b, by rw [record, ← lock]; rfl⟩

theorem recovered_cassette (found : FieldLevels) (s : State) (c : CassetteId) :
    ∃ x b, (recovered found s).cassette c =
      { ((s.cassette c).unreserved.sessionEnded found.gaugeNote).seatChecked (found.seated.get c) with reserved := x, mark := b } := by
  rw [recovered]
  exact cassette_of_unreserved (recover_cassette found s c)

theorem recovered_lane (found : FieldLevels) (s : State) (l : LaneId) :
    ∃ k b, (recovered found s).lane l = { (lanesRecovered found s).lane l with lock := k, mark := b } := by
  rw [recovered]
  exact lane_of_unlocked (recover_lane found s l)

theorem recovered_zone (found : FieldLevels) (s : State) (z : ZoneId) :
    ∃ b, (recovered found s).zone z =
      { ((s.zone z).sampled z (found.zones.get z)).delayEnded.activated (s.groupArmed (s.zone z).group) with mark := b } := by
  obtain ⟨b, record⟩ := finish_zone_but_mark (before := s) (after := recover found s) z
  exact ⟨b, by rw [recovered, record, recover_zone]⟩

theorem Zone.recovered_input (armed : Bool) (z : ZoneId) (input : ZoneInput) (r : Zone) :
    ((r.sampled z input).delayEnded.activated armed).input = input := by
  unfold Zone.activated Zone.delayEnded
  (repeat' split) <;> rfl

/-- What the recovery event leaves of the part, with retention kept or lost (R187). -/
theorem settle_leaves (phase : s.sup.phase = some .settle) :
    Yields (.settleExpiry found) s fun t => t.path.state = .purging ∧
      t.sup = { s.sup with rails := true, phase := some .purge, phaseTimer := some 3000 } ∧
      t.alarm.service = false ∧ t.alarm.key = found.key ∧ t.levels = { found with gaugeNote := false } ∧
      t.path.queue = [] ∧
      (∀ l, (t.lane l).session = .closed) ∧ (∀ c, (t.cassette c).leveling = none ∧ (t.cassette c).shutter = .shut ∧
        (found.seated.get c = false → (t.cassette c).state = .absent)) ∧ ∀ z,
          (t.zone z).input = found.zones.get z := by
  refine settle_yields phase ?_
  have path := recover_path found (sampleRetention found s)
  have calm := recover_calm found (sampleRetention found s)
  refine ⟨?_, ?_, ?_, ?_, ?_, ?_, fun l => ?_, fun c => ?_, fun z => ?_⟩
  · rw [recovered, finish_path, path.1]
  · rw [recovered, finish_sup, recover_sup, sampleRetention_sup]
  · rw [recovered, finish_alarm, recover_service]
  · rw [recovered, finish_alarm, recover_key]
  · rw [recovered, finish_levels, recover_levels, sampleRetention_levels]
  · rw [recovered, finish_path, path.2]
  · obtain ⟨b, record⟩ := finish_lane_but_mark (before := sampleRetention found s) (after := recover found (sampleRetention found s)) l
    rw [recovered, record]
    generalize recover found (sampleRetention found s) = t at calm
    exact calm.session l
  · obtain ⟨x, b, record⟩ := recovered_cassette found (sampleRetention found s) c
    rw [record]
    refine ⟨?_, Cassette.seatChecked_shutter _ _, fun out => by simp [Cassette.seatChecked, out, Cassette.removed]⟩
    exact (Cassette.seatChecked_leveling _ _).trans (Cassette.sessionEnded_leveling _ _)
  · obtain ⟨b, record⟩ := recovered_zone found (sampleRetention found s) z
    rw [record]
    exact Zone.recovered_input _ _ _ _

/-- Outside phase SETTLE the event has no effect. -/
theorem settle_elsewhere (phase : s.sup.phase ≠ some .settle) : Yields (.settleExpiry found) s fun t => t = s :=
  yields_of (t := s) (by simp only [exec, execSettleExpiry, if_neg phase]) rfl

/-- Where the second law held no reservation is left (R31, R75). -/
theorem settle_frees (phase : s.sup.phase = some .settle) (law : SecondLaw s) :
    Yields (.settleExpiry found) s fun t => ∀ c, (t.cassette c).reserved = 0 := by
  refine settle_yields phase fun c => ?_
  obtain ⟨b, record⟩ := finish_cassette_but_mark (before := sampleRetention found s) (after := recover found (sampleRetention found s)) c
  rw [recovered, record]
  refine Eq.trans ?_ (recover_reserved (found := found) (s := sampleRetention found s) (c := c) ?_)
  · generalize recover found (sampleRetention found s) = t
    rfl
  cases good : found.retentionGood with
  | true =>
    rw [sampleRetention_kept found s good]
    exact (law c).1.le
  | false =>
    rw [State.cassette, sampleRetention_custody_lost found s good, Custody.fresh_cassette]
    exact Nat.zero_le _

end Sys2Proof.Machine
end

section
/-! What the recovery event leaves of the cassettes, the zones, the lanes and the conveyor, with retention kept. -/

namespace Sys2Proof.Machine
set_option Elab.async false

variable {s t w : State} {found : FieldLevels} {c : CassetteId} {l : LaneId} {z : ZoneId}

/-- The records and the working state that recovery takes up from a sampling with retention good (R18). -/
structure Sampled (s w : State) : Prop where
  cassette : ∀ c, w.cassette c = s.cassette c
  order : ∀ i, w.order i = s.order i
  lane : ∀ l, w.lane l = s.lane l
  zone : ∀ z, w.zone z = s.zone z
  armed : ∀ g, w.groupArmed g = s.groupArmed g
  envelopes : w.custody.envelopes = s.custody.envelopes
  conveyor : w.conveyor = s.conveyor
  path : w.path = s.path
  sup : w.sup = s.sup

theorem Sampled.gate (k : Sampled s w) (l : LaneId) : w.gate l = s.gate l := by rw [State.gate, k.envelopes, State.gate]

theorem Sampled.inHead (k : Sampled s w) (i : OrderSlot) : w.inHead i = s.inHead i := inHead_of_lanes k.lane i

theorem sampleRetention_sampled (good : found.retentionGood = true) : Sampled s (sampleRetention found s) := by
  rw [sampleRetention_kept found s good]
  refine ⟨fun _ => rfl, fun _ => rfl, fun _ => rfl, fun _ => rfl, fun g => ?_, rfl, rfl, rfl, rfl⟩
  cases g <;> rfl

/-- With retention kept the event ends as recovery leaves the store that stood. -/
theorem settle_kept {P : State → Prop} (phase : s.sup.phase = some .settle) (good : found.retentionGood = true)
    (ends : ∀ w, Sampled s w → P (recovered found w)) : Yields (.settleExpiry found) s P :=
  settle_yields phase (ends _ (sampleRetention_sampled good))

/-! ### Cassettes -/

/-- A note at the gauge is spent as a test note (R41). -/
theorem settle_spends {v : Leveling} (phase : s.sup.phase = some .settle) (good : found.retentionGood = true)
    (note : found.gaugeNote = true) (session : (s.cassette c).leveling = some v) (held : v.phase ≠ .waiting) :
    Yields (.settleExpiry found) s fun t => (t.cassette c).current = (s.cassette c).current - 1 ∧
      (t.cassette c).testNotes = (s.cassette c).testNotes + 1 ∧ (t.cassette c).mark = true := by
  refine settle_kept phase good fun w from_s => ?_
  have ended := Cassette.sessionEnded_of_some (r := (w.cassette c).unreserved) (v := v)
    (by rw [from_s.cassette]; exact session) found.gaugeNote
  rw [if_pos ⟨note, held⟩] at ended
  have current (r : Cassette) : (r.seatChecked (found.seated.get c)).current = r.current := by
    unfold Cassette.seatChecked; (repeat' split) <;> rfl
  have tests (r : Cassette) : (r.seatChecked (found.seated.get c)).testNotes = r.testNotes := by
    unfold Cassette.seatChecked; (repeat' split) <;> rfl
  have after := congrArg Cassette.testNotes (recover_cassette found w c)
  rw [tests, ended] at after
  have marked : ((recovered found w).cassette c).mark = true := by
    rw [recovered]
    refine finish_cassette_marked c Cassette.testNotes (fun _ => rfl) ?_
    generalize recover found w = t at after
    exact fun same => Nat.succ_ne_self _ (after.symm.trans same)
  obtain ⟨x, b, record⟩ := recovered_cassette found w c
  refine ⟨?_, ?_, marked⟩
  · rw [record, ← from_s.cassette]
    exact (current _).trans (by rw [ended]; rfl)
  · rw [record, ← from_s.cassette]
    exact (tests _).trans (by rw [ended]; rfl)

/-- An ABSENT slot that is found seated is UNCOUNTED (R22). -/
theorem settle_seats (phase : s.sup.phase = some .settle) (good : found.retentionGood = true)
    (seated : found.seated.get c = true) (absent : (s.cassette c).state = .absent) (idle : (s.cassette c).leveling = none) :
    Yields (.settleExpiry found) s fun t => t.cassette c = { s.cassette c with
      state := .uncounted, value := 0, shutter := .shut, reserved := (t.cassette c).reserved, mark := true } := by
  refine settle_kept phase good fun w from_s => ?_
  have ended : (w.cassette c).unreserved.sessionEnded found.gaugeNote = (s.cassette c).unreserved := by
    rw [from_s.cassette]
    exact Cassette.sessionEnded_of_none (r := (s.cassette c).unreserved) idle found.gaugeNote
  have checked : (s.cassette c).unreserved.seatChecked (found.seated.get c) = (s.cassette c).unreserved.seatedNow := by
    rw [Cassette.seatChecked, if_pos seated, if_pos]
    exact absent
  have after := congrArg Cassette.state (recover_cassette found w c)
  rw [ended, checked] at after
  have marked : ((recovered found w).cassette c).mark = true := by
    rw [recovered]
    refine finish_cassette_marked c Cassette.state (fun _ => rfl) ?_
    rw [from_s.cassette, absent]
    generalize recover found w = t at after
    exact fun same => CassetteState.noConfusion (after.symm.trans same)
  obtain ⟨x, b, record⟩ := recovered_cassette found w c
  rw [ended, checked] at record
  rw [record] at marked ⊢
  rw [show b = true from marked]
  rfl

/-! ### Zones -/

theorem recover_trips (found : FieldLevels) (s : State) :
    (recover found s).custody.tripList = (zonesRecovered found s).custody.tripList := by
  rw [recover_eq]
  generalize zonesRecovered found s = t
  rfl

theorem conveyorRecovered_zone (found : FieldLevels) (s : State) (z : ZoneId) :
    (conveyorRecovered found s).zone z = s.zone z := by
  simp [conveyorRecovered, recoverConveyor, lanesRecovered_zone]

/-- A zone that latches in step 7 is on the trip list at the end of the event. -/
theorem recovered_trips (latches : ((s.zone z).sampled z (found.zones.get z)).state = .delay ∨
    (((s.zone z).sampled z (found.zones.get z)).opens (s.groupArmed (s.zone z).group) = true ∧ (s.zone z).entryDelay = 0)) :
    z ∈ (recovered found s).custody.tripList := by
  rw [recovered, finish_tripList, recover_trips, zonesRecovered_eq]
  refine recoverZones_trips (conveyorRecovered_calm found s) (conveyorRecovered_outside found s) z ?_
  rw [conveyorRecovered_zone, conveyorRecovered_armed]
  exact latches

theorem recovered_delay (opens : ((s.zone z).sampled z (found.zones.get z)).opens (s.groupArmed (s.zone z).group) = true)
    (delay : (s.zone z).entryDelay ≠ 0) :
    (recovered found s).alarm.delays.get z = some ((s.zone z).entryDelay * 1000) := by
  have runs := recoverZones_delay (found := found) (conveyorRecovered_calm found s) (conveyorRecovered_outside found s) z
  rw [conveyorRecovered_zone, conveyorRecovered_armed, ← zonesRecovered_eq] at runs
  have same : (recover found s).alarm = (zonesRecovered found s).alarm := by
    rw [recover_eq]
    generalize zonesRecovered found s = t
    rfl
  rw [recovered, finish_alarm, same]
  exact runs opens delay

theorem recovered_zone_marked (moved : (((s.zone z).sampled z (found.zones.get z)).delayEnded.activated
    (s.groupArmed (s.zone z).group)).state ≠ (s.zone z).state) : ((recovered found s).zone z).mark = true := by
  rw [recovered]
  refine finish_zone_marked z ?_
  rwa [recover_zone]

theorem Zone.sampled_delay {r : Zone} (delay : r.state = .delay) (z : ZoneId) (input : ZoneInput) :
    (r.sampled z input).state = .delay := by
  simp [Zone.sampled, Zone.endService, Zone.endServiceBypass, Zone.endManualBypass, delay]

/-- A zone that stands NORMAL, or by the service bypass alone not, stands NORMAL with its first report (R159). -/
theorem Zone.sampled_normal {r : Zone} {z : ZoneId} (unbypassed : r.manualBypass = false)
    (normal : r.state = .normal ∨ (r.state = .bypassed ∧ serviceKind z = true)) (input : ZoneInput) :
    (r.sampled z input).state = .normal ∧ (r.sampled z input).manualBypass = false := by
  rcases normal with normal | ⟨bypassed, kind⟩
  · simp [Zone.sampled, Zone.endService, Zone.endServiceBypass, Zone.endManualBypass, normal, unbypassed]
  · simp [Zone.sampled, Zone.endService, Zone.endServiceBypass, Zone.endManualBypass, bypassed, kind, unbypassed]

/-- A zone in DELAY latches (R159). -/
theorem settle_latches (phase : s.sup.phase = some .settle) (good : found.retentionGood = true)
    (delay : (s.zone z).state = .delay) :
    Yields (.settleExpiry found) s fun t => (t.zone z).state = .latched ∧ z ∈ t.custody.tripList ∧
      (t.zone z).input = found.zones.get z ∧ (t.zone z).mark = true := by
  refine settle_kept phase good fun w from_s => ?_
  have stood : ((w.zone z).sampled z (found.zones.get z)).state = .delay := Zone.sampled_delay (by rwa [from_s.zone]) _ _
  have latched : (((w.zone z).sampled z (found.zones.get z)).delayEnded.activated
      (w.groupArmed (w.zone z).group)).state = .latched := by
    simp [Zone.delayEnded, stood, Zone.activated, Zone.opens]
  have marked : ((recovered found w).zone z).mark = true := recovered_zone_marked (by rw [latched, from_s.zone, delay]; nofun)
  obtain ⟨b, record⟩ := recovered_zone found w z
  refine ⟨?_, recovered_trips (.inl stood), ?_, marked⟩
  · rw [record]; exact latched
  · rw [record]; exact Zone.recovered_input _ _ _ _

/-- An open armed zone is activated (R147, R159). -/
theorem settle_activates (phase : s.sup.phase = some .settle) (good : found.retentionGood = true)
    (normal : (s.zone z).state = .normal ∨ ((s.zone z).state = .bypassed ∧ serviceKind z = true))
    (unbypassed : (s.zone z).manualBypass = false) (armed : s.groupArmed (s.zone z).group = true)
    (active : found.zones.get z = .active) :
    Yields (.settleExpiry found) s fun t => (t.zone z).tripCount = bump (s.zone z).tripCount ∧ (t.zone z).mark = true ∧
      (if (s.zone z).entryDelay = 0
        then (t.zone z).state = .latched ∧ z ∈ t.custody.tripList
        else (t.zone z).state = .delay ∧ t.alarm.delays.get z = some ((s.zone z).entryDelay * 1000)) := by
  refine settle_kept phase good fun w from_s => ?_
  obtain ⟨stands, free⟩ := Zone.sampled_normal (r := w.zone z) (z := z) (by rwa [from_s.zone]) (by rwa [from_s.zone])
    (found.zones.get z)
  have armed' : w.groupArmed (w.zone z).group = true := by rw [from_s.armed, from_s.zone, armed]
  have opens : ((w.zone z).sampled z (found.zones.get z)).opens (w.groupArmed (w.zone z).group) = true := by
    have input : ((w.zone z).sampled z (found.zones.get z)).input = .active := active
    simp [Zone.opens, stands, free, armed', input]
  have record : ((w.zone z).sampled z (found.zones.get z)).delayEnded.activated (w.groupArmed (w.zone z).group) =
      { (w.zone z).sampled z (found.zones.get z) with
        tripCount := bump (w.zone z).tripCount, state := if (w.zone z).entryDelay = 0 then .latched else .delay } := by
    rw [Zone.delayEnded, if_neg (by simp [stands]), Zone.activated, if_pos opens]
    rfl
  have marked : ((recovered found w).zone z).mark = true := recovered_zone_marked (by
    rw [record, from_s.zone]
    rcases normal with normal | ⟨bypassed, _⟩
    · rw [normal]; split <;> nofun
    · rw [bypassed]; split <;> nofun)
  have lists := recovered_trips (found := found) (s := w) (z := z)
  have runs := recovered_delay opens
  obtain ⟨b, ends⟩ := recovered_zone found w z
  rw [record, from_s.zone] at ends
  rw [from_s.zone] at lists runs
  refine ⟨by rw [ends], marked, ?_⟩
  split
  · next now => exact ⟨by rw [ends]; exact if_pos now, lists (.inr ⟨by rwa [from_s.zone] at opens, now⟩)⟩
  · next delay => exact ⟨by rw [ends]; exact if_neg delay, runs delay⟩

/-! ### Lanes -/

theorem Lane.decided_load (e : EnvelopeReport) (full : Bool) (r : Lane) : (r.decided e full).load = r.load := by
  unfold Lane.decided
  (repeat' split) <;> rfl

theorem Lane.decided_head (e : EnvelopeReport) (full : Bool) (r : Lane) : (r.decided e full).head = r.head := by
  unfold Lane.decided
  (repeat' split) <;> rfl

theorem Lane.decided_claim (e : EnvelopeReport) (full : Bool) (r : Lane) :
    (r.decided e full).claim = true ↔ r.claim = true ∧ (e = .oversize ∨ (e = .present ∧ full = true)) := by
  unfold Lane.decided
  cases claim : r.claim <;> cases e <;> cases full <;> simp [claim]

/-- The record in a gate at the end of an event, but for its mark. -/
theorem finish_gate (before after : State) (l : LaneId) :
    (finish before after none none).gate l =
      (after.gate l).map fun e => if envelopeMoved before none e then { e with mark := true } else e := by
  have same : ((fun e : Envelope => e.state == .intake && e.lane == l) ∘
      fun e => if envelopeMoved before none e then { e with mark := true } else e) = fun e => e.state == .intake && e.lane == l := by
    funext e
    dsimp only [Function.comp]
    split <;> rfl
  rw [State.gate, finish_envelopes, List.find?_map, same, State.gate]

/-- A returned envelope that step 5 finds stands in the gate at the end of the event (R112). -/
theorem recovered_gate {n clock : Nat} (gate : (lanesRecovered found s).gate l = some (intakeRecord l n clock)) :
    (recovered found s).gate l = some (intakeRecord l n clock) := by
  have after : (recover found s).gate l = some (intakeRecord l n clock) := by
    rw [State.gate, recover_envelopes]
    exact gate
  rw [recovered, finish_gate, after, Option.map_some]
  split <;> rfl

/-- A drawer at its inner limit is CLOSED, its claim decided by the envelope sensor (R112, R120). -/
theorem settle_homes (phase : s.sup.phase = some .settle) (good : found.retentionGood = true)
    (runs : (s.lane l).drawer ≠ .jammed) (limit : found.limits.get l = .inner) :
    Yields (.settleExpiry found) s fun t => (t.lane l).load = none ∧
      (t.lane l).drawer = (if (s.lane l).claim = true ∧ found.envelopes.get l = .oversize then .extending else .closed) ∧
      ((t.lane l).claim = true ↔ (s.lane l).claim = true ∧
        (found.envelopes.get l = .oversize ∨ (found.envelopes.get l = .present ∧ (s.gate l).isSome = true))) ∧
      ((s.lane l).claim = true → found.envelopes.get l = .present → s.gate l = none →
        (t.gate l).any (fun e => e.acceptedAt == s.clock && e.binPosition.isNone && e.declared.isNone &&
          e.reference.isNone && e.mark) = true) := by
  refine settle_kept phase good fun w from_s => ?_
  have still : (w.lane l).drawer ≠ .jammed := by rwa [from_s.lane]
  have home := lanesRecovered_lane_home still limit
  obtain ⟨k, b, record⟩ := recovered_lane found w l
  rw [home, from_s.lane, from_s.gate] at record
  refine ⟨?_, ?_, ?_, fun claim present empty => ?_⟩
  · rw [record]; exact Lane.decided_load _ _ _
  · rw [record]; exact Lane.decided_drawer _ _ _
  · rw [record]; exact Lane.decided_claim _ _ _
  · obtain ⟨n, gate⟩ := lanesRecovered_gate (by rw [from_s.lane, claim]) still limit present (by rw [from_s.gate, empty])
    rw [clock_of_sup from_s.sup] at gate
    rw [recovered_gate gate]
    simp [intakeRecord]

/-- A drawer that is found away from its inner limit is driven home (R120). -/
theorem settle_drives (phase : s.sup.phase = some .settle) (good : found.retentionGood = true)
    (runs : (s.lane l).drawer ≠ .jammed) (limit : found.limits.get l ≠ .inner) :
    Yields (.settleExpiry found) s fun t => (t.lane l).drawer = .retracting ∧ (t.laneWork l).travel = some 4000 ∧
      (t.lane l).load = (s.lane l).load ∧ (t.lane l).claim = (s.lane l).claim := by
  refine settle_kept phase good fun w from_s => ?_
  have still : (w.lane l).drawer ≠ .jammed := by rwa [from_s.lane]
  have away := lanesRecovered_lane_away still limit
  have travel := lanesRecovered_work_away still limit
  obtain ⟨k, b, record⟩ := recovered_lane found w l
  rw [away, from_s.lane] at record
  obtain ⟨same, _, _⟩ := recover_work found w l
  refine ⟨?_, ?_, ?_, ?_⟩
  · rw [record]; rfl
  · rw [recovered, finish_laneWork, same, travel]; rfl
  · rw [record]; rfl
  · rw [record]; rfl

/-- A JAMMED drawer stays so and takes its limit note (R120). -/
theorem settle_notes (phase : s.sup.phase = some .settle) (good : found.retentionGood = true)
    (jammed : (s.lane l).drawer = .jammed) :
    Yields (.settleExpiry found) s fun t => (t.lane l).drawer = .jammed ∧ (t.laneWork l).jamNote =
      if found.limits.get l = .inner then some .inner else if found.limits.get l = .outer then some .outer else none := by
  refine settle_kept phase good fun w from_s => ?_
  have still : (w.lane l).drawer = .jammed := by rw [from_s.lane, jammed]
  have stays := lanesRecovered_lane_jammed (found := found) still
  have note := lanesRecovered_work_jammed (found := found) still
  obtain ⟨k, b, record⟩ := recovered_lane found w l
  rw [stays, from_s.lane] at record
  refine ⟨by rw [record]; exact jammed, ?_⟩
  obtain ⟨_, same, _⟩ := recover_work found w l
  rw [recovered, finish_laneWork, same, note]
  cases found.limits.get l <;> rfl

/-! ### The conveyor -/

theorem transitFor_captured (p : Envelope → Bool) (table : List Envelope) :
    transitFor ((table.filter p).map (·.capture)) = if table.any p then some 8000 else none := by
  have empty : ((table.filter p).map (·.capture)).isEmpty = !table.any p := by
    rw [Bool.eq_iff_iff]
    simp [List.filter_eq_nil_iff]
  rw [transitFor, empty]
  cases table.any p <;> rfl

/-- The conveyor list and the bin list are rebuilt from the records, and the timers are reset (R187). -/
theorem settle_rebuilds (phase : s.sup.phase = some .settle) (good : found.retentionGood = true) :
    Yields (.settleExpiry found) s fun t => t.conveyor = { s.conveyor with
      state := .running, list := (s.custody.envelopes.filter fun e => e.state == .conveying).map (·.capture)
      binList := (s.custody.envelopes.filter fun e => e.state == .binned).map (·.capture)
      transit := if s.custody.envelopes.any (fun e => e.state == .conveying) then some 8000 else none
      spacing := none, clearance := none } := by
  refine settle_kept phase good fun w from_s => ?_
  obtain ⟨new, table, gates⟩ := lanesRecovered_envelopes found w
  have captured {st : EnvelopeState} (travels : EnvelopeState.intake ≠ st) :
      (lanesRecovered found w).captured st = (s.custody.envelopes.filter fun e => e.state == st).map (·.capture) := by
    have none_new : new.filter (fun e => e.state == st) = [] :=
      List.filter_eq_nil_iff.mpr fun e he => by rw [gates e he]; simpa using travels
    rw [State.captured, table, List.filter_append, none_new, List.append_nil, from_s.envelopes]
  rw [recovered, finish_conveyor, recover_conveyor, captured (by nofun), captured (by nofun), from_s.conveyor,
    transitFor_captured]

end Sys2Proof.Machine
end

section
/-! What the recovery event leaves of the orders, with retention kept. -/

namespace Sys2Proof.Machine
set_option Elab.async false

variable {s t w : State} {found : FieldLevels} {i : OrderSlot} {o p q : Order} {l : LaneId} {h : Option Claim}

theorem Yields.and {c : Instr} {P Q : State → Prop} (hp : Yields c s P) (hq : Yields c s Q) : Yields c s fun t => P t ∧ Q t := by
  unfold Yields at *
  cases answer : exec c s with
  | next t => rw [answer] at hp hq; exact ⟨hp, hq⟩
  | fault f => rw [answer] at hp; exact hp
  | refused r => rw [answer] at hp; exact hp

theorem Yields.mono {c : Instr} {P Q : State → Prop} (hp : Yields c s P) (imp : ∀ t, P t → Q t) : Yields c s Q := by
  unfold Yields at *
  cases answer : exec c s with
  | next t => rw [answer] at hp; exact imp t hp
  | fault f => rw [answer] at hp; exact hp
  | refused r => rw [answer] at hp; exact hp

/-! ### The marks of the orders -/

theorem recovered_order_changed (order : s.order i = some o) (ends : (recover found s).order i = some q) (mark : q.mark = o.mark) :
    (recovered found s).order i = some { q with mark := q.mark || decide (q ≠ o) } := by
  rw [recovered]
  exact finish_order_changed order ends mark

theorem recovered_order_moved (order : s.order i = some o) (ends : (recover found s).order i = some q) (mark : q.mark = o.mark)
    (moved : q.state ≠ o.state) : (recovered found s).order i = some { q with mark := true } := by
  rw [recovered]
  exact finish_order_moved order ends mark moved

theorem recovered_unplaced (out : i ∉ (recover found s).custody.placement) : i ∉ (recovered found s).custody.placement := by
  rwa [recovered, finish_placement]

/-! ### Orders in no lane -/

/-- Step 2 leaves an order at rest while none picks. -/
theorem ordersRecovered_rests (idle : s.path.state ≠ .picking) (order : s.order i = some o) :
    Rests i (o.powerLost (s.inHead i)) (ordersRecovered s).path.holder (ordersRecovered s) where
  order := by rw [ordersRecovered_order, order]; rfl
  path := by rwa [ordersRecovered_path_state]
  holder := rfl

theorem not_inHead (clear : ∀ l, (s.lane l).head ≠ some i) : s.inHead i = false := by
  rw [← Bool.not_eq_true, State.inHead_iff]
  exact fun ⟨l, head⟩ => clear l head

/-- An order in no lane stands at the end of recovery as step 2 left it. -/
theorem recover_order_clear (idle : s.path.state ≠ .picking) (order : s.order i = some o) (clear : ∀ l, (s.lane l).Clear i)
    (power : o.powerLost false = q) (moved : q.state ≠ .held ∧ q.state ≠ .queued) (unstaged : q.state ≠ .staged) :
    (recover found s).order i = some q ∧ (recover found s).path.holder = (ordersRecovered s).path.holder := by
  have rests := ordersRecovered_rests idle order
  rw [not_inHead fun l => (clear l).1, power] at rests
  exact recover_rests (lanesRecovered_rests (storeRecovered_rests rests moved) clear) unstaged

/-- A HELD or QUEUED order is CANCELLED with reason POWER (R75). -/
theorem settle_cancels (phase : s.sup.phase = some .settle) (good : found.retentionGood = true) (free : s.path.state = .free)
    (order : s.order i = some o) (waits : o.state = .held ∨ o.state = .queued) (clear : ∀ l, (s.lane l).Clear i) :
    Yields (.settleExpiry found) s fun t => t.order i = some { o with
      state := .cancelled, reason := some .power, holdDeadline := none, presentDeadline := none, mark := true } := by
  refine settle_kept phase good fun w from_s => ?_
  have mine : w.order i = some o := by rw [from_s.order, order]
  have power : o.powerLost false =
      { o with state := .cancelled, reason := some .power, holdDeadline := none, presentDeadline := none } := by
    rcases waits with state | state <;> simp only [Order.powerLost, state]
  obtain ⟨ends, _⟩ := recover_order_clear (found := found) (by rw [from_s.path, free]; nofun) mine
    (fun l => by rw [from_s.lane]; exact clear l) power (by simp) (by simp)
  refine recovered_order_moved mine ends rfl ?_
  rcases waits with state | state <;> rw [state] <;> nofun

/-- An order with notes on the transport is sent back, or has FAILED without an accepted note (R68, R75). -/
theorem settle_sends_back (phase : s.sup.phase = some .settle) (good : found.retentionGood = true) (free : s.path.state = .free)
    (order : s.order i = some o) (moves : o.state = .picking ∨ o.state = .routing ∨ o.state = .aborting)
    (clear : ∀ l, (s.lane l).Clear i) :
    Yields (.settleExpiry found) s fun t => if o.acceptedTotal = 0
      then t.order i = some { o with
          state := .failed, reason := some .power, unresolved := 0, holdDeadline := none, presentDeadline := none,
            mark := true } ∧
        i ∉ t.custody.placement
      else (let q : Order := { o with state := .aborting, reason := some .power }
        t.order i = some { q with mark := q.mark || decide (q ≠ o) }) ∧
        ((∀ j, j ≠ i → (s.order j).any (fun p => p.acceptedTotal != 0 &&
            (p.state == .picking || p.state == .routing || (p.state == .aborting && !s.inHead j))) = false) →
              t.path.holder = some (.order i)) := by
  refine settle_kept phase good fun w from_s => ?_
  have mine : w.order i = some o := by rw [from_s.order, order]
  have away : ∀ l, (w.lane l).Clear i := fun l => by rw [from_s.lane]; exact clear l
  have outside : w.inHead i = false := not_inHead fun l => (away l).1
  have power : o.powerLost false = o.sentBack := by
    rcases moves with state | state | state <;> simp [Order.powerLost, state]
  have sent : o.sentBack.state = .failed ∨ o.sentBack.state = .aborting := by
    unfold Order.sentBack
    split
    · exact .inl rfl
    · exact .inr rfl
  obtain ⟨ends, holder⟩ := recover_order_clear (found := found) (by rw [from_s.path, free]; nofun) mine away power
    (by rcases sent with e | e <;> simp [e]) (by rcases sent with e | e <;> simp [e])
  split
  · next none_accepted =>
    rw [Order.sentBack, if_pos none_accepted] at ends power
    have live : o.state.terminal = false := by rcases moves with e | e | e <;> rw [e] <;> rfl
    refine ⟨recovered_order_moved mine ends rfl ?_, recovered_unplaced ?_⟩
    · rcases moves with e | e | e <;> rw [e] <;> nofun
    · exact (ordersRecovered_keeps_rest found w).unplaced
        (ordersRecovered_unplaced mine live (by rw [outside, power]; rfl))
  · next some_accepted =>
    rw [Order.sentBack, if_neg some_accepted] at ends
    refine ⟨recovered_order_changed mine ends rfl, fun alone => ?_⟩
    have purges : o.purges (w.inHead i) = true := by
      rcases moves with e | e | e <;> simp [Order.purges, some_accepted, e, outside]
    rw [recovered, finish_path, holder]
    refine ordersRecovered_holder mine purges fun j apart => ?_
    rw [from_s.order, from_s.inHead]
    exact alone j apart

/-! ### Orders in a head -/

theorem recoverLane_head (found : FieldLevels) (l : LaneId) (s : State) : ((recoverLane found l s).lane l).head = (s.lane l).head := by
  by_cases runs : (s.lane l).drawer = .jammed
  · rw [recoverLane_lane_jammed runs]; rfl
  · by_cases limit : found.limits.get l = .inner
    · rw [recoverLane_lane_home runs limit, Lane.decided_head]; rfl
    · rw [recoverLane_lane_away runs limit]; rfl

theorem lanesRecovered_head (found : FieldLevels) (l : LaneId) (s : State) :
    ((lanesRecovered found s).lane l).head = (s.lane l).head :=
  lanesRecovered_turn (Q := fun t => (t.lane l).head = (s.lane l).head) l
    (fun t lane _ _ => by rw [recoverLane_head, lane])
    fun k t apart h => by rw [recoverLane_lane_other (Ne.symm apart), h]

theorem endRecall_work (l k : LaneId) (s : State) : (endRecall l s).laneWork k = s.laneWork k := by
  unfold endRecall
  split <;> rfl

theorem takeEnvelope_dump (l k : LaneId) (e : EnvelopeReport) (s : State) :
    ((takeEnvelope l e s).laneWork k).dump = (s.laneWork k).dump := by
  have drive : ((driveDrawer l .extending s).laneWork k).dump = (s.laneWork k).dump := by
    rw [driveDrawer, State.modWork_laneWork]
    split <;> rfl
  unfold takeEnvelope
  (repeat' split) <;> first | exact drive | rfl

theorem recoverDrawer_dump (found : FieldLevels) (l : LaneId) (s : State) :
    ((recoverDrawer found l s).laneWork l).dump = (s.laneWork l).dump := by
  have home : ((endRecall l (standDrawer l .closed s)).laneWork l).dump = (s.laneWork l).dump := by
    rw [endRecall_work, standDrawer, State.modWork_laneWork, if_pos rfl]
    rfl
  unfold recoverDrawer
  split
  · simp
  · simp only []
    split
    · exact (takeEnvelope_dump l l _ _).trans home
    · exact home
  · rw [bringHome_work]

theorem recoverLane_dump (found : FieldLevels) (head : (s.lane l).head = some i) :
    ((recoverLane found l s).laneWork l).dump = some routeLimit := by
  rw [recoverLane_eq, recoverDrawer_dump, headRecovered_work, head]
  rfl

theorem lanesRecovered_dump (found : FieldLevels) (head : (s.lane l).head = some i) :
    ((lanesRecovered found s).laneWork l).dump = some routeLimit :=
  lanesRecovered_turn (Q := fun t => (t.laneWork l).dump = some routeLimit) l
    (fun t lane _ _ => recoverLane_dump found (by rw [lane, head]))
    fun k t apart h => by rw [recoverLane_work_other (Ne.symm apart), h]

/-- The head dump of a lane takes its order to ABORTING with reason POWER (R113, R120). -/
theorem headRecovered_rests_in (r : Rests i o h s) (head : (s.lane l).head = some i) :
    Rests i { o with state := .aborting, reason := some .power } h (headRecovered l s) := by
  have there : (((s.modLane l fun r => { r with session := .closed }).modWork l fun _ => LaneWork.fresh).lane l).head = some i := by
    simp [head]
  unfold headRecovered recoverHead
  rw [there]
  refine ⟨?_, r.path, r.holder⟩
  have order := r.order
  simp [dumpHead, order]

/-- An order in a head alone goes ABORTING, and its dump begins (R113, R120). -/
theorem settle_dumps (phase : s.sup.phase = some .settle) (good : found.retentionGood = true) (free : s.path.state = .free)
    (head : (s.lane l).head = some i) (order : s.order i = some o) (stands : o.state = .staged ∨ o.state = .aborting)
    (alone : ∀ k, (k ≠ l → (s.lane k).head ≠ some i) ∧ (s.lane k).load ≠ some i) :
    Yields (.settleExpiry found) s fun t => (t.lane l).head = some i ∧ (t.laneWork l).dump = some 3000 ∧
      let q : Order := { o with state := .aborting, reason := some .power }
      t.order i = some { q with mark := q.mark || decide (q ≠ o) } := by
  refine settle_kept phase good fun w from_s => ?_
  have mine : w.order i = some o := by rw [from_s.order, order]
  have there : (w.lane l).head = some i := by rw [from_s.lane, head]
  have inHead : w.inHead i = true := (State.inHead_iff w i).mpr ⟨l, there⟩
  have rests := ordersRecovered_rests (by rw [from_s.path, free]; nofun) mine
  have power : o.powerLost true = o := by rcases stands with e | e <;> simp [Order.powerLost, e]
  rw [inHead, power] at rests
  have store : Rests i o (ordersRecovered w).path.holder (storeRecovered found w) :=
    storeRecovered_rests rests (by rcases stands with e | e <;> simp [e])
  have lanes := lanesRecovered_rests_in (l := l) store (p := { o with state := .aborting, reason := some .power })
    (fun k apart => by rw [from_s.lane]; exact ⟨(alone k).1 apart, (alone k).2⟩) fun t r lane => by
      rw [recoverLane_eq]
      refine recoverDrawer_rests (headRecovered_rests_in r (by rw [lane, there])) ?_
      rw [headRecovered_lane, lane, from_s.lane]
      exact (alone l).2
  obtain ⟨ends, _⟩ := recover_rests lanes (by simp)
  obtain ⟨k, b, record⟩ := recovered_lane found w l
  obtain ⟨_, _, dump⟩ := recover_work found w l
  rw [lanesRecovered_dump found there] at dump
  refine ⟨?_, ?_, recovered_order_changed mine ends rfl⟩
  · have still := lanesRecovered_head found l w
    generalize (lanesRecovered found w).lane l = r at still record
    rw [record, ← there, ← still]
  · rw [recovered, finish_laneWork]
    rcases dump with same | begun
    · rw [same]; rfl
    · rw [begun]; rfl

/-! ### Orders in a drawer -/

/-- An order in one drawer alone comes to step 5 as it was. -/
theorem storeRecovered_rests_in_drawer (idle : s.path.state ≠ .picking) (order : s.order i = some o)
    (stands : o.state = .staged ∨ o.state = .presented ∨ o.state = .recalling) :
    Rests i o (ordersRecovered s).path.holder (storeRecovered found s) := by
  have rests := ordersRecovered_rests idle order
  have power : o.powerLost (s.inHead i) = o := by rcases stands with e | e | e <;> simp [Order.powerLost, e]
  rw [power] at rests
  exact storeRecovered_rests rests (by rcases stands with e | e | e <;> simp [e])

/-- A drawer that is driven home takes its order to RECALLING with no reason (R120, R187). -/
theorem recoverLane_rests_away (r : Rests i o h s) (head : (s.lane l).head ≠ some i) (load : (s.lane l).load = some i)
    (runs : (s.lane l).drawer ≠ .jammed) (limit : found.limits.get l ≠ .inner) :
    Rests i o.driveHome h (recoverLane found l s) := by
  have lane := headRecovered_lane l s
  have rests := headRecovered_rests r head
  rw [recoverLane_eq]
  generalize headRecovered l s = t at lane rests
  have loaded : (t.lane l).load = some i := by rw [lane]; exact load
  rw [recoverDrawer_away (by rw [lane]; exact runs) limit, bringHome, loaded]
  refine ⟨?_, rests.path, rests.holder⟩
  have order := rests.order
  simp [driveDrawer, order]

/-- The order of a drawer that is found away from its inner limit (R120). -/
theorem settle_recalls (phase : s.sup.phase = some .settle) (good : found.retentionGood = true)
    (runs : (s.lane l).drawer ≠ .jammed) (limit : found.limits.get l ≠ .inner) (load : (s.lane l).load = some i)
    (order : s.order i = some o) (stands : o.state = .staged ∨ o.state = .presented ∨ o.state = .recalling)
    (free : s.path.state = .free) (alone : ∀ k, (s.lane k).head ≠ some i ∧ (k ≠ l → (s.lane k).load ≠ some i)) :
    Yields (.settleExpiry found) s fun t =>
      let q : Order := { o with state := .recalling, reason := none, presentDeadline := none }
      t.order i = some { q with mark := q.mark || decide (q ≠ o) } := by
  refine settle_kept phase good fun w from_s => ?_
  have mine : w.order i = some o := by rw [from_s.order, order]
  have store := storeRecovered_rests_in_drawer (found := found) (by rw [from_s.path, free]; nofun) mine stands
  have lanes := lanesRecovered_rests_in (l := l) store (p := o.driveHome)
    (fun k apart => by rw [from_s.lane]; exact ⟨(alone k).1, (alone k).2 apart⟩) fun t r lane => by
      rw [from_s.lane] at lane
      exact recoverLane_rests_away r (by rw [lane]; exact (alone l).1) (by rw [lane, load]) (by rwa [lane]) limit
  obtain ⟨ends, _⟩ := recover_rests lanes (by simp [Order.driveHome])
  exact recovered_order_changed mine ends rfl

/-- An order that is counted home (R66, R111). -/
def Order.broughtHome (o : Order) : Order := { o.countedBack with holdDeadline := none, presentDeadline := none }

theorem takeEnvelope_rests (r : Rests i o h s) (e : EnvelopeReport) : Rests i o h (takeEnvelope l e s) := by
  unfold takeEnvelope
  (repeat' split) <;> exact r.of_same rfl rfl rfl

/-- A drawer at its inner limit ends the load of its order by the count (R66, R111, R120). -/
theorem recoverLane_rests_home (r : Rests i o h s) (head : (s.lane l).head ≠ some i) (load : (s.lane l).load = some i)
    (runs : (s.lane l).drawer ≠ .jammed) (limit : found.limits.get l = .inner) :
    Rests i o.broughtHome h (recoverLane found l s) := by
  have lane := headRecovered_lane l s
  have rests := headRecovered_rests r head
  rw [recoverLane_eq]
  generalize headRecovered l s = t at lane rests
  have loaded : ((standDrawer l .closed t).lane l).load = some i := by simp [standDrawer, lane, Lane.stays, load]
  have home : Rests i o.broughtHome h (endRecall l (standDrawer l .closed t)) := by
    rw [endRecall, loaded]
    refine ⟨?_, rests.path, rests.holder⟩
    have order := rests.order
    rw [endOrder_order, if_pos rfl, State.modLane_order, standDrawer, State.modWork_order, State.modLane_order, order]
    rfl
  rw [recoverDrawer_home (by rw [lane]; exact runs) limit]
  split
  · exact takeEnvelope_rests home _
  · exact home

theorem recoverLane_unplaced (load : (s.lane l).load = some i) (runs : (s.lane l).drawer ≠ .jammed)
    (limit : found.limits.get l = .inner) : i ∉ (recoverLane found l s).custody.placement := by
  have lane := headRecovered_lane l s
  rw [recoverLane_eq]
  generalize headRecovered l s = t at lane
  have loaded : ((standDrawer l .closed t).lane l).load = some i := by simp [standDrawer, lane, Lane.stays, load]
  have home : i ∉ (endRecall l (standDrawer l .closed t)).custody.placement := by
    rw [endRecall, loaded]
    exact endOrder_unplaced i _ _
  rw [recoverDrawer_home (by rw [lane]; exact runs) limit]
  split
  · exact (takeEnvelope_keeps l _ (.refl _)).unplaced home
  · exact home

theorem lanesRecovered_keeps_rest (found : FieldLevels) (s : State) : EventKeeps (lanesRecovered found s) (recover found s) := by
  have zones : EventKeeps (lanesRecovered found s) (zonesRecovered found s) := by
    rw [zonesRecovered]
    exact recoverZones_keeps found ((EventKeeps.refl _).modConveyor _)
  rw [recover_eq]
  exact ((zones.modLevels _).modPath _).modSup _

theorem Order.broughtHome_eq (within : o.retracted ≤ o.presented) :
    o.broughtHome = { o with
      state := if o.retracted = 0 then .taken else if o.retracted = o.presented then .retracted else .partlyTaken
      reason := if o.retracted = o.presented ∧ o.retracted ≠ 0 then o.reason else none
      taken := if o.retracted = 0 then o.presented else if o.retracted = o.presented then 0 else o.presented - o.retracted
      holdDeadline := none, presentDeadline := none } := by
  unfold Order.broughtHome Order.countedBack
  by_cases none_back : o.retracted = 0
  · simp [none_back]
  · by_cases all : o.retracted = o.presented
    · have some_back : o.presented ≠ 0 := all ▸ none_back
      simp [all, some_back]
    · have part : o.retracted < o.presented := Nat.lt_of_le_of_ne within all
      simp [none_back, all, part]

/-- The order of a drawer that is found at its inner limit (R66, R112, R120). -/
theorem settle_counts (phase : s.sup.phase = some .settle) (good : found.retentionGood = true)
    (runs : (s.lane l).drawer ≠ .jammed) (limit : found.limits.get l = .inner) (load : (s.lane l).load = some i)
    (order : s.order i = some o) (stands : o.state = .staged ∨ o.state = .presented ∨ o.state = .recalling)
    (within : o.retracted ≤ o.presented) (free : s.path.state = .free)
    (alone : ∀ k, (s.lane k).head ≠ some i ∧ (k ≠ l → (s.lane k).load ≠ some i)) :
    Yields (.settleExpiry found) s fun t => t.order i = some { o with
        state := if o.retracted = 0 then .taken else if o.retracted = o.presented then .retracted else .partlyTaken
        reason := if o.retracted = o.presented ∧ o.retracted ≠ 0 then o.reason else none
        taken := if o.retracted = 0 then o.presented else if o.retracted = o.presented then 0 else o.presented - o.retracted
        holdDeadline := none, presentDeadline := none, mark := true } ∧ i ∉ t.custody.placement := by
  refine settle_kept phase good fun w from_s => ?_
  have mine : w.order i = some o := by rw [from_s.order, order]
  have store := storeRecovered_rests_in_drawer (found := found) (by rw [from_s.path, free]; nofun) mine stands
  have ended : o.broughtHome.state = .taken ∨ o.broughtHome.state = .retracted ∨ o.broughtHome.state = .partlyTaken := by
    rw [Order.broughtHome_eq within]
    dsimp only
    (repeat' split) <;> simp
  have lanes := lanesRecovered_rests_in (l := l) store (p := o.broughtHome)
    (fun k apart => by rw [from_s.lane]; exact ⟨(alone k).1, (alone k).2 apart⟩) fun t r lane => by
      rw [from_s.lane] at lane
      exact recoverLane_rests_home r (by rw [lane]; exact (alone l).1) (by rw [lane, load]) (by rwa [lane]) limit
  have out : i ∉ (lanesRecovered found w).custody.placement :=
    lanesRecovered_turn (Q := fun t => i ∉ t.custody.placement) l
      (fun t lane _ _ => by
        rw [from_s.lane] at lane
        exact recoverLane_unplaced (by rw [lane, load]) (by rwa [lane]) limit)
      fun k t _ out => (recoverLane_keeps found k (.refl t)).unplaced out
  obtain ⟨ends, _⟩ := recover_rests lanes (by rcases ended with e | e | e <;> simp [e])
  have moved : o.broughtHome.state ≠ o.state := by
    rcases ended with e | e | e <;> rcases stands with f | f | f <;> simp [e, f]
  have final := recovered_order_moved mine ends (countedBack_mark o) moved
  rw [Order.broughtHome_eq within] at final
  exact ⟨final, recovered_unplaced ((lanesRecovered_keeps_rest found w).unplaced out)⟩

end Sys2Proof.Machine
end

section
/-! The begin and the end of start-up. -/

namespace Sys2Proof.Machine
set_option Elab.async false

variable {s t : State} {i : OrderSlot} {o : Order} {c : Instr}

/-! ### Power-on and the reset line -/

theorem replicate_get {α : Type} {n : Nat} (a : α) (k : Fin n) : (Vector.replicate n a).get k = a := by
  simp [Vector.get]

/-- Power-on and the reset line start the part afresh (R182, R186). -/
theorem restart_yields (afresh : c = .powerOn ∨ c = .resetLine) :
    Yields c s fun t => t.custody = s.custody ∧
      t.levels = { s.levels with gaugeNote := s.levels.gaugeNote || s.path.heldReading.isSome } ∧
      t.sup = {
          mode := .starting, rails := false, phase := some .settle, phaseTimer := some 50, railSettle := none,
          quietDwell := none, clockMs := 0 } ∧
      t.port = {
          frame := none, processing := none, buffer := none, linkStatus := 0, notices := 0, heldNotices := 0,
          attention := false, settle := none } ∧
      t.watch.refused = none ∧ t.watch.refusals = 0 ∧
        (∀ k, t.watch.slots.get k = {
          enable := false, kind := .cassette, first := 1, span := 1, trigger := .stateChange, threshold := none,
          scope := none, hit := false, last := none }) ∧
      t.path.state = .free ∧ t.path.attempt = none ∧ t.path.run = none := by
  have answer : exec c s = .next (restart s) := by rcases afresh with rfl | rfl <;> rfl
  exact yields_of answer ⟨rfl, rfl, rfl, rfl, rfl, rfl, fun k => replicate_get _ k, rfl, rfl, rfl⟩

/-! ### The parts of the end of start-up -/

/-- The end of the start-up purge changes the orders, the placement order and the transport queue alone. -/
structure PurgeEnded (s t : State) : Prop where
  sup : t.sup = s.sup
  port : t.port = s.port
  levels : t.levels = s.levels
  alarm : t.alarm = s.alarm
  conveyor : t.conveyor = s.conveyor
  bins : t.custody.bins = s.custody.bins
  settings : t.custody.settings = s.custody.settings
  retention : t.custody.retention = s.custody.retention
  zones : t.custody.zones = s.custody.zones

theorem endStartUpPurge_ended (s : State) : PurgeEnded s (endStartUpPurge s) := by
  unfold endStartUpPurge
  split <;> exact ⟨rfl, rfl, rfl, rfl, rfl, rfl, rfl, rfl, rfl⟩

theorem startUpEnd_eq (phase : s.sup.phase = some .purge) :
    startUpEnd s = openForCommands (startClearance (startLines (startPath (endStartUpPurge s)))) :=
  if_pos phase

theorem startUpEnd_yields {P : State → Prop} (phase : s.sup.phase = some .purge)
    (ends : P (finish s (startUpEnd s) none none)) : Yields .startUpEnd s P := by
  refine yields_of ?_ ends
  change event startUpEnd s = _
  rw [event, if_neg (by rw [phase]; nofun)]

section
variable (s : State)

@[simp] theorem startPath_sup : (startPath s).sup = s.sup := by simp [startPath, evalPause]
@[simp] theorem startPath_custody : (startPath s).custody = s.custody := by simp [startPath, evalPause]
@[simp] theorem startPath_alarm : (startPath s).alarm = s.alarm := by simp [startPath, evalPause]
@[simp] theorem startPath_conveyor : (startPath s).conveyor = s.conveyor := by simp [startPath, evalPause]
@[simp] theorem startPath_settle : (startPath s).port.settle = s.port.settle := by simp [startPath, evalPause]

theorem startPath_path : (startPath s).path = { NotePath.fresh with
    stackerNotes := s.levels.stacker, shutterTravel := s.path.shutterTravel, routeDiverter := s.path.routeDiverter,
    rejectDiverter := s.path.rejectDiverter, rejectPause := s.pauseDue } := by
  simp [startPath, evalPause]
  rfl

theorem startPath_stands : NoticesStand s (startPath s) := by
  have paused (t : State) : NoticesStand t (evalPause t) :=
    ⟨(evalPause_touches (f := { path := true }) rfl t).notices, (evalPause_touches (f := { path := true }) rfl t).held⟩
  exact paused (s.modPath _)

@[simp] theorem startClearance_sup : (startClearance s).sup = s.sup := by unfold startClearance; split <;> rfl
@[simp] theorem startClearance_custody : (startClearance s).custody = s.custody := by unfold startClearance; split <;> rfl
@[simp] theorem startClearance_alarm : (startClearance s).alarm = s.alarm := by unfold startClearance; split <;> rfl
@[simp] theorem startClearance_path : (startClearance s).path = s.path := by unfold startClearance; split <;> rfl
@[simp] theorem startClearance_port : (startClearance s).port = s.port := by unfold startClearance; split <;> rfl
@[simp] theorem startClearance_order (i : OrderSlot) : (startClearance s).order i = s.order i := by
  rw [State.order, startClearance_custody, State.order]

theorem startClearance_conveyor : (startClearance s).conveyor = if s.custody.retention = .cleared
    then { s.conveyor with clearance := some 8000, gatesDriven := [0, 1, 2, 3] } else s.conveyor := by
  unfold startClearance
  cases s.custody.retention <;> rfl

@[simp] theorem raiseMarked_sup : (raiseMarked s).sup = s.sup := by simp [raiseMarked]
@[simp] theorem raiseMarked_custody : (raiseMarked s).custody = s.custody := by simp [raiseMarked]
@[simp] theorem raiseMarked_alarm : (raiseMarked s).alarm = s.alarm := by simp [raiseMarked]
@[simp] theorem raiseMarked_path : (raiseMarked s).path = s.path := by simp [raiseMarked]
@[simp] theorem raiseMarked_conveyor : (raiseMarked s).conveyor = s.conveyor := by simp [raiseMarked]
@[simp] theorem raiseMarked_hushed : (raiseMarked s).hushed = s.hushed := by simp [raiseMarked]

theorem raiseMarked_stands : NoticesStand s (raiseMarked s) := by
  have step {b : Bool} {n : Notice} {t : State} (h : NoticesStand s t) : NoticesStand s (t.raiseIf b n) :=
    ⟨Touches.stands_trans h.1 (raiseIf_stands b n t).1, Touches.stands_trans h.2 (raiseIf_stands b n t).2⟩
  exact step (step (step (step (raiseIf_stands _ _ s))))

end

/-- While the part takes commands no notice is held. -/
theorem raiseIf_held_awake (awake : s.hushed = false) (b : Bool) (n : Notice) :
    (s.raiseIf b n).port.heldNotices = s.port.heldNotices := by
  rw [raiseIf_heldNotices, if_neg (by simp [awake])]

theorem raiseMarked_held (awake : s.hushed = false) : (raiseMarked s).port.heldNotices = s.port.heldNotices := by
  unfold raiseMarked
  repeat rw [raiseIf_held_awake (by simpa using awake)]

theorem finish_held {before after : State} (awake : after.hushed = false) :
    (finish before after none none).port.heldNotices = after.port.heldNotices := by
  obtain ⟨mode, settle⟩ : after.sup.mode ≠ .starting ∧ after.port.settle = none := by simpa [State.hushed] using awake
  simp [finish, watchRecords, raiseTables, markRecords, State.syncAttention, raiseIf_heldNotices, State.hushed, mode, settle]

/-! ### The end of start-up -/

/-- A flag that stands in one part of a disjunction stands in it. -/
theorem stands_in_or {n : Nat} {x b : BitVec n} (stands : x ||| b = b) (a c d : BitVec n) :
    x ||| (a ||| b ||| c ||| d) = a ||| b ||| c ||| d := by
  have first : x ||| (a ||| b) = a ||| b := by rw [BitVec.or_comm a b, ← BitVec.or_assoc, stands]
  rw [← BitVec.or_assoc, ← BitVec.or_assoc, first]

theorem set_in_or {n : Nat} (a b c : BitVec n) : (a ||| b ||| c) &&& b = b := by
  ext k
  simp only [BitVec.getElem_and, BitVec.getElem_or]
  cases b[k] <;> simp

/-- The state before the mode becomes ACTIVE. -/
def startUpDone (s : State) : State := startClearance (startLines (startPath (endStartUpPurge s)))

theorem startUpDone_sup (s : State) : (startUpDone s).sup = s.sup := by
  simp [startUpDone, startLines, (endStartUpPurge_ended s).sup]

theorem startUpDone_settle (s : State) : (startUpDone s).port.settle = s.port.settle := by
  simp [startUpDone, startLines, (endStartUpPurge_ended s).port]

theorem startUpDone_held (s : State) : s.port.heldNotices ||| (startUpDone s).port.heldNotices = (startUpDone s).port.heldNotices := by
  have stands := (startPath_stands (endStartUpPurge s)).2
  rw [(endStartUpPurge_ended s).port] at stands
  simpa [startUpDone, startLines] using stands

theorem startUpDone_path (s : State) : (startUpDone s).path = { NotePath.fresh with
    stackerNotes := s.levels.stacker, shutterTravel := s.path.shutterTravel, routeDiverter := s.path.routeDiverter,
    rejectDiverter := s.path.rejectDiverter, rejectPause := s.pauseDue } := by
  have ended := endStartUpPurge_ended s
  have pause : (endStartUpPurge s).pauseDue = s.pauseDue := by rw [State.pauseDue, ended.bins, ended.settings, State.pauseDue]
  have travel : (endStartUpPurge s).path.shutterTravel = s.path.shutterTravel ∧
      (endStartUpPurge s).path.routeDiverter = s.path.routeDiverter ∧
      (endStartUpPurge s).path.rejectDiverter = s.path.rejectDiverter := by
    unfold endStartUpPurge
    split <;> exact ⟨rfl, rfl, rfl⟩
  obtain ⟨shutters, route, reject⟩ := travel
  rw [startUpDone, startClearance_path]
  change (startPath (endStartUpPurge s)).path = _
  rw [startPath_path, ended.levels, pause, shutters, route, reject]

theorem startUpDone_alarm (s : State) :
    (startUpDone s).alarm = { s.alarm with siren := s.lockdown, silent := s.silentLatched } := by
  have ended := endStartUpPurge_ended s
  simp [startUpDone, startLines, State.lockdown, State.silentLatched, ended.zones, ended.alarm]

theorem startUpDone_conveyor (s : State) : (startUpDone s).conveyor = if s.custody.retention = .cleared
    then { s.conveyor with clearance := some 8000, gatesDriven := [0, 1, 2, 3] } else s.conveyor := by
  have ended := endStartUpPurge_ended s
  rw [startUpDone, startClearance_conveyor]
  simp [startLines, ended.retention, ended.conveyor]

/-- The mode becomes ACTIVE, before the notices are set. -/
def opened (s : State) : State :=
  ((startUpDone s).modSup fun u => { u with mode := .active, phase := none, phaseTimer := none }).modPort fun p =>
    { p with notices := p.notices ||| p.heldNotices, heldNotices := 0#10 }

theorem opened_awake (settled : s.port.settle = none) : (opened s).hushed = false := by
  simp [State.hushed, opened, startUpDone_settle, settled]

theorem startUpEnd_eq_opened (phase : s.sup.phase = some .purge) : startUpEnd s = raiseMarked ((opened s).raise .restart) := by
  rw [startUpEnd_eq phase, openForCommands, opened, startUpDone]

/-- START_UP_END makes the part ACTIVE (R188). -/
theorem startUpEnd_opens (phase : s.sup.phase = some .purge) (settled : s.port.settle = none) :
    Yields .startUpEnd s fun t => t.sup = { s.sup with mode := .active, phase := none, phaseTimer := none } ∧
      t.path.state = .free ∧ t.path.holder = none ∧ t.path.queue = [] ∧ t.path.jam = none ∧ t.path.attempt = none ∧
      t.path.stackerNotes = s.levels.stacker ∧ t.path.rejectPause = s.pauseDue ∧
      t.alarm = { s.alarm with siren := s.lockdown, silent := s.silentLatched } ∧
      t.port.notices &&& Notice.restart.bit = Notice.restart.bit ∧
        s.port.heldNotices ||| t.port.notices = t.port.notices ∧ t.port.heldNotices = 0 ∧
      t.conveyor = if s.custody.retention = .cleared
          then { s.conveyor with clearance := some 8000, gatesDriven := [0, 1, 2, 3] } else s.conveyor := by
  refine startUpEnd_yields phase ?_
  rw [startUpEnd_eq_opened phase]
  have awake := opened_awake settled
  generalize marked : raiseMarked ((opened s).raise .restart) = u
  have path : u.path = (startUpDone s).path := by rw [← marked]; simp [opened]
  have quiet : u.hushed = false := by rw [← marked]; simp [awake]
  have raised : ((opened s).raise .restart).port = { (opened s).port with
      notices := ((startUpDone s).port.notices ||| (startUpDone s).port.heldNotices) ||| Notice.restart.bit } := by
    rw [State.raise, if_neg (by simp [awake])]
    rfl
  have stands : NoticesStand ((opened s).raise .restart) u := marked ▸ raiseMarked_stands _
  have held : u.port.heldNotices = 0#10 := by
    rw [← marked, raiseMarked_held (by simp [awake]), raised]
    rfl
  have notices := Touches.stands_trans stands.1 (finish_stands (before := s) (after := u) (named := none) (access := none)).1
  rw [raised] at notices
  dsimp only at notices
  refine ⟨?_, ?_, ?_, ?_, ?_, ?_, ?_, ?_, ?_, ?_, ?_, ?_, ?_⟩
  · rw [finish_sup, ← marked]; simp [opened, startUpDone_sup]
  · rw [finish_path, path, startUpDone_path]; rfl
  · rw [finish_path, path, startUpDone_path]; rfl
  · rw [finish_path, path, startUpDone_path]; rfl
  · rw [finish_path, path, startUpDone_path]; rfl
  · rw [finish_path, path, startUpDone_path]; rfl
  · rw [finish_path, path, startUpDone_path]
  · rw [finish_path, path, startUpDone_path]
  · rw [finish_alarm, ← marked]; simp [opened, startUpDone_alarm]
  · rw [← notices]; exact set_in_or _ _ _
  · rw [← notices]; exact stands_in_or (startUpDone_held s) _ _ _
  · rw [finish_held quiet, held]; rfl
  · rw [finish_conveyor, ← marked]; simp [opened, startUpDone_conveyor]

/-- The holder of the start-up purge ends it (R68, R188). -/
theorem startUpEnd_ends_purge (phase : s.sup.phase = some .purge) (holder : s.path.holder = some (.order i))
    (order : s.order i = some o) (aborts : o.state = .aborting) (power : o.reason = some .power) :
    Yields .startUpEnd s fun t => t.order i = some { o with
      state := .failed, unresolved := o.acceptedTotal - o.retracted, holdDeadline := none, presentDeadline := none, mark := true } := by
  refine startUpEnd_yields phase ?_
  have ended : (startUpEnd s).order i = some { o with
      state := .failed, unresolved := o.acceptedTotal - o.retracted, holdDeadline := none, presentDeadline := none } := by
    have purged : (endStartUpPurge s).order i = some { o.endPurge with holdDeadline := none, presentDeadline := none } := by
      rw [endStartUpPurge, holder]
      dsimp only
      rw [endOrder_order, if_pos rfl, order]
      rfl
    have failed : o.endPurge = { o with state := .failed, unresolved := o.acceptedTotal - o.retracted } := by
      simp [Order.endPurge, power]
    rw [startUpEnd_eq_opened phase, State.order, raiseMarked_custody, State.raise_custody]
    change (startUpDone s).order i = _
    rw [startUpDone, startClearance_order]
    change (startPath (endStartUpPurge s)).order i = _
    rw [State.order, startPath_custody]
    exact purged.trans (by rw [failed])
  exact finish_order_moved order ended rfl (by rw [aborts]; nofun)

end Sys2Proof.Machine
end

section
/-! The trip list and the lane locks through the recovery event. -/

namespace Sys2Proof.Machine
set_option Elab.async false

variable {s t u : State} {found : FieldLevels} {z k : ZoneId} {l : LaneId}

/-! ### The lane of a latch -/

/-- A lane lock after a zone of the lane may have latched (R116). -/
def Lock.taking (k : Lock) : Option ZoneId → Lock
  | .none => k
  | .some z => match k with
    | .alarm z' => .alarm z'
    | .none | .jam => .alarm z

theorem Lock.taking_taking (k : Lock) (z : ZoneId) (next : Option ZoneId) :
    (k.taking (some z)).taking next = k.taking (some z) := by
  cases next <;> cases k <;> rfl

/-- The record of a lane after a zone of it may have latched. -/
def Lane.taking (r : Lane) (z : Option ZoneId) : Lane := { r with lock := r.lock.taking z }

/-- The zone locks the lane as it latches (R152). -/
def Zone.locks (l : LaneId) (r : Zone) : Bool := r.response == .laneLock && r.lane == some l

theorem dumpStaged_lane (l k : LaneId) (r : Reason) (s : State) : (dumpStaged l r s).lane k = s.lane k := by
  unfold dumpStaged
  (repeat' split) <;> rfl

theorem lockdownLane_lane (calm : Calm s) (l k : LaneId) : (lockdownLane l s).lane k = s.lane k := by
  have closed : ((dumpStaged l .lockdown s).lane l).drawer ≠ .opened := by rw [dumpStaged_lane]; exact calm.drawer l
  unfold lockdownLane recallCause
  rw [← dumpStaged_lane l k .lockdown s]
  split
  · contradiction
  all_goals rfl

theorem lockdownPicking_lane (s : State) (k : LaneId) : (lockdownPicking s).lane k = s.lane k := by
  have touches : Touches orderRoom s (lockdownPicking s) :=
    lockdownPicking_touches (by simp [orderRoom]) (by simp [orderRoom]) rfl rfl s
  exact ((touches.lanes k).resolve_left (by simp [orderRoom])).resolve_right (by simp [orderRoom])

/-- The start of lockdown while all is calm changes no lane record. -/
theorem startLockdown_lane (calm : Calm s) (k : LaneId) : (startLockdown s).lane k = s.lane k := by
  have start : Calm (lockdownPicking (sounded s)) ∧ (lockdownPicking (sounded s)).lane k = s.lane k :=
    ⟨((sounded_lull s).trans (lockdownPicking_lull _)).calm calm, by rw [lockdownPicking_lane]; simp [sounded]⟩
  rw [startLockdown_calm calm]
  exact (forEach_keeps (fun t => Calm t ∧ t.lane k = s.lane k) lockdownLane
    (fun l t h => ⟨(lockdownLane_lull l h.1).calm h.1, (lockdownLane_lane h.1 l k).trans h.2⟩) _ start).2

theorem respond_lane (calm : Calm s) (z : ZoneId) (stood : Bool) (l : LaneId) :
    (respond z stood s).lane l = (s.lane l).taking (if (s.zone z).locks l then some z else none) := by
  unfold respond Zone.locks
  cases response : (s.zone z).response with
  | lockdown =>
    dsimp only
    split
    · rfl
    · exact startLockdown_lane calm l
  | laneLock =>
    cases lane : (s.zone z).lane with
    | none => rfl
    | some k =>
      dsimp only
      rw [lockLane_calm calm, State.modLane_lane]
      by_cases here : k = l
      · subst here
        rw [if_pos rfl, if_pos (by simp)]
        rfl
      · rw [if_neg here, if_neg (by simp [here])]
        rfl
  | silent => rfl
  | report => rfl

theorem latch_lane (calm : Calm s) (z : ZoneId) (l : LaneId) :
    (latch z s).lane l = (s.lane l).taking (if (s.zone z).locks l then some z else none) := by
  have zone : ((tripped z s).zone z).locks l = (s.zone z).locks l := by rw [tripped_zone, if_pos rfl]; rfl
  have lane : (tripped z s).lane l = s.lane l := rfl
  rw [latch_eq, State.raise_lane, respond_lane ((tripped_lull z s).calm calm), zone, lane]

/-! ### The activations -/

/-- The zone latches as its input is taken (R147). -/
def State.latches (s : State) (z : ZoneId) : Bool := (s.zone z).opens (s.zoneArmed z) && (s.zone z).entryDelay == 0

theorem activate_lane (calm : Calm s) (z : ZoneId) (l : LaneId) :
    (activate z s).lane l =
      (s.lane l).taking (if (s.zone z).entryDelay = 0 ∧ (s.zone z).locks l = true then some z else none) := by
  unfold activate
  simp only []
  split
  · next now =>
    have counted := (Lull.modZone (s := s) z fun r => { r with tripCount := bump r.tripCount }).calm calm
    rw [latch_lane counted, State.modZone_zone, if_pos rfl]
    simp [now, Zone.locks]
  · next delay => simp [delay, Lane.taking, Lock.taking]

theorem activateIfOpen_lane (calm : Calm s) (outside : s.alarm.service = false) (z : ZoneId) (l : LaneId) :
    (activateIfOpen z s).lane l = (s.lane l).taking (if s.latches z && (s.zone z).locks l then some z else none) := by
  rw [activateIfOpen_eq outside]
  split
  · next opens => rw [activate_lane calm]; simp [State.latches, opens]
  · next shut => simp [State.latches, shut, Lane.taking, Lock.taking]

theorem activateIfOpen_other (apart : k ≠ z) (calm : Calm s) (outside : s.alarm.service = false) :
    (activateIfOpen z s).zone k = s.zone k ∧ (activateIfOpen z s).latches k = s.latches k := by
  have zone : (activateIfOpen z s).zone k = s.zone k := by rw [activateIfOpen_zone outside, if_neg (Ne.symm apart)]
  have armed : (activateIfOpen z s).zoneArmed k = s.zoneArmed k := by
    rw [State.zoneArmed, (activateIfOpen_lull z calm).groupArmed, zone, State.zoneArmed]
  exact ⟨zone, by rw [State.latches, armed, zone, State.latches]⟩

/-- A passage of the activations along a list of zones: the trip list and the lane of a latch. -/
theorem activate_passage (l : LaneId) : ∀ (zones : List ZoneId) (t : State), zones.Nodup → Calm t → t.alarm.service = false →
    (zones.foldl (fun t z => activateIfOpen z t) t).custody.tripList = t.custody.tripList ++ zones.filter t.latches ∧
    (zones.foldl (fun t z => activateIfOpen z t) t).lane l =
      (t.lane l).taking (zones.find? fun z => t.latches z && (t.zone z).locks l)
  | [], t, _, _, _ => by simp [Lane.taking, Lock.taking]
  | z :: zones, t, once, calm, outside => by
    obtain ⟨out, rest⟩ := List.nodup_cons.mp once
    have lull := activateIfOpen_lull z calm
    have same : ∀ k ∈ zones, (activateIfOpen z t).zone k = t.zone k ∧ (activateIfOpen z t).latches k = t.latches k :=
      fun k there => activateIfOpen_other (fun here => out (here ▸ there)) calm outside
    obtain ⟨trips, lane⟩ := activate_passage l zones (activateIfOpen z t) rest (lull.calm calm) (lull.service.trans outside)
    have filter : zones.filter (activateIfOpen z t).latches = zones.filter t.latches :=
      List.filter_congr fun k there => (same k there).2
    have find : (zones.find? fun k => (activateIfOpen z t).latches k && ((activateIfOpen z t).zone k).locks l) =
        zones.find? fun k => t.latches k && (t.zone k).locks l :=
      List.find?_congr fun k there => by rw [(same k there).1, (same k there).2]
    have head : (activateIfOpen z t).custody.tripList = t.custody.tripList ++ if t.latches z then [z] else [] := by
      rw [activateIfOpen_trips outside]
      simp [State.latches]
    rw [List.foldl_cons]
    constructor
    · rw [trips, filter, head, List.filter_cons]
      cases t.latches z <;> simp
    · rw [lane, find, activateIfOpen_lane calm outside, List.find?_cons]
      cases t.latches z && (t.zone z).locks l with
      | false => rfl
      | true => simp [Lane.taking, Lock.taking_taking]

/-- Step 7 with no zone in its delay: the trip list and the lane locks. -/
theorem recoverZones_of_no_delay (calm : Calm s) (outside : s.alarm.service = false) (l : LaneId)
    (undelayed : ∀ z, ((s.zone z).sampled z (found.zones.get z)).state ≠ .delay) (latches : ZoneId → Bool)
    (latch : ∀ z, latches z = (((s.zone z).sampled z (found.zones.get z)).opens (s.groupArmed (s.zone z).group) &&
      (s.zone z).entryDelay == 0)) :
    (recoverZones found s).custody.tripList = s.custody.tripList ++ (positions _).filter latches ∧
    (recoverZones found s).lane l = (s.lane l).taking ((positions _).find? fun z => latches z && (s.zone z).locks l) := by
  have zones := zonesSampled_zone found s
  have lull := zonesSampled_lull found calm
  obtain ⟨trips, lane⟩ : (zonesSampled found s).custody.tripList = s.custody.tripList ∧ (zonesSampled found s).lane l = s.lane l :=
    forEach_keeps (fun t : State => t.custody.tripList = s.custody.tripList ∧ t.lane l = s.lane l) (reported found)
      (fun z t h => h) _ ⟨rfl, rfl⟩
  rw [recoverZones_eq, delaysEnded]
  generalize zonesSampled found s = t at zones lull trips lane
  have still : forEach latchDelayed t = t := forEach_keeps (fun u => u = t) latchDelayed
    (fun z u h => by rw [h, latchDelayed, if_neg (by rw [zones]; exact undelayed z)]) t rfl
  rw [still, forEach]
  have latched : t.latches = latches := by
    funext z
    rw [latch, State.latches, State.zoneArmed, lull.groupArmed, zones]
    rfl
  have locks (z : ZoneId) : (t.zone z).locks l = (s.zone z).locks l := by rw [zones]; rfl
  obtain ⟨list, lock⟩ := activate_passage l (positions _) t positions_nodup (lull.calm calm) (lull.service.trans outside)
  simp only [latched, locks, trips, lane] at list lock
  rw [list, lock]
  exact ⟨rfl, rfl⟩

end Sys2Proof.Machine
end

section
/-! What the recovery event leaves with retention lost. -/

namespace Sys2Proof.Machine
set_option Elab.async false

variable {s t u w : State} {found : FieldLevels} {c : CassetteId} {l : LaneId} {z : ZoneId} {i : OrderSlot}

/-! ### What recovery leaves of the settings and the notices -/

theorem recover_zone_side (found : FieldLevels) (s : State) : Touches zoneRoom (conveyorRecovered found s) (zonesRecovered found s) :=
  (zonesRecovered_lull found s).touches

/-- The conveyor list, the levels, the transport and the Supervisor are all that steps 6 and 8 touch. -/
theorem recover_custody (found : FieldLevels) (s : State) : (recover found s).custody = (zonesRecovered found s).custody := by
  rw [recover_eq]
  generalize zonesRecovered found s = t
  rfl

theorem recover_port (found : FieldLevels) (s : State) : (recover found s).port = (zonesRecovered found s).port := by
  rw [recover_eq]
  generalize zonesRecovered found s = t
  rfl

theorem conveyorRecovered_custody (found : FieldLevels) (s : State) :
    (conveyorRecovered found s).custody = (lanesRecovered found s).custody := by
  rw [conveyorRecovered]
  generalize lanesRecovered found s = t
  rfl

theorem conveyorRecovered_port (found : FieldLevels) (s : State) :
    (conveyorRecovered found s).port = (lanesRecovered found s).port := by
  rw [conveyorRecovered]
  generalize lanesRecovered found s = t
  rfl

/-- The parts of the store that recovery leaves. -/
theorem recover_settings (found : FieldLevels) (s : State) :
    (recover found s).custody.retention = s.custody.retention ∧ (recover found s).custody.settings = s.custody.settings ∧
      (recover found s).custody.dayArmed = s.custody.dayArmed ∧ (recover found s).custody.nightArmed = s.custody.nightArmed ∧
      (recover found s).custody.tags = s.custody.tags := by
  have zones := recover_zone_side found s
  have steady := lanesRecovered_steady found s
  obtain ⟨day, night⟩ := zones.arms.resolve_left (by simp [zoneRoom])
  have settings := zones.settings.resolve_left (by simp [zoneRoom])
  have tags := zones.tags.resolve_left (by simp [zoneRoom])
  have retention := zones.retention
  rw [conveyorRecovered_custody] at day night settings tags retention
  rw [recover_custody, day, night, settings, tags, retention, steady.dayArmed, steady.nightArmed, steady.settings, steady.tags,
    steady.retention]
  exact ⟨rfl, rfl, rfl, rfl, rfl⟩

theorem recover_counter (found : FieldLevels) (s : State) :
    (recover found s).custody.captureCounter = (lanesRecovered found s).custody.captureCounter := by
  have counter := (recover_zone_side found s).counter.resolve_left (by simp [zoneRoom])
  rwa [recover_custody, ← conveyorRecovered_custody]

theorem recover_stands (found : FieldLevels) (s : State) : NoticesStand s (recover found s) := by
  have zones := recover_zone_side found s
  have steady := (lanesRecovered_steady found s).notices
  have notices := zones.notices
  have held := zones.held
  rw [conveyorRecovered_port] at notices held
  rw [NoticesStand, recover_port]
  exact ⟨Touches.stands_trans steady.1 notices, Touches.stands_trans steady.2 held⟩

theorem recover_hushed (found : FieldLevels) (s : State) : (recover found s).hushed = s.hushed := by
  have settle := (recover_zone_side found s).settle
  rw [conveyorRecovered_port, (lanesRecovered_steady found s).settle] at settle
  rw [State.hushed, recover_sup, recover_port, settle]
  rfl

/-! ### The store that is lost -/

/-- The records and the working state that recovery takes up from a sampling with retention lost (R19). -/
structure Lost (found : FieldLevels) (w : State) : Prop where
  custody : w.custody = Custody.fresh found.seated

theorem set_at_end_of_or {n : Nat} (a b : BitVec n) : (a ||| b) &&& b = b := by
  simpa using set_in_or a b 0#n

/-- A flag that is set in a word is set in every word in which that word stands. -/
theorem set_of_stands {n : Nat} {a b x : BitVec n} (stands : a ||| b = b) (set : a &&& x = x) : b &&& x = x := by
  ext k
  have stands := congrArg (·[k]) stands
  have set := congrArg (·[k]) set
  simp only [BitVec.getElem_or, BitVec.getElem_and] at stands set ⊢
  cases a[k] <;> simp_all

theorem settle_lost {P : State → Prop} (phase : s.sup.phase = some .settle) (lost : found.retentionGood = false)
    (ends : ∀ w, Lost found w → w.hushed = s.hushed →
      (s.lockdown = true → (if s.hushed then w.port.heldNotices else w.port.notices) &&& Notice.alarm.bit = Notice.alarm.bit) →
      P (recovered found w)) : Yields (.settleExpiry found) s P := by
  refine settle_yields phase (ends _ ⟨sampleRetention_custody_lost found s lost⟩ ?_ fun stood => ?_)
  · rw [sampleRetention_lost found s lost]
    exact State.raiseIf_hushed _ _ _
  · rw [sampleRetention_lost found s lost]
    change (if s.hushed then (loseRetention found s).port.heldNotices else (loseRetention found s).port.notices) &&& _ = _
    rw [loseRetention, raiseIf_notices, raiseIf_heldNotices, stood]
    cases starts : s.hushed with
    | true => rw [if_pos rfl, if_pos ⟨rfl, starts⟩]; exact set_at_end_of_or _ _
    | false => rw [if_neg Bool.false_ne_true, if_pos ⟨rfl, starts⟩]; exact set_at_end_of_or _ _

/-- The defaults of the zones as section 8.1 lists them. -/
theorem Zone.defaults_get : ∀ z, Zone.defaults.get z =
    .fresh (statedZone z).1 (statedZone z).2.1 (statedZone z).2.2.1 (statedZone z).2.2.2 := by decide

namespace Lost

theorem cassette (k : Lost found w) (c : CassetteId) : w.cassette c = .fresh (found.seated.get c) := by
  rw [State.cassette, k.custody, Custody.fresh_cassette]

theorem order (k : Lost found w) (i : OrderSlot) : w.order i = none := by
  rw [State.order, k.custody]
  exact replicate_get _ i

theorem lane (k : Lost found w) (l : LaneId) : w.lane l = .fresh := by
  rw [State.lane, k.custody]
  exact replicate_get _ l

theorem zone (k : Lost found w) (z : ZoneId) : w.zone z =
    .fresh (statedZone z).1 (statedZone z).2.1 (statedZone z).2.2.1 (statedZone z).2.2.2 := by
  rw [State.zone, k.custody]
  exact Zone.defaults_get z

theorem armed (k : Lost found w) (g : Group) : w.groupArmed g = (g == .always) := by
  cases g <;> simp [State.groupArmed, k.custody, Custody.fresh]

end Lost

/-! ### The bins -/

/-- No order stands and no leveling session, and the bin record is b. -/
structure Bare (b : Bins) (s : State) : Prop where
  order : ∀ i, s.order i = none
  leveling : ∀ c, (s.cassette c).leveling = none
  bins : s.custody.bins = b

theorem Bare.recoverOrder {b : Bins} (k : Bare b s) (i : OrderSlot) : Machine.recoverOrder i s = s := by
  rw [Machine.recoverOrder, k.order]

theorem Bare.recoverLeveling {b : Bins} (k : Bare b s) (c : CassetteId) : Machine.recoverLeveling found c s = s := by
  rw [Machine.recoverLeveling, k.leveling]

theorem Bare.shutNow {b : Bins} (k : Bare b s) (c : CassetteId) : Bare b (shutNow c s) where
  order := k.order
  leveling j := by
    rw [shutNow_cassette]
    split <;> exact k.leveling j
  bins := k.bins

theorem Bare.modState {b : Bins} (k : Bare b s) (c : CassetteId) {g : Cassette → Cassette}
    (same : ∀ r, (g r).leveling = r.leveling) : Bare b (s.modCassette c g) where
  order := k.order
  leveling j := by
    rw [State.modCassette_cassette]
    split
    · rw [same, k.leveling]
    · exact k.leveling j
  bins := k.bins

theorem Bare.removeCassette {b : Bins} (k : Bare b s) (c : CassetteId) : Bare b (removeCassette c s) := by
  have stopped : Bare b (stopAttempt c s) := by
    unfold stopAttempt
    split
    · exact ⟨k.order, k.leveling, k.bins⟩
    · exact k
  have still : endGone c (stopAttempt c s) = stopAttempt c s := endGone_of_no_session (stopped.leveling c)
  have unpicked : abortGone c (stopAttempt c s) = stopAttempt c s := by
    have none_picks : (stopAttempt c s).pickingOrder = none := by
      unfold State.pickingOrder
      split
      · rw [stopped.order]; rfl
      · rfl
    rw [abortGone, none_picks]
  have gone : Bare b (forEach (failGone c) (stopAttempt c s)) :=
    forEach_keeps (Bare b) (failGone c) (fun j t k => by rw [failGone, k.order]; exact k) _ stopped
  rw [Machine.removeCassette, still, unpicked]
  exact (gone.shutNow c).modState c fun _ => rfl

theorem Bare.recoverCassette {b : Bins} (k : Bare b s) (c : CassetteId) : Bare b (recoverCassette found c s) := by
  refine Bare.shutNow ?_ c
  split
  · unfold seatCassette
    split
    · exact (k.shutNow c).modState c fun _ => rfl
    · exact k
  · split
    · exact k
    · exact k.removeCassette c

/-- With no order and no session recovery leaves the bin record. -/
theorem recover_bins {b : Bins} (k : Bare b s) (found : FieldLevels) : (recover found s).custody.bins = b := by
  have orders := forEach_keeps (Bare b) recoverOrder (fun i t k => by rw [k.recoverOrder]; exact k) (recoverSupervisor s)
    ⟨k.order, k.leveling, k.bins⟩
  have sessions := forEach_keeps (Bare b) (recoverLeveling found) (fun c t k => by rw [k.recoverLeveling]; exact k) _ orders
  have store : Bare b (storeRecovered found s) :=
    forEach_keeps (Bare b) (recoverCassette found) (fun c t k => k.recoverCassette c) _ sessions
  have lanes : (lanesRecovered found s).custody.bins = b :=
    lanesRecovered_keeps (P := fun t => t.custody.bins = b) (fun l t h => (recoverLane_bins found l t).trans h) store.bins
  rw [recover_custody, (zonesRecovered_lull found s).bins, conveyorRecovered_custody, lanes]

/-! ### The clause of retention lost -/

namespace Lost

theorem bare (k : Lost found w) : Bare .fresh w where
  order := k.order
  leveling c := by rw [k.cassette]; rfl
  bins := by rw [k.custody]; rfl

theorem unclaimed (k : Lost found w) (l : LaneId) : (w.lane l).claim = false := by rw [k.lane]; rfl

/-- A zone that latches in the recovery after a loss: an ALWAYS zone whose input is ACTIVE. -/
def latches (found : FieldLevels) (z : ZoneId) : Bool := (statedZone z).1 == .always && found.zones.get z == .active

/-- Every ALWAYS zone of the defaults is without an entry delay. -/
theorem stated_entryDelay : ∀ z : ZoneId, (statedZone z).1 = .always → (statedZone z).2.2.2 = 0 := by decide

/-- Every zone of the defaults that locks a lane is an ALWAYS zone. -/
theorem stated_always : ∀ z : ZoneId, (statedZone z).2.1 = .laneLock → (statedZone z).1 = .always := by decide

theorem sampled (k : Lost found w) (z : ZoneId) : (w.zone z).sampled z (found.zones.get z) =
    { w.zone z with input := found.zones.get z } := by
  rw [k.zone]
  simp [Zone.sampled, Zone.endService, Zone.endServiceBypass, Zone.endManualBypass, Zone.fresh]

theorem opens (k : Lost found w) (z : ZoneId) :
    ((w.zone z).sampled z (found.zones.get z)).opens (w.groupArmed (w.zone z).group) = latches found z := by
  rw [k.sampled, k.armed, k.zone]
  simp [Zone.opens, Zone.fresh, latches, Bool.and_comm]

theorem activates (k : Lost found w) (z : ZoneId) : latches found z =
    (((w.zone z).sampled z (found.zones.get z)).opens (w.groupArmed (w.zone z).group) && (w.zone z).entryDelay == 0) := by
  rw [k.opens, k.zone]
  cases act : latches found z with
  | false => rfl
  | true =>
    simp only [latches, Bool.and_eq_true, beq_iff_eq] at act
    simp [Zone.fresh, stated_entryDelay z act.1]

theorem undelayed (k : Lost found w) (z : ZoneId) : ((w.zone z).sampled z (found.zones.get z)).state ≠ .delay := by
  rw [k.sampled, k.zone]
  nofun

theorem recovered_zone (k : Lost found w) (z : ZoneId) :
    (recovered found w).zone z = {
      group := (statedZone z).1, response := (statedZone z).2.1, lane := (statedZone z).2.2.1,
      entryDelay := (statedZone z).2.2.2, input := found.zones.get z,
      state := if latches found z then .latched else .normal, manualBypass := false,
      tripCount := if latches found z then 1 else 0, mark := found.zones.get z == .active } := by
  have record : (recover found w).zone z = { w.zone z with
      input := found.zones.get z, state := if latches found z then .latched else .normal,
      tripCount := if latches found z then 1 else 0 } := by
    rw [recover_zone, Zone.delayEnded, if_neg (k.undelayed z), Zone.activated, k.opens, k.sampled, k.zone]
    cases act : latches found z with
    | false => rfl
    | true =>
      simp only [latches, Bool.and_eq_true, beq_iff_eq] at act
      simp [Zone.fresh, stated_entryDelay z act.1, bump, byteTop]
  rw [recovered, finish_zone, zoneMoved, record, k.zone]
  cases input : found.zones.get z with
  | active => simp [Zone.same, Zone.fresh]
  | quiet => simp [Zone.same, Zone.fresh, latches, input]

/-- The zone whose latch locks the lane in the recovery after a loss. -/
def locking (found : FieldLevels) (l : LaneId) : Option ZoneId :=
  (positions _).find? fun z => (statedZone z).2.1 == .laneLock && (statedZone z).2.2.1 == some l && found.zones.get z == .active

theorem locking_eq (k : Lost found w) (l : LaneId) :
    (positions _).find? (fun z => latches found z && (w.zone z).locks l) = locking found l := by
  refine congrArg (fun p => (positions _).find? p) (funext fun z => ?_)
  rw [k.zone, Bool.eq_iff_iff]
  simp only [latches, Zone.locks, Zone.fresh, Bool.and_eq_true, beq_iff_eq]
  exact ⟨fun ⟨⟨_, active⟩, lock, lane⟩ => ⟨⟨lock, lane⟩, active⟩,
    fun ⟨⟨lock, lane⟩, active⟩ => ⟨⟨stated_always z lock, active⟩, lock, lane⟩⟩

theorem zonesRecovered (k : Lost found w) (l : LaneId) :
    (Machine.zonesRecovered found w).custody.tripList = (positions _).filter (latches found) ∧
    (Machine.zonesRecovered found w).lane l = ((lanesRecovered found w).lane l).taking (locking found l) := by
  have step := recoverZones_of_no_delay (found := found) (conveyorRecovered_calm found w) (conveyorRecovered_outside found w) l
    (fun z => by rw [conveyorRecovered_zone]; exact k.undelayed z) (latches found)
    (fun z => by rw [conveyorRecovered_zone, conveyorRecovered_armed]; exact k.activates z)
  have lane : (conveyorRecovered found w).lane l = (lanesRecovered found w).lane l := by
    rw [conveyorRecovered]
    generalize lanesRecovered found w = t
    rfl
  have trips : (lanesRecovered found w).custody.tripList = [] := by
    rw [(lanesRecovered_steady found w).trips]
    change w.custody.tripList = []
    rw [k.custody]
    rfl
  simp only [conveyorRecovered_zone, conveyorRecovered_custody, trips, lane, k.locking_eq, List.nil_append,
    ← zonesRecovered_eq] at step
  exact step

theorem recovered_trips (k : Lost found w) : (recovered found w).custody.tripList = (positions _).filter (latches found) := by
  rw [recovered, finish_tripList, recover_trips, (k.zonesRecovered 0).1]

theorem lanesRecovered_lane (k : Lost found w) (l : LaneId) : (lanesRecovered found w).lane l =
    { Lane.fresh with drawer := if found.limits.get l = .inner then .closed else .retracting } := by
  have runs : (w.lane l).drawer ≠ .jammed := by rw [k.lane]; nofun
  by_cases limit : found.limits.get l = .inner
  · rw [lanesRecovered_lane_home runs limit, k.lane, Lane.decided_of_unclaimed rfl, if_pos limit]
    rfl
  · rw [lanesRecovered_lane_away runs limit, k.lane, if_neg limit]
    rfl

theorem recovered_lane (k : Lost found w) (l : LaneId) :
    (recovered found w).lane l =
      let lock : Lock := (locking found l).elim .none .alarm
      let drawer : Drawer := if found.limits.get l = .inner then .closed else .retracting
      { session := .closed, drawer := drawer, head := none, load := none, claim := false, lock := lock,
        mark := lock != .none || drawer != .closed } := by
  have zones := (k.zonesRecovered l).2
  have record : (recover found w).lane l = (Machine.zonesRecovered found w).lane l := by
    rw [State.lane, recover_custody, State.lane]
  rw [recovered, finish_lane, laneMoved, record, zones, k.lanesRecovered_lane, k.lane]
  generalize (if found.limits.get l = .inner then Drawer.closed else Drawer.retracting) = drawer
  have lock : Lock.taking .none (locking found l) = (locking found l).elim .none .alarm := by cases locking found l <;> rfl
  simp only [Lane.taking, Lane.fresh, Lane.same, lock]
  generalize (locking found l).elim Lock.none Lock.alarm = lock
  cases lock <;> cases drawer <;> rfl

theorem recovered_cassette (k : Lost found w) (c : CassetteId) : (recovered found w).cassette c =
    { Cassette.fresh true with state := if found.seated.get c then .uncounted else .absent } := by
  have law : (w.cassette c).reserved ≤ w.demand c := by rw [k.cassette]; exact Nat.zero_le _
  have free := recover_reserved (found := found) law
  have record := recover_cassette found w c
  have fresh : ((w.cassette c).unreserved.sessionEnded found.gaugeNote).seatChecked (found.seated.get c) =
      { Cassette.fresh true with state := if found.seated.get c then .uncounted else .absent } := by
    rw [k.cassette, Cassette.sessionEnded_of_none rfl]
    cases found.seated.get c <;> rfl
  rw [fresh] at record
  rw [recovered, finish_cassette]
  generalize (recover found w).cassette c = r at free record
  have whole : r = { Cassette.fresh true with state := if found.seated.get c then .uncounted else .absent } := by
    rw [← record, Cassette.unreserved, ← free]
  rw [whole]
  split <;> rfl

theorem recovered_order (k : Lost found w) (i : OrderSlot) : (recovered found w).order i = none := by
  have orders := (recover_keeps found (.refl w)).orders i
  rw [k.order] at orders
  have gone : (recover found w).order i = none := by simpa using orders
  rw [recovered, finish_order, gone]
  split <;> rfl

theorem recovered_envelopes (k : Lost found w) : (recovered found w).custody.envelopes = [] := by
  rw [recovered, finish_envelopes, recover_envelopes, (lanesRecovered_unclaimed found k.unclaimed).1, k.custody]
  rfl

theorem recovered_placement (k : Lost found w) : (recovered found w).custody.placement = [] := by
  have placement := (recover_keeps found (.refl w)).placement
  rw [k.custody] at placement
  rw [recovered, finish_placement]
  exact List.eq_nil_of_subset_nil placement

theorem recovered_notices (hushed : w.hushed = s.hushed)
    (raised : (if s.hushed then w.port.heldNotices else w.port.notices) &&& Notice.alarm.bit = Notice.alarm.bit) :
    (if (recovered found w).hushed then (recovered found w).port.heldNotices else (recovered found w).port.notices) &&&
      Notice.alarm.bit = Notice.alarm.bit := by
  have same : (recovered found w).hushed = s.hushed := by rw [recovered, finish_hushed, recover_hushed, hushed]
  have recovery := recover_stands found w
  have final := finish_stands (before := w) (after := recover found w) (named := none) (access := none)
  rw [same, recovered]
  split
  · next starts =>
    rw [if_pos starts] at raised
    exact set_of_stands (Touches.stands_trans recovery.2 final.2) raised
  · next awake =>
    rw [if_neg awake] at raised
    exact set_of_stands (Touches.stands_trans recovery.1 final.1) raised

end Lost

/-- With retention lost the store takes its stated contents (R19, R187). -/
theorem settle_loses (phase : s.sup.phase = some .settle) (lost : found.retentionGood = false) :
    Yields (.settleExpiry found) s fun t => (s.lockdown = true →
      (if t.hushed then t.port.heldNotices else t.port.notices) &&& Notice.alarm.bit = Notice.alarm.bit) ∧
      t.custody.retention = .cleared ∧ t.custody.captureCounter = 1 ∧ t.custody.envelopes = [] ∧
      t.custody.placement = [] ∧ t.custody.dayArmed = false ∧ t.custody.nightArmed = false ∧
      t.custody.settings = {
          holdLimit := 300, presentLimit := 45, shutterIdleClose := 10, noteLimit := 40, maxRejects := 8,
          enables := 0x3ff } ∧
      t.custody.bins = {
          retractCount := 0, retractCounted := false, rejectCount := 0, rejectCounted := false,
          captureCounted := false, unexpected := 0 } ∧
      (∀ i, t.order i = none ∧ t.custody.tags.get i = 0) ∧
      (∀ z, let (g, r, l, d) := statedZone z
        let latches := g == .always && found.zones.get z == .active
        t.zone z = {
            group := g, response := r, lane := l, entryDelay := d, input := found.zones.get z,
            state := if latches then .latched else .normal, manualBypass := false,
            tripCount := if latches then 1 else 0, mark := found.zones.get z == .active }) ∧
      t.custody.tripList = ((positions _).filter fun z => (statedZone z).1 == .always && found.zones.get z == .active) ∧
      (∀ l, let lock : Lock := ((positions _).find? fun z => (statedZone z).2.1 == .laneLock &&
          (statedZone z).2.2.1 == some l && found.zones.get z == .active).elim .none .alarm
        let drawer : Drawer := if found.limits.get l = .inner then .closed else .retracting
        t.lane l = {
            session := .closed, drawer := drawer, head := none, load := none, claim := false, lock := lock,
            mark := lock != .none || drawer != .closed }) ∧
      ∀ c, t.cassette c = {
          state := if found.seated.get c then .uncounted else .absent, value := 0, loaded := 0, current := 0,
          reserved := 0, guard := 5, lowMark := 100, lowFlag := false, reference := 0, accepted := 0,
          rejectNotes := 0, testNotes := 0, writtenOff := 0, shutter := .shut, leveling := none, mark := true } := by
  refine settle_lost phase lost fun w k hushed raised => ?_
  obtain ⟨retention, settings, day, night, tags⟩ := recover_settings found w
  refine ⟨fun stood => Lost.recovered_notices hushed (raised stood), ?_, ?_, k.recovered_envelopes, k.recovered_placement,
    ?_, ?_, ?_, ?_, fun i => ⟨k.recovered_order i, ?_⟩, fun z => k.recovered_zone z, k.recovered_trips,
    fun l => k.recovered_lane l, fun c => k.recovered_cassette c⟩
  · rw [recovered, finish_retention, retention, k.custody]; rfl
  · rw [recovered, finish_captureCounter, recover_counter, (lanesRecovered_unclaimed found k.unclaimed).2, k.custody]; rfl
  · rw [recovered, finish_dayArmed, day, k.custody]; rfl
  · rw [recovered, finish_nightArmed, night, k.custody]; rfl
  · rw [recovered, finish_settings, settings, k.custody]; rfl
  · rw [recovered, finish_bins, recover_bins k.bare]; rfl
  · rw [recovered, finish_tags, tags, k.custody]; exact replicate_get _ i

end Sys2Proof.Machine
end

section
/-! Start-up: the custody records through power-on, recovery and the end of start-up. -/

namespace Sys2Proof.Machine
set_option Elab.async false

/-- A drawer found away from its inner limit is driven home, and its order with it (R120, R187). -/
theorem settle_brings_home {found : FieldLevels} {l : LaneId} {i : OrderSlot} {o : Order} {s : State}
    (phase : s.sup.phase = some .settle) (good : found.retentionGood = true) (runs : (s.lane l).drawer ≠ .jammed)
    (limit : found.limits.get l ≠ .inner) (load : (s.lane l).load = some i) (order : s.order i = some o)
    (stands : o.state = .staged ∨ o.state = .presented ∨ o.state = .recalling) (free : s.path.state = .free)
    (alone : ∀ k, (s.lane k).head ≠ some i ∧ (k ≠ l → (s.lane k).load ≠ some i)) :
    Yields (.settleExpiry found) s fun t => (t.lane l).drawer = .retracting ∧ (t.laneWork l).travel = some 4000 ∧
      (t.lane l).load = some i ∧
      let q : Order := { o with state := .recalling, reason := none, presentDeadline := none }
      t.order i = some { q with mark := q.mark || decide (q ≠ o) } :=
  ((settle_drives phase good runs limit).and (settle_recalls phase good runs limit load order stands free alone)).mono
    fun _ ⟨⟨drawer, travel, loaded, _⟩, recalled⟩ => ⟨drawer, travel, loaded.trans load, recalled⟩

/-- Settles O52. Each step of the recovery event has a lemma of what it makes of one record and what it leaves, and a passage
through a table is read at the turn of the record in question. -/
theorem startUpRecoversTheCustodyRecords : Obligations.StartUpRecoversTheCustodyRecords := by
  unfold Obligations.StartUpRecoversTheCustodyRecords
  refine ⟨?_, ?_, ?_, ?_, ?_, ?_, ?_, ?_, ?_, ?_, ?_, ?_, ?_, ?_, ?_, ?_, ?_, ?_, ?_, ?_⟩
  · exact fun c s => restart_yields
  · exact fun found s => settle_leaves
  · exact fun found s => settle_loses
  · exact fun found i o s => settle_cancels
  · exact fun found c v s => settle_spends
  · exact fun found l i o s => settle_brings_home
  · exact fun found z s => settle_latches
  · exact fun found i o s => settle_sends_back
  · exact fun found l i o s => settle_dumps
  · exact fun found s => settle_frees
  · exact fun found c s => settle_seats
  · exact fun found l i o s => settle_counts
  · exact fun found l s => settle_homes
  · exact fun found l s => settle_drives
  · exact fun found l s => settle_notes
  · exact fun found s => settle_rebuilds
  · exact fun found z s => settle_activates
  · exact fun found s => settle_elsewhere
  · exact fun s => startUpEnd_opens
  · exact fun i o s => startUpEnd_ends_purge

end Sys2Proof.Machine
end

section
/-! The books of the part: what its records hold of the notes and of where each order stands, in the midst of an event. `Books g s`
is the second law, the law of the sessions and the law of the places, taken slot by slot and cassette by cassette, so that an
operation which writes one of them needs a look at that one alone. The stage g tells what is waived where: in the midst of the
recovery event, and on a cassette that has just run short. -/

namespace Sys2Proof.Machine
set_option Elab.async false

/-! ### What the books say -/

/-- How far the recovery event has come: outside it, before each order has been stopped, and from then on. -/
inductive Course where
  | running
  | settling
  | settled
deriving DecidableEq

/-- What is looked at: the course of recovery, the cassette that may hold more reservations than notes, and whether the figures of
the cassettes are to add up (R29). -/
structure Stage where
  course : Course
  short : Option CassetteId
  tallied : Bool

/-- An order that holds the transport is in the state of the transport, picking its first incomplete entry; in the recovery event it
is the one to be purged. -/
def Course.Holds (c : Course) (p : NotePath) (o : Order) : Prop :=
  match c with
  | .running => p.state.holderState = some o.state ∧ (o.state = .picking → p.entry = o.nextEntry)
  | .settling | .settled => o.state = .aborting

/-- The order o in slot i is where its state belongs. -/
structure Placed (g : Stage) (s : State) (i : OrderSlot) (o : Order) : Prop where
  live : i ∈ s.custody.placement ↔ o.state.terminal = false
  queue : g.course = .running → .order i ∈ s.path.queue → o.state = .queued
  holder : s.path.holder = some (.order i) → g.course.Holds s.path o
  picks : o.state = .picking → s.sup.phase = some .settle ∨ s.path.holder = some (.order i)
  head : ∀ l, (s.lane l).head = some i → o.lane = l ∧ (o.state = .staged ∨ o.state = .aborting) ∧
    (s.lane l).load ≠ some i ∧ s.path.holder ≠ some (.order i)
  load : ∀ l, (s.lane l).load = some i → o.lane = l ∧
    (o.state = .staged ∨ o.state = .presented ∨ o.state = .recalling)
  allowed : g.course = .settled → o.state.reserves = false

/-- A free slot stands nowhere. -/
structure Vacant (g : Stage) (s : State) (i : OrderSlot) : Prop where
  live : i ∉ s.custody.placement
  queue : g.course = .running → .order i ∉ s.path.queue
  holder : s.path.holder ≠ some (.order i)
  head : ∀ l, (s.lane l).head ≠ some i
  load : ∀ l, (s.lane l).load ≠ some i

/-- What is in a slot of the order table is where it belongs. -/
def Booked (g : Stage) (s : State) (i : OrderSlot) : Prop :=
  match s.order i with
  | some o => Placed g s i o
  | none => Vacant g s i

/-- A cassette has a leveling record exactly while it is LEVELING, and then a note; and its figures add up. -/
structure Cassette.Sound (tallied : Bool) (r : Cassette) : Prop where
  session : r.state = .leveling ↔ r.leveling.isSome = true
  note : r.state = .leveling → 0 < r.current
  tally : tallied = true → r.state.counted = true → r.balanced = true

/-- The cassettes and what is reserved of them. -/
structure StoreBooks (g : Stage) (s : State) : Prop where
  dues : ∀ c, (s.cassette c).reserved = s.demand c
  ready : ∀ c, 0 < (s.cassette c).reserved → 0 < (s.cassette c).current → (s.cassette c).state = .ready
  bound : ∀ c, g.short ≠ some c → (s.cassette c).reserved ≤ (s.cassette c).current
  sound : ∀ c, (s.cassette c).Sound g.tallied

/-- The transport, its queue and the leveling sessions. -/
structure PathBooks (g : Stage) (s : State) : Prop where
  claims : g.course = .running → ∀ c, .leveling c ∈ s.path.queue → (s.cassette c).state = .leveling
  levels : ∀ c, s.path.holder = some (.leveling c) →
    g.course = .running ∧ s.path.state = .leveling ∧ (s.cassette c).state = .leveling
  reading : s.path.heldReading.isSome = true → ∃ c, s.path.holder = some (.leveling c) ∧
    (s.cassette c).leveling.any (fun v => v.phase == .holding) = true
  still : s.sup.phase.isSome = true → s.path.state ≠ .picking
  rest : g.course = .running → s.sup.phase = some .settle → s.path.holder = none ∧ s.path.heldReading = none
  settle : g.course ≠ .running → s.sup.phase = some .settle

/-- The placement order and the slots of the order table. -/
structure SlotBooks (g : Stage) (s : State) : Prop where
  nodup : s.custody.placement.Nodup
  booked : ∀ i, Booked g s i

/-- The books of the part. -/
structure Books (g : Stage) (s : State) : Prop where
  slots : SlotBooks g s
  store : StoreBooks g s
  path : PathBooks g s

/-! ### What the books look at -/

/-- What the books look at in an order. -/
def Order.place (o : Order) : OrderState × LaneId × List MixEntry := (o.state, o.lane, o.mix)

/-- A cassette but for the fields that the books do not look at. -/
def Cassette.figures (r : Cassette) : Cassette :=
  { r with value := 0, guard := 0, lowMark := 0, lowFlag := false, reference := 0, shutter := .shut, mark := false }

/-- What the books look at in the transport record. -/
def NotePath.stand (p : NotePath) : PathState × Option Claim × Option Nat × List Claim × Option Nat :=
  (p.state, p.holder, p.entry, p.queue, p.heldReading)

/-- What the books look at in a lane. -/
def Lane.bundles (r : Lane) : Option OrderSlot × Option OrderSlot := (r.head, r.load)

/-- Two states that the books do not tell apart. -/
structure SameBooks (s t : State) : Prop where
  orders : ∀ i, (t.order i).map Order.place = (s.order i).map Order.place
  placement : t.custody.placement = s.custody.placement
  cassettes : ∀ c, (t.cassette c).figures = (s.cassette c).figures
  lanes : ∀ l, (t.lane l).bundles = (s.lane l).bundles
  path : t.path.stand = s.path.stand
  phase : t.sup.phase = s.sup.phase

variable {g : Stage} {s t u : State} {i k : OrderSlot} {o q : Order} {c : CassetteId} {l : LaneId}

theorem Order.place_eq (h : q.place = o.place) : q.state = o.state ∧ q.lane = o.lane ∧ q.mix = o.mix := by
  simpa [Order.place] using h

theorem Order.nextEntry_of_mix (h : q.mix = o.mix) : q.nextEntry = o.nextEntry := by
  unfold Order.nextEntry
  rw [h]

theorem Order.need_of_mix (h : q.mix = o.mix) (c : CassetteId) : q.need c = o.need c := by
  unfold Order.need
  rw [h]

/-- The fields of a cassette that the books look at. -/
theorem Cassette.figures_eq {r q : Cassette} (h : q.figures = r.figures) :
    (q.state = r.state ∧ q.current = r.current ∧ q.reserved = r.reserved ∧ q.leveling = r.leveling) ∧
    q.balanced = r.balanced := by
  have state := congrArg Cassette.state h
  have current := congrArg Cassette.current h
  have reserved := congrArg Cassette.reserved h
  have leveling := congrArg Cassette.leveling h
  have balanced := congrArg Cassette.balanced h
  exact ⟨⟨state, current, reserved, leveling⟩, balanced⟩

theorem Cassette.Sound.of_figures {b : Bool} {r q : Cassette} (h : r.Sound b) (same : q.figures = r.figures) : q.Sound b := by
  obtain ⟨⟨state, current, _, leveling⟩, balanced⟩ := Cassette.figures_eq same
  exact ⟨by rw [state, leveling]; exact h.session, by rw [state, current]; exact h.note,
    by rw [state, balanced]; exact h.tally⟩

/-! ### What the orders still need -/

/-- What the order in a slot holds reserved of a cassette. -/
def dueOf (r : Option Order) (c : CassetteId) : Nat :=
  match r with
  | some o => if o.state.reserves then o.need c else 0
  | none => 0

theorem demand_eq_sum (s : State) (c : CassetteId) : s.demand c = ∑ i, dueOf (s.order i) c := by
  rw [← List.sum_ofFn]
  unfold State.demand positions
  rw [List.map_ofFn]
  rfl

theorem dueOf_of_place {r q : Option Order} (h : q.map Order.place = r.map Order.place) (c : CassetteId) :
    dueOf q c = dueOf r c := by
  cases q <;> cases r <;> simp at h
  · rfl
  · obtain ⟨state, _, mix⟩ := Order.place_eq h
    simp [dueOf, state, Order.need_of_mix mix]

theorem demand_of_orders (h : ∀ i, (t.order i).map Order.place = (s.order i).map Order.place) (c : CassetteId) :
    t.demand c = s.demand c := by
  rw [demand_eq_sum, demand_eq_sum]
  exact Finset.sum_congr rfl fun i _ => dueOf_of_place (h i) c

/-- The demand follows the one order that changes. -/
theorem demand_exchange (h : ∀ k, k ≠ i → t.order k = s.order k) (c : CassetteId) :
    t.demand c + dueOf (s.order i) c = s.demand c + dueOf (t.order i) c := by
  have rest : ∑ k ∈ Finset.univ.erase i, dueOf (t.order k) c = ∑ k ∈ Finset.univ.erase i, dueOf (s.order k) c :=
    Finset.sum_congr rfl fun k hk => by rw [h k (Finset.ne_of_mem_erase hk)]
  rw [demand_eq_sum, demand_eq_sum, ← Finset.sum_erase_add _ _ (Finset.mem_univ i),
    ← Finset.sum_erase_add (a := i) Finset.univ (fun k => dueOf (s.order k) c) (Finset.mem_univ i), rest]
  omega

/-- What one order holds is part of the demand. -/
theorem due_le_demand (s : State) (i : OrderSlot) (c : CassetteId) : dueOf (s.order i) c ≤ s.demand c := by
  rw [demand_eq_sum]
  exact Finset.single_le_sum (f := fun i => dueOf (s.order i) c) (fun _ _ => Nat.zero_le _) (Finset.mem_univ i)

/-- Nothing is reserved of a cassette that no order holds anything of. -/
theorem demand_zero (h : ∀ i, dueOf (s.order i) c = 0) : s.demand c = 0 := by
  rw [demand_eq_sum]
  exact Finset.sum_eq_zero fun i _ => h i

/-! ### States that the books do not tell apart -/

namespace SameBooks

theorem refl (s : State) : SameBooks s s := ⟨fun _ => rfl, rfl, fun _ => rfl, fun _ => rfl, rfl, rfl⟩

theorem trans (h : SameBooks s t) (k : SameBooks t u) : SameBooks s u :=
  ⟨fun i => (k.orders i).trans (h.orders i), k.placement.trans h.placement, fun c => (k.cassettes c).trans (h.cassettes c),
    fun l => (k.lanes l).trans (h.lanes l), k.path.trans h.path, k.phase.trans h.phase⟩

end SameBooks

theorem NotePath.stand_eq {p q : NotePath} (h : q.stand = p.stand) :
    q.state = p.state ∧ q.holder = p.holder ∧ q.entry = p.entry ∧ q.queue = p.queue ∧ q.heldReading = p.heldReading := by
  simpa [NotePath.stand] using h

theorem Lane.bundles_eq {r q : Lane} (h : q.bundles = r.bundles) : q.head = r.head ∧ q.load = r.load := by
  simpa [Lane.bundles] using h

theorem Course.Holds.of_same {v : Course} {p r : NotePath} (h : v.Holds p o) (state : r.state = p.state)
    (entry : r.entry = p.entry) (place : q.place = o.place) : v.Holds r q := by
  obtain ⟨hs, _, hm⟩ := Order.place_eq place
  cases v with
  | running => simpa only [Course.Holds, state, entry, hs, Order.nextEntry_of_mix hm] using h
  | settling => simpa only [Course.Holds, hs] using h
  | settled => simpa only [Course.Holds, hs] using h

theorem Booked.of_same (h : Booked g s i) (same : SameBooks s t) : Booked g t i := by
  obtain ⟨state, holder, entry, queue, _⟩ := NotePath.stand_eq same.path
  have head l := (Lane.bundles_eq (same.lanes l)).1
  have load l := (Lane.bundles_eq (same.lanes l)).2
  have orders := same.orders i
  unfold Booked at h ⊢
  cases hs : s.order i <;> cases ht : t.order i <;> simp only [hs, ht, Option.map_none, Option.map_some, reduceCtorEq,
    Option.some.injEq] at orders <;> simp only [hs] at h ⊢
  · exact ⟨same.placement ▸ h.live, queue ▸ h.queue, holder ▸ h.holder, fun l => head l ▸ h.head l, fun l => load l ▸ h.load l⟩
  · next o q =>
    obtain ⟨hst, hl, hm⟩ := Order.place_eq orders
    exact ⟨by rw [same.placement, hst]; exact h.live, by rw [queue, hst]; exact h.queue,
      fun hh => (h.holder (holder ▸ hh)).of_same state entry orders, by rw [hst, same.phase, holder]; exact h.picks,
      fun l => by rw [head, load, holder, hst, hl]; exact h.head l, fun l => by rw [load, hst, hl]; exact h.load l,
      by rw [hst]; exact h.allowed⟩

theorem StoreBooks.of_same (h : StoreBooks g s) (orders : ∀ i, (t.order i).map Order.place = (s.order i).map Order.place)
    (cassettes : ∀ c, (t.cassette c).figures = (s.cassette c).figures) : StoreBooks g t := by
  refine ⟨fun c => ?_, fun c => ?_, fun c => ?_, fun c => (h.sound c).of_figures (cassettes c)⟩ <;>
    obtain ⟨⟨state, current, reserved, _⟩, _⟩ := Cassette.figures_eq (cassettes c)
  · rw [demand_of_orders orders, reserved]
    exact h.dues c
  · rw [state, current, reserved]
    exact h.ready c
  · rw [current, reserved]
    exact h.bound c

theorem PathBooks.of_same (h : PathBooks g s) (path : t.path.stand = s.path.stand) (phase : t.sup.phase = s.sup.phase)
    (cassettes : ∀ c, (t.cassette c).figures = (s.cassette c).figures) : PathBooks g t := by
  obtain ⟨state, holder, _, queue, held⟩ := NotePath.stand_eq path
  have cs c := (Cassette.figures_eq (cassettes c)).1.1
  have cl c := (Cassette.figures_eq (cassettes c)).1.2.2.2
  exact ⟨by simp only [queue, cs]; exact h.claims, by simp only [holder, state, cs]; exact h.levels,
    by simp only [held, holder, cl]; exact h.reading, by rw [phase, state]; exact h.still,
    by rw [phase, holder, held]; exact h.rest, by rw [phase]; exact h.settle⟩

theorem Books.of_same (h : Books g s) (same : SameBooks s t) : Books g t :=
  ⟨⟨same.placement ▸ h.slots.nodup, fun i => (h.slots.booked i).of_same same⟩, h.store.of_same same.orders same.cassettes,
    h.path.of_same same.path same.phase same.cassettes⟩

/-! ### Updates that the books do not see -/

namespace Books

theorem modCassette (h : Books g s) (c : CassetteId) (f : Cassette → Cassette)
    (same : ∀ r, (f r).figures = r.figures := by intro r; rfl) : Books g (s.modCassette c f) :=
  h.of_same { SameBooks.refl s with
    cassettes := fun k => by
      rw [State.modCassette_cassette]
      split
      · exact same _
      · rfl }

theorem modOrder_at (h : Books g s) {f : Order → Order} (same : ∀ o, s.order i = some o → (f o).place = o.place) :
    Books g (s.modOrder i f) :=
  h.of_same { SameBooks.refl s with
    orders := fun k => by
      rw [State.modOrder_order]
      split
      next e =>
        subst e
        cases order : s.order i with
        | none => rfl
        | some o => simp [same o order]
      · rfl }

theorem modOrder (h : Books g s) (i : OrderSlot) (f : Order → Order)
    (same : ∀ o, (f o).place = o.place := by intro o; rfl) : Books g (s.modOrder i f) :=
  h.modOrder_at fun o _ => same o

theorem modLane (h : Books g s) (l : LaneId) (f : Lane → Lane)
    (same : ∀ r, (f r).bundles = r.bundles := by intro r; rfl) : Books g (s.modLane l f) :=
  h.of_same { SameBooks.refl s with
    lanes := fun k => by
      rw [State.modLane_lane]
      split
      · exact same _
      · rfl }

theorem modPath (h : Books g s) (f : NotePath → NotePath) (same : (f s.path).stand = s.path.stand := by rfl) :
    Books g (s.modPath f) :=
  h.of_same { SameBooks.refl s with path := same }

theorem modSup (h : Books g s) (f : Supervisor → Supervisor) (same : (f s.sup).phase = s.sup.phase := by rfl) :
    Books g (s.modSup f) :=
  h.of_same { SameBooks.refl s with phase := same }

/-- An update that leaves all that the books look at. -/
theorem blind (h : Books g s) (orders : t.custody.orders = s.custody.orders := by rfl)
    (placement : t.custody.placement = s.custody.placement := by rfl)
    (cassettes : t.custody.cassettes = s.custody.cassettes := by rfl) (lanes : t.custody.lanes = s.custody.lanes := by rfl)
    (path : t.path = s.path := by rfl) (sup : t.sup = s.sup := by rfl) : Books g t :=
  h.of_same ⟨fun i => by simp [State.order, orders], placement, fun c => by simp [State.cassette, cassettes],
    fun l => by simp [State.lane, lanes], by rw [path], by rw [sup]⟩

theorem modZone (h : Books g s) (z : ZoneId) (f : Zone → Zone) : Books g (s.modZone z f) := h.blind
theorem modBins (h : Books g s) (f : Bins → Bins) : Books g (s.modBins f) := h.blind
theorem modWork (h : Books g s) (l : LaneId) (f : LaneWork → LaneWork) : Books g (s.modWork l f) := h.blind
theorem modEnvelope (h : Books g s) (n : Nat) (f : Envelope → Envelope) : Books g (s.modEnvelope n f) := h.blind
theorem modConveyor (h : Books g s) (f : Conveyor → Conveyor) : Books g (s.modConveyor f) := h.blind
theorem modAlarm (h : Books g s) (f : AlarmUnit → AlarmUnit) : Books g (s.modAlarm f) := h.blind
theorem modPort (h : Books g s) (f : Port → Port) : Books g (s.modPort f) := h.blind
theorem modWatch (h : Books g s) (f : WatchUnit → WatchUnit) : Books g (s.modWatch f) := h.blind
theorem modLevels (h : Books g s) (f : FieldLevels → FieldLevels) : Books g (s.modLevels f) := h.blind
theorem raise (h : Books g s) (n : Notice) : Books g (s.raise n) := h.blind (by simp) (by simp) (by simp) (by simp) (by simp) (by simp)
theorem raiseIf (h : Books g s) (b : Bool) (n : Notice) : Books g (s.raiseIf b n) :=
  h.blind (by simp) (by simp) (by simp) (by simp) (by simp) (by simp)

/-- A passage through the positions. -/
theorem forEach {n : Nat} {f : Fin n → State → State} (h : Books g s) (turn : ∀ i t, Books g t → Books g (f i t)) :
    Books g (Machine.forEach f s) :=
  forEach_keeps (Books g) f turn s h

/-- The end of an event, which sets marks alone. -/
theorem finish {before after : State} {named access : Option RecordRef} (h : Books g after) :
    Books g (finish before after named access) :=
  h.of_same ⟨fun i => by rw [finish_order]; split <;> cases after.order i <;> rfl, by simp,
    fun c => by rw [finish_cassette]; split <;> rfl, fun l => by rw [finish_lane]; split <;> rfl, by simp, by simp⟩

end Books

end Sys2Proof.Machine
end

section
/-! The books outside recovery are the laws of the part; and what an operation must show of the one order it changes. -/

namespace Sys2Proof.Machine
set_option Elab.async false

variable {g : Stage} {s t : State} {i k : OrderSlot} {o q : Order} {c : CassetteId} {l : LaneId}

/-- Outside recovery, with no cassette short. -/
def Stage.plain (tallied : Bool) : Stage where
  course := .running
  short := none
  tallied := tallied

theorem Booked.of_order (h : Booked g s i) (order : s.order i = some o) : Placed g s i o := by
  simpa [Booked, order] using h

theorem Booked.of_free (h : Booked g s i) (order : s.order i = none) : Vacant g s i := by
  simpa [Booked, order] using h

theorem Placed.booked (h : Placed g s i o) (order : s.order i = some o) : Booked g s i := by
  simpa [Booked, order] using h

theorem Books.placed (h : Books g s) (order : s.order i = some o) : Placed g s i o := (h.slots.booked i).of_order order

/-- What a slot holds that is named somewhere. -/
theorem Books.order_of (h : Books g s) (named : Vacant g s i → False) : ∃ o, s.order i = some o ∧ Placed g s i o := by
  cases order : s.order i with
  | none => exact absurd ((h.slots.booked i).of_free order) named
  | some o => exact ⟨o, rfl, h.placed order⟩

theorem Books.order_of_head (h : Books g s) (head : (s.lane l).head = some i) : ∃ o, s.order i = some o ∧ Placed g s i o :=
  h.order_of fun v => v.head l head

theorem Books.order_of_load (h : Books g s) (load : (s.lane l).load = some i) : ∃ o, s.order i = some o ∧ Placed g s i o :=
  h.order_of fun v => v.load l load

theorem Books.order_of_holder (h : Books g s) (holder : s.path.holder = some (.order i)) :
    ∃ o, s.order i = some o ∧ Placed g s i o :=
  h.order_of fun v => v.holder holder

theorem books_of_laws {b : Bool} (second : SecondLaw s) (session : SessionLaw s) (place : PlaceLaw s)
    (first : b = true → FirstLaw s) : Books (.plain b) s := by
  obtain ⟨nodup, live, queue, holder, picks, head, load, still, rest⟩ := place
  obtain ⟨sound, claims, levels, reading⟩ := session
  refine ⟨⟨nodup, fun i => ?_⟩, ⟨fun c => (second c).1, fun c pos _ => (second c).2.2 pos, fun c _ => (second c).2.1,
    fun c => ⟨(sound c).1, (sound c).2, fun t => first t c⟩⟩,
    ⟨fun _ => claims, fun c h => ⟨rfl, levels c h⟩, reading, still, fun _ => rest, fun h => absurd rfl h⟩⟩
  unfold Booked
  cases order : s.order i with
  | none =>
    refine ⟨fun m => ?_, fun _ m => ?_, fun m => ?_, fun l m => ?_, fun l m => ?_⟩
    · have := (live i).mp m; simp [order] at this
    · have := queue i m; simp [order] at this
    · have := holder i m; simp [order] at this
    · have := (head l i m).1; simp [order] at this
    · have := load l i m; simp [order] at this
  | some o =>
    refine ⟨by simpa [order] using live i, fun _ m => by simpa [order] using queue i m, fun m => ?_,
      fun m => picks i (by simp [order, m]), fun l m => ?_, fun l m => by simpa [order, or_assoc] using load l i m,
      fun m => by cases m⟩
    · have := holder i m
      simp only [order, Option.any_some, Bool.and_eq_true, beq_iff_eq, Bool.or_eq_true, bne_iff_ne, ne_eq] at this
      exact ⟨this.1, fun p => this.2.resolve_left fun n => n p⟩
    · obtain ⟨a, b⟩ := head l i m
      simp only [order, Option.any_some, Bool.and_eq_true, beq_iff_eq, Bool.or_eq_true] at a
      exact ⟨a.1, a.2, b⟩

namespace Books

variable {b : Bool}

theorem firstLaw (h : Books (.plain true) s) : FirstLaw s := fun c => (h.store.sound c).tally rfl

theorem secondLaw (h : Books (.plain b) s) : SecondLaw s := fun c =>
  have bound := h.store.bound c (by simp [Stage.plain])
  ⟨h.store.dues c, bound, fun pos => h.store.ready c pos (Nat.lt_of_lt_of_le pos bound)⟩

theorem sessionLaw (h : Books (.plain b) s) : SessionLaw s :=
  ⟨fun c => ⟨(h.store.sound c).session, (h.store.sound c).note⟩, h.path.claims rfl, fun c hc => (h.path.levels c hc).2,
    h.path.reading⟩

theorem placeLaw (h : Books (.plain b) s) : PlaceLaw s := by
  refine ⟨h.slots.nodup, fun i => ?_, fun i m => ?_, fun i m => ?_, fun i m => ?_, fun l i m => ?_, fun l i m => ?_, h.path.still,
    h.path.rest rfl⟩
  · cases order : s.order i with
    | none => simpa using ((h.slots.booked i).of_free order).live
    | some o => simpa using (h.placed order).live
  · obtain ⟨o, order, p⟩ := h.order_of fun v => v.queue rfl m
    simpa [order] using p.queue rfl m
  · obtain ⟨o, order, p⟩ := h.order_of_holder m
    obtain ⟨state, entry⟩ := p.holder m
    simp only [order, Option.any_some, state, beq_self_eq_true, Bool.true_and, Bool.or_eq_true, bne_iff_ne, beq_iff_eq]
    by_cases picking : o.state = .picking
    · exact .inr (entry picking)
    · exact .inl picking
  · cases order : s.order i with
    | none => simp [order] at m
    | some o => exact (h.placed order).picks (by simpa [order] using m)
  · obtain ⟨o, order, p⟩ := h.order_of_head m
    obtain ⟨lane, state, apart⟩ := p.head l m
    exact ⟨by simpa [order, lane] using state, apart⟩
  · obtain ⟨o, order, p⟩ := h.order_of_load m
    obtain ⟨lane, state⟩ := p.load l m
    simpa [order, lane, or_assoc] using state

end Books

/-! ### One order changes -/

/-- What an operation that changes at most the slot i leaves of the places of all other orders. -/
structure Spares (i : Option OrderSlot) (s t : State) : Prop where
  orders : ∀ k, i ≠ some k → t.order k = s.order k
  placement : ∀ k, i ≠ some k → (k ∈ t.custody.placement ↔ k ∈ s.custody.placement)
  queue : ∀ k, i ≠ some k → .order k ∈ t.path.queue → .order k ∈ s.path.queue
  holder : ∀ k, i ≠ some k → t.path.holder = some (.order k) →
    s.path.holder = some (.order k) ∧ t.path.state = s.path.state ∧ t.path.entry = s.path.entry
  holds : ∀ k, i ≠ some k → (s.order k).any (fun o => o.state == .picking) = true → s.path.holder = some (.order k) →
    t.path.holder = some (.order k)
  head : ∀ l k, i ≠ some k → (t.lane l).head = some k → (s.lane l).head = some k
  load : ∀ l k, i ≠ some k → (t.lane l).load = some k → (s.lane l).load = some k
  phase : t.sup.phase = s.sup.phase

theorem Spares.refl (i : Option OrderSlot) (s : State) : Spares i s s :=
  ⟨fun _ _ => rfl, fun _ _ => .rfl, fun _ _ h => h, fun _ _ h => ⟨h, rfl, rfl⟩, fun _ _ _ h => h, fun _ _ _ h => h,
    fun _ _ _ h => h, rfl⟩

theorem Booked.of_spares {n : Option OrderSlot} (h : Booked g s k) (spares : Spares n s t) (apart : n ≠ some k) :
    Booked g t k := by
  unfold Booked at h ⊢
  rw [spares.orders k apart]
  cases order : s.order k with
  | none =>
    simp only [order] at h ⊢
    exact ⟨fun m => h.live ((spares.placement k apart).mp m), fun r m => h.queue r (spares.queue k apart m),
      fun m => h.holder (spares.holder k apart m).1, fun l m => h.head l (spares.head l k apart m),
      fun l m => h.load l (spares.load l k apart m)⟩
  | some o =>
    simp only [order] at h ⊢
    refine ⟨(spares.placement k apart).trans h.live, fun r m => h.queue r (spares.queue k apart m), fun m => ?_,
      fun m => ?_, fun l m => ?_, fun l m => h.load l (spares.load l k apart m), h.allowed⟩
    · obtain ⟨held, state, entry⟩ := spares.holder k apart m
      exact (h.holder held).of_same state entry rfl
    · rw [spares.phase]
      exact (h.picks m).imp_right (spares.holds k apart (by simp [order, m]))
    · obtain ⟨lane, state, load, holder⟩ := h.head l (spares.head l k apart m)
      exact ⟨lane, state, fun e => load (spares.load l k apart e), fun e => holder (spares.holder k apart e).1⟩

/-- The slots after an operation that changes at most one. -/
theorem SlotBooks.of_spares {n : Option OrderSlot} (h : SlotBooks g s) (spares : Spares n s t)
    (own : ∀ i, n = some i → Booked g t i) (nodup : t.custody.placement.Nodup) : SlotBooks g t where
  nodup := nodup
  booked k := by
    by_cases e : n = some k
    · exact own k e
    · exact (h.booked k).of_spares spares e

theorem Spares.trans {n : Option OrderSlot} {u : State} (h : Spares n s t) (k : Spares n t u) : Spares n s u where
  orders i a := (k.orders i a).trans (h.orders i a)
  placement i a := (k.placement i a).trans (h.placement i a)
  queue i a m := h.queue i a (k.queue i a m)
  holder i a m := by
    obtain ⟨m, state, entry⟩ := k.holder i a m
    obtain ⟨m, state', entry'⟩ := h.holder i a m
    exact ⟨m, state.trans state', entry.trans entry'⟩
  holds i a p m := k.holds i a (by rw [h.orders i a]; exact p) (h.holds i a p m)
  head l i a m := h.head l i a (k.head l i a m)
  load l i a m := h.load l i a (k.load l i a m)
  phase := k.phase.trans h.phase

/-- The cassettes stand but for what is reserved, which follows the one order that changes. -/
theorem StoreBooks.exchange (h : StoreBooks g s) (others : ∀ k, k ≠ i → t.order k = s.order k)
    (cassettes : ∀ c, ∃ n, t.cassette c = { s.cassette c with reserved := n } ∧ n ≤ (s.cassette c).reserved ∧
      n + dueOf (s.order i) c = (s.cassette c).reserved + dueOf (t.order i) c) : StoreBooks g t := by
  refine ⟨fun c => ?_, fun c => ?_, fun c => ?_, fun c => ?_⟩ <;> obtain ⟨n, eq, fewer, moves⟩ := cassettes c
  · have demand := demand_exchange others c
    have dues := h.dues c
    rw [eq]
    simp only
    omega
  · rw [eq]
    exact fun pos => h.ready c (Nat.lt_of_lt_of_le pos fewer)
  · rw [eq]
    exact fun x => fewer.trans (h.bound c x)
  · obtain ⟨session, note, tally⟩ := h.sound c
    rw [eq]
    exact ⟨session, note, tally⟩

/-- The transport's part of the books, when its record loses at most claims of orders. -/
theorem PathBooks.of_queue (h : PathBooks g s) {list : List Claim} (path : t.path.stand = { s.path with queue := list }.stand)
    (fewer : ∀ c, .leveling c ∈ list → .leveling c ∈ s.path.queue) (phase : t.sup.phase = s.sup.phase)
    (cassettes : ∀ c, (t.cassette c).state = (s.cassette c).state ∧ (t.cassette c).leveling = (s.cassette c).leveling) :
    PathBooks g t := by
  obtain ⟨state, holder, _, queue, held⟩ := NotePath.stand_eq path
  simp only at state holder queue held
  exact ⟨by simp only [queue, cassettes]; exact fun r c m => h.claims r c (fewer c m),
    by simp only [holder, state, cassettes]; exact h.levels,
    by simp only [held, holder, cassettes]; exact h.reading, by rw [phase, state]; exact h.still,
    by rw [phase, holder, held]; exact h.rest, by rw [phase]; exact h.settle⟩

end Sys2Proof.Machine
end

section
/-! The shared operations on orders and on the transport keep the books. -/

namespace Sys2Proof.Machine
set_option Elab.async false

variable {g : Stage} {s t : State} {n : Option OrderSlot} {i k : OrderSlot} {o q : Order} {c : CassetteId} {l : LaneId}

/-! ### What the operations leave of the other orders -/

theorem Spares.modPath {f : NotePath → NotePath} (h : Spares n s t)
    (queue : ∀ k, .order k ∈ (f t.path).queue → .order k ∈ t.path.queue := by exact fun _ m => m)
    (holder : ∀ k, n ≠ some k → (f t.path).holder = some (.order k) → t.path.holder = some (.order k) ∧
      (f t.path).state = t.path.state ∧ (f t.path).entry = t.path.entry := by exact fun _ _ m => ⟨m, rfl, rfl⟩)
    (holds : ∀ k, n ≠ some k → (t.order k).any (fun o => o.state == .picking) = true → t.path.holder = some (.order k) →
      (f t.path).holder = some (.order k) := by exact fun _ _ _ m => m) : Spares n s (t.modPath f) :=
  h.trans { Spares.refl n t with queue := fun k _ => queue k, holder := holder, holds := holds }

theorem Spares.modOrder (h : Spares (some i) s t) (f : Order → Order) : Spares (some i) s (t.modOrder i f) :=
  h.trans { Spares.refl (some i) t with
    orders := fun k a => by
      rw [State.modOrder_order, if_neg]
      rintro rfl
      exact a rfl }

theorem Spares.modCassette (h : Spares n s t) (c : CassetteId) (f : Cassette → Cassette) : Spares n s (t.modCassette c f) :=
  h.trans { Spares.refl n t with }

/-- A lane may lose its bundles, or take that of the order that changes. -/
theorem Spares.modLane (h : Spares n s t) (l : LaneId) (f : Lane → Lane)
    (head : ∀ r k, n ≠ some k → (f r).head = some k → r.head = some k := by intro r k a m; first | exact m | cases m)
    (load : ∀ r k, n ≠ some k → (f r).load = some k → r.load = some k := by intro r k a m; first | exact m | cases m) :
    Spares n s (t.modLane l f) :=
  h.trans { Spares.refl n t with
    head := fun j k a m => by
      rw [State.modLane_lane] at m
      split at m
      · exact head _ k a m
      · exact m
    load := fun j k a m => by
      rw [State.modLane_lane] at m
      split at m
      · exact load _ k a m
      · exact m }

@[simp] theorem releaseReservations_lane (i : OrderSlot) (s : State) (l : LaneId) :
    (releaseReservations i s).lane l = s.lane l := by
  obtain ⟨v, h⟩ := releaseReservations_rest i s
  rw [h]
  rfl

@[simp] theorem releaseReservations_sup (i : OrderSlot) (s : State) : (releaseReservations i s).sup = s.sup := by
  obtain ⟨v, h⟩ := releaseReservations_rest i s
  rw [h]

@[simp] theorem endOrder_sup (i : OrderSlot) (f : Order → Order) (s : State) : (endOrder i f s).sup = s.sup := rfl

theorem Spares.releaseReservations (h : Spares n s t) (i : OrderSlot) : Spares n s (Machine.releaseReservations i t) :=
  h.trans { Spares.refl n (Machine.releaseReservations i t) with
    orders := fun k _ => by simp
    placement := fun k _ => by simp
    queue := fun k _ m => by simpa using m
    holder := fun k _ m => by simpa using m
    holds := fun k _ _ m => by simpa using m
    head := fun l k _ m => by simpa using m
    load := fun l k _ m => by simpa using m
    phase := by simp }

theorem Spares.endOrder (h : Spares (some i) s t) (f : Order → Order) : Spares (some i) s (Machine.endOrder i f t) :=
  h.trans { Spares.refl (some i) t with
    orders := fun k a => by
      rw [endOrder_order, if_neg]
      rintro rfl
      exact a rfl
    placement := fun k a => by
      have apart : k ≠ i := fun e => a (by rw [e])
      simp [apart]
    queue := fun k _ m => by
      simp only [endOrder_path, List.mem_filter] at m
      exact m.1 }

/-! ### The end of an order -/

/-- An order that has ended stands nowhere. -/
theorem Placed.of_terminal (terminal : o.state.terminal = true) (out : i ∉ s.custody.placement)
    (queue : .order i ∉ s.path.queue) (holder : s.path.holder ≠ some (.order i)) (head : ∀ l, (s.lane l).head ≠ some i)
    (load : ∀ l, (s.lane l).load ≠ some i) : Placed g s i o := by
  refine ⟨by simp [out, terminal], fun _ m => absurd m queue, fun m => absurd m holder, fun m => ?_,
    fun l m => absurd m (head l), fun l m => absurd m (load l), fun _ => ?_⟩ <;>
    cases h : o.state <;> simp_all [OrderState.terminal, OrderState.reserves]

/-- An order that holds the transport has begun to move. -/
theorem Course.Holds.moves {v : Course} {p : NotePath} (h : v.Holds p o) :
    o.state = .picking ∨ o.state = .routing ∨ o.state = .aborting := by
  cases v with
  | running =>
    obtain ⟨state, -⟩ := h
    cases at_ : p.state <;> simp [at_, PathState.holderState] at state <;> simp [← state]
  | settling => exact .inr (.inr h)
  | settled => exact .inr (.inr h)

/-- Only a transport in PICKING is held by an order in PICKING. -/
theorem Course.Holds.not_picking {v : Course} {p : NotePath} (h : v.Holds p o) (apart : p.state ≠ .picking) :
    o.state ≠ .picking := by
  intro picks
  cases v with
  | running =>
    obtain ⟨state, -⟩ := h
    rw [picks] at state
    cases at_ : p.state <;> simp_all [PathState.holderState]
  | settling => simp [Course.Holds, picks] at h
  | settled => simp [Course.Holds, picks] at h

/-- An order that waits for the transport stands in no lane and does not hold the transport. -/
theorem Placed.waits_alone (p : Placed g s i o) (waits : o.state = .held ∨ o.state = .queued) :
    s.path.holder ≠ some (.order i) ∧ (∀ l, (s.lane l).head ≠ some i) ∧ ∀ l, (s.lane l).load ≠ some i := by
  refine ⟨fun m => ?_, fun l m => ?_, fun l m => ?_⟩
  · rcases waits with w | w <;> simpa [w] using (p.holder m).moves
  · rcases waits with w | w <;> simpa [w] using (p.head l m).2.1
  · rcases waits with w | w <;> simpa [w] using (p.load l m).2

theorem SlotBooks.end {f : Order → Order} (h : SlotBooks g s) (order : s.order i = some o)
    (terminal : (f o).state.terminal = true) (spares : Spares (some i) s t)
    (ends : t.order i = some { f o with holdDeadline := none, presentDeadline := none })
    (placement : t.custody.placement = s.custody.placement.filter (· != i)) (queue : .order i ∉ t.path.queue)
    (holder : t.path.holder ≠ some (.order i)) (head : ∀ l, (t.lane l).head ≠ some i) (load : ∀ l, (t.lane l).load ≠ some i) :
    SlotBooks g t :=
  h.of_spares spares
    (fun k e => by
      cases e
      exact (Placed.of_terminal (o := { f o with holdDeadline := none, presentDeadline := none }) terminal (by simp [placement]) queue holder head load).booked ends)
    (by rw [placement]; exact h.nodup.filter _)

theorem dueOf_of_idle (order : s.order i = some o) (idle : o.state.reserves = false) (c : CassetteId) :
    dueOf (s.order i) c = 0 := by
  simp [dueOf, order, idle]

theorem reserves_of_terminal {v : OrderState} (h : v.terminal = true) : v.reserves = false := by
  cases v <;> simp_all [OrderState.terminal, OrderState.reserves]

/-- The reservations of an order that holds any are released as it stops reserving. -/
theorem StoreBooks.release (h : StoreBooks g s) (order : s.order i = some o) (reserves : o.state.reserves = true)
    (others : ∀ k, k ≠ i → t.order k = s.order k) (idle : ∀ c, dueOf (t.order i) c = 0)
    (cassettes : ∀ c, t.cassette c = { s.cassette c with reserved := (s.cassette c).reserved - o.need c }) :
    StoreBooks g t :=
  h.exchange others fun c => by
    have part := due_le_demand s i c
    rw [← h.dues c] at part
    simp only [order, dueOf, reserves, if_true] at part ⊢
    exact ⟨_, cassettes c, by omega, by have := idle c; unfold dueOf at this; omega⟩

/-- The cassettes stand, and the one order that changes reserves neither before nor after. -/
theorem StoreBooks.idle (h : StoreBooks g s) (others : ∀ k, k ≠ i → t.order k = s.order k)
    (due : ∀ c, dueOf (t.order i) c = dueOf (s.order i) c) (cassettes : ∀ c, t.cassette c = s.cassette c) : StoreBooks g t :=
  h.exchange others fun c => ⟨(s.cassette c).reserved, cassettes c, le_rfl, by rw [due]⟩

theorem PathBooks.dropClaim (h : PathBooks g s) (path : t.path = { s.path with queue := s.path.queue.filter (· != .order i) })
    (sup : t.sup = s.sup)
    (cassettes : ∀ c, (t.cassette c).state = (s.cassette c).state ∧ (t.cassette c).leveling = (s.cassette c).leveling) :
    PathBooks g t :=
  h.of_queue (by rw [path]) (fun c m => (List.mem_filter.mp m).1) (by rw [sup]) cassettes

/-- An order that reserves nothing ends, once it stands in no lane and does not hold the transport. -/
theorem Books.endOrder {f : Order → Order} (h : Books g s) (order : s.order i = some o)
    (terminal : (f o).state.terminal = true) (idle : o.state.reserves = false) (holder : s.path.holder ≠ some (.order i))
    (head : ∀ l, (s.lane l).head ≠ some i) (load : ∀ l, (s.lane l).load ≠ some i) : Books g (Machine.endOrder i f s) where
  slots := h.slots.end (f := f) order terminal ((Spares.refl _ s).endOrder f) (by simp [endOrder_order, order]) rfl (by simp)
    (by simpa using holder) (by simpa [endOrder_lane] using head) (by simpa [endOrder_lane] using load)
  store := h.store.idle (i := i) (fun k a => by rw [endOrder_order, if_neg (Ne.symm a)])
    (fun c => by
      rw [dueOf_of_idle order idle]
      exact dueOf_of_idle (o := { f o with holdDeadline := none, presentDeadline := none }) (by simp [endOrder_order, order])
        (reserves_of_terminal terminal) c)
    fun c => rfl
  path := h.path.dropClaim (i := i) rfl rfl fun c => ⟨rfl, rfl⟩

/-- An order that holds reservations ends and releases them, if it stands in no lane and does not hold the transport. -/
theorem Books.endReserving {f : Order → Order} (h : Books g s) (order : s.order i = some o)
    (terminal : (f o).state.terminal = true) (reserves : o.state.reserves = true) (holder : s.path.holder ≠ some (.order i))
    (head : ∀ l, (s.lane l).head ≠ some i) (load : ∀ l, (s.lane l).load ≠ some i) :
    Books g (Machine.endOrder i f (Machine.releaseReservations i s)) := by
  have ended : (Machine.endOrder i f (Machine.releaseReservations i s)).order i =
      some { f o with holdDeadline := none, presentDeadline := none } := by simp [endOrder_order, order]
  refine ⟨h.slots.end (f := f) order terminal (((Spares.refl _ s).releaseReservations i).endOrder _) ended (by simp) (by simp)
    (by simpa using holder) (by simpa [endOrder_lane] using head) (by simpa [endOrder_lane] using load), ?_, ?_⟩
  · refine h.store.release order reserves (fun k a => ?_)
      (dueOf_of_idle ended (reserves_of_terminal terminal)) fun c => ?_
    · simp [endOrder_order, Ne.symm a]
    · rw [endOrder_cassette, releaseReservations_cassette order]
  · refine h.path.dropClaim (i := i) (by simp) (by simp) fun c => ?_
    rw [endOrder_cassette, releaseReservations_cassette order]
    exact ⟨rfl, rfl⟩

/-- A HELD or QUEUED order ends and releases what it held reserved. -/
theorem Books.stopOrder (h : Books g s) (order : s.order i = some o) (waits : o.state = .held ∨ o.state = .queued)
    {v : OrderState} (terminal : v.terminal = true) (r : Reason) : Books g (Machine.stopOrder i v r s) := by
  obtain ⟨holder, head, load⟩ := (h.placed order).waits_alone waits
  exact h.endReserving order terminal (by rcases waits with w | w <;> rw [w] <;> rfl) holder head load

/-! ### The transport -/

theorem PathBooks.idle (h : PathBooks g s) (holder : t.path.holder = none) (held : t.path.heldReading = none)
    (state : t.path.state ≠ .picking) (phase : t.sup.phase = s.sup.phase)
    (claims : g.course = .running → ∀ c, .leveling c ∈ t.path.queue → (t.cassette c).state = .leveling) : PathBooks g t :=
  ⟨claims, by simp [holder], by simp [held], fun _ => state, fun _ _ => ⟨holder, held⟩, by rw [phase]; exact h.settle⟩

/-- The part does not start while an order is picked for. -/
theorem PathBooks.awake (h : PathBooks g s) (state : s.path.state = .picking) : s.sup.phase = none := by
  cases phase : s.sup.phase with
  | none => rfl
  | some v => exact absurd state (h.still (by rw [phase]; rfl))

/-- The picking order and what the books say of it. -/
theorem Books.picking_order (h : Books g s) (picking : s.pickingOrder = some (i, o)) :
    g.course = .running ∧ s.path.state = .picking ∧ s.path.holder = some (.order i) ∧ s.order i = some o ∧
      o.state = .picking ∧ s.path.entry = o.nextEntry := by
  obtain ⟨state, holder, order⟩ := pickingOrder_some picking
  have running : g.course = .running := by
    by_contra other
    exact h.path.still (by rw [h.path.settle other]; rfl) state
  have holds := (h.placed order).holder holder
  rw [running] at holds
  have picks : o.state = .picking := by
    have := holds.1
    rw [state] at this
    exact (Option.some.inj this).symm
  exact ⟨running, state, holder, order, picks, holds.2 picks⟩

theorem Order.endPurge_terminal (o : Order) : o.endPurge.state.terminal = true := by
  unfold Order.endPurge
  split <;> rfl

/-- The order in PICKING stops. -/
theorem Books.abortPicking (h : Books g s) (r : Reason) : Books g (Machine.abortPicking r s) := by
  unfold Machine.abortPicking
  split
  next i o picking =>
    obtain ⟨running, state, holder, order, picks, -⟩ := h.picking_order picking
    have p := h.placed order
    have head : ∀ l, (s.lane l).head ≠ some i := fun l m => by simpa [picks] using (p.head l m).2.1
    have load : ∀ l, (s.lane l).load ≠ some i := fun l m => by simpa [picks] using (p.load l m).2
    have reserves : o.state.reserves = true := by rw [picks]; rfl
    have awake := h.path.awake state
    have quiet : s.path.heldReading = none := by
      cases held : s.path.heldReading with
      | none => rfl
      | some v =>
        obtain ⟨c, hc, -⟩ := h.path.reading (by rw [held]; rfl)
        rw [holder] at hc
        cases hc
    split
    · have terminal := Order.endPurge_terminal { o with state := .aborting, reason := some r }
      have ended : (releaseTransport (Machine.endOrder i (fun o => { o with state := .aborting, reason := some r }.endPurge)
          (releaseReservations i s))).order i = some { ({ o with state := .aborting, reason := some r }.endPurge) with
            holdDeadline := none, presentDeadline := none } := by
        simp [releaseTransport, endOrder_order, order]
      refine ⟨h.slots.end (f := fun o => { o with state := .aborting, reason := some r }.endPurge) order terminal ?_ ended
        (by simp [releaseTransport]) (by simp [releaseTransport]) (by simp [releaseTransport])
        (by simpa [releaseTransport, endOrder_lane] using head) (by simpa [releaseTransport, endOrder_lane] using load), ?_, ?_⟩
      · refine (((Spares.refl _ s).releaseReservations i).endOrder _).modPath (holder := fun _ _ m => by cases m)
          (holds := fun k a _ m => ?_)
        simp only [endOrder_path, releaseReservations_path, holder, Option.some.injEq, Claim.order.injEq] at m
        exact absurd (congrArg some m) a
      · refine h.store.release order reserves (fun k a => ?_)
          (dueOf_of_idle ended (reserves_of_terminal terminal)) fun c => ?_
        · simp [releaseTransport, endOrder_order, Ne.symm a]
        · simp [releaseTransport, releaseReservations_cassette order]
      · refine h.path.idle rfl rfl (by simp [releaseTransport]) (by simp [releaseTransport]) fun _ c m => ?_
        simp only [releaseTransport, State.modPath_path, endOrder_path, releaseReservations_path, List.mem_filter] at m
        simpa [releaseTransport, releaseReservations_cassette order] using h.path.claims running c m.1
    · have ends : ((((releaseReservations i s).modOrder i fun o => { o with state := .aborting, reason := some r }).modPath
          fun p => { p with state := .purging, entry := none, misses := 0, attempt := none, run := some routeLimit,
                            routeDiverter := .retractBin })).order i =
          some { o with state := .aborting, reason := some r } := by simp [order]
      refine ⟨h.slots.of_spares (n := some i) ?_ (fun k e => ?_) (by simpa using h.slots.nodup), ?_, ?_⟩
      · refine (((Spares.refl _ s).releaseReservations i).modOrder _).modPath (holder := fun k a m => ?_)
        simp only [State.modOrder_path, releaseReservations_path, holder, Option.some.injEq, Claim.order.injEq] at m
        exact absurd (congrArg some m) a
      · cases e
        refine Placed.booked ⟨?_, fun _ m => ?_, fun _ => ?_, fun m => (by cases m), fun l m => ?_, fun l m => ?_, fun _ => rfl⟩ ends
        · have live := p.live
          simpa [picks, OrderState.terminal] using live
        · simp only [State.modPath_path, State.modOrder_path, releaseReservations_path] at m
          simpa [picks] using p.queue running m
        · rw [running]
          exact ⟨rfl, fun m => by cases m⟩
        · exact absurd (by simpa using m) (head l)
        · exact absurd (by simpa using m) (load l)
      · refine h.store.release order reserves (fun k a => ?_) (dueOf_of_idle ends rfl) fun c => ?_
        · simp [State.modOrder_order, Ne.symm a]
        · simp [releaseReservations_cassette order]
      · refine ⟨fun _ c m => ?_, fun c m => ?_, fun m => ?_, fun m => by simp, fun _ m => ?_, ?_⟩
        · simp only [State.modPath_path, State.modOrder_path, releaseReservations_path] at m
          simpa [releaseReservations_cassette order] using h.path.claims running c m
        · simp [holder] at m
        · simp [quiet] at m
        · simp [awake] at m
        · intro a
          exact absurd running a
  · exact h

end Sys2Proof.Machine
end

section
/-! The operations on heads, drawers and sessions keep the books, and so do the ends of routing and of purging. -/

namespace Sys2Proof.Machine
set_option Elab.async false

variable {g : Stage} {s t : State} {i k : OrderSlot} {o q : Order} {c : CassetteId} {l : LaneId}

namespace Books

/-! ### Orders that have left the transport -/

/-- A live order that reserves nothing takes another such state, one that befits the places it stands in. -/
theorem reseat {f : Order → Order} (h : Books g s) (order : s.order i = some o) (live : o.state.terminal = false)
    (live' : (f o).state.terminal = false) (idle : o.state.reserves = false) (idle' : (f o).state.reserves = false)
    (lane : (f o).lane = o.lane) (holder : s.path.holder ≠ some (.order i))
    (head : ∀ l, (s.lane l).head = some i → (f o).state = .staged ∨ (f o).state = .aborting)
    (load : ∀ l, (s.lane l).load = some i → (f o).state = .staged ∨ (f o).state = .presented ∨ (f o).state = .recalling) :
    Books g (s.modOrder i f) := by
  have p := h.placed order
  have moved : (s.modOrder i f).order i = some (f o) := by simp [order]
  refine ⟨h.slots.of_spares ((Spares.refl _ s).modOrder f) (fun k e => ?_) h.slots.nodup, ?_, ?_⟩
  · cases e
    refine Placed.booked ⟨by simpa [live, live'] using p.live, fun r m => ?_, fun m => absurd m holder, fun m => ?_,
      fun l m => ?_, fun l m => ⟨lane.trans (p.load l m).1, load l m⟩, fun _ => idle'⟩ moved
    · rw [p.queue r m] at idle
      cases idle
    · rw [m] at idle'
      cases idle'
    · obtain ⟨same, -, apart⟩ := p.head l m
      exact ⟨lane.trans same, head l m, apart⟩
  · refine h.store.idle (i := i) (fun k a => by rw [State.modOrder_order, if_neg (Ne.symm a)]) (fun c => ?_) fun c => rfl
    rw [dueOf_of_idle order idle, dueOf_of_idle moved idle']
  · exact h.path.of_same rfl rfl fun c => rfl

/-- A lane lets go of what it names. -/
theorem modLane_drop (h : Books g s) (l : LaneId) (f : Lane → Lane)
    (head : ∀ r k, (f r).head = some k → r.head = some k := by intro r k m; first | exact m | cases m)
    (load : ∀ r k, (f r).load = some k → r.load = some k := by intro r k m; first | exact m | cases m) :
    Books g (s.modLane l f) :=
  ⟨h.slots.of_spares (n := none) ((Spares.refl none s).modLane l f (fun r k _ => head r k) fun r k _ => load r k)
      (fun k e => by cases e) h.slots.nodup,
    h.store.of_same (fun _ => rfl) fun _ => rfl, h.path.of_same rfl rfl fun _ => rfl⟩

/-! ### Drawers -/

theorem driveDrawer (h : Books g s) (l : LaneId) (d : Drawer) : Books g (Machine.driveDrawer l d s) :=
  (h.modLane l fun r => { r with drawer := d }).modWork l _

theorem standDrawer (h : Books g s) (l : LaneId) (d : Drawer) : Books g (Machine.standDrawer l d s) :=
  (h.modLane l fun r => { r with drawer := d }).modWork l _

/-- An order in a drawer holds nothing reserved, stands in no head and does not hold the transport. -/
theorem loaded (h : Books g s) (load : (s.lane l).load = some i) (order : s.order i = some o) :
    o.state.terminal = false ∧ o.state.reserves = false ∧ s.path.holder ≠ some (.order i) ∧
      ∀ k, (s.lane k).head ≠ some i := by
  have p := h.placed order
  obtain ⟨lane, state⟩ := p.load l load
  refine ⟨?_, ?_, fun m => ?_, fun k m => ?_⟩
  · rcases state with e | e | e <;> rw [e] <;> rfl
  · rcases state with e | e | e <;> rw [e] <;> rfl
  · rcases (p.holder m).moves with e | e | e <;> simp [e] at state
  · obtain ⟨lane', -, apart, -⟩ := p.head k m
    obtain rfl : k = l := lane'.symm.trans lane
    exact apart load

/-- The order in a drawer takes another state that befits one. -/
theorem reload {f : Order → Order} (h : Books g s) (load : (s.lane l).load = some i)
    (lane : ∀ o, (f o).lane = o.lane)
    (state : ∀ o, (f o).place = o.place ∨ (f o).state = .presented ∨ (f o).state = .recalling) :
    Books g (s.modOrder i f) := by
  obtain ⟨o, order, p⟩ := h.order_of_load load
  obtain ⟨live, idle, holder, head⟩ := h.loaded load order
  have loadable : (f o).state = .staged ∨ (f o).state = .presented ∨ (f o).state = .recalling := by
    rcases state o with same | moved
    · rw [(Order.place_eq same).1]
      exact (p.load l load).2
    · exact .inr moved
  refine h.reseat order live ?_ idle ?_ (lane o) holder (fun k m => absurd m (head k)) fun k m => loadable <;>
    rcases loadable with e | e | e <;> rw [e] <;> rfl

theorem recallDrawer (h : Books g s) (l : LaneId) (r : Option Reason) : Books g (Machine.recallDrawer l r s) := by
  have driven := (h.driveDrawer l .retracting).modWork l fun w => { w with pendingRecall := none, clearingDue := false }
  unfold Machine.recallDrawer
  split
  next i load =>
    refine driven.reload (l := l) ?_ (fun o => ?_) fun o => ?_
    · simpa [Machine.driveDrawer] using load
    · unfold Order.toRecalling
      split <;> rfl
    · unfold Order.toRecalling
      split
      · exact .inr (.inr rfl)
      · exact .inl rfl
  · exact driven

theorem pendRecall (h : Books g s) (l : LaneId) (c : RecallCause) : Books g (Machine.pendRecall l c s) := h.modWork l _

theorem recallCause (h : Books g s) (l : LaneId) (c : RecallCause) : Books g (Machine.recallCause l c s) := by
  unfold Machine.recallCause
  split
  · exact h.recallDrawer l _
  · exact h.pendRecall l c
  all_goals exact h

theorem presentBundle (h : Books g s) (l : LaneId) : Books g (Machine.presentBundle l s) := by
  unfold Machine.presentBundle
  split
  next i load =>
    refine h.reload load (fun o => by split <;> rfl) fun o => ?_
    split
    · exact .inr (.inl rfl)
    · exact .inl rfl
  · exact h

theorem bringHome (h : Books g s) (l : LaneId) : Books g (Machine.bringHome l s) := by
  have driven := h.driveDrawer l .retracting
  unfold Machine.bringHome
  split
  next i load =>
    exact driven.reload (l := l) (by simpa [Machine.driveDrawer] using load) (fun o => rfl) fun o => .inr (.inr rfl)
  · exact driven

/-- The order in a drawer ends as the drawer lets go of it. -/
theorem endLoad (h : Books g s) (load : (s.lane l).load = some i) (f : Order → Order)
    (terminal : ∀ o, (f o).state.terminal = true) :
    Books g (Machine.endOrder i f (s.modLane l fun r => { r with load := none })) := by
  obtain ⟨o, order, p⟩ := h.order_of_load load
  obtain ⟨-, idle, holder, head⟩ := h.loaded load order
  refine (h.modLane_drop l fun r => { r with load := none }).endOrder (o := o) order (terminal o) idle holder
    (fun k m => ?_) fun k m => ?_
  · rw [State.modLane_lane] at m
    split at m <;> exact head _ m
  · rw [State.modLane_lane] at m
    split at m
    · cases m
    · next apart => exact apart ((p.load l load).1.symm.trans (p.load k m).1)

theorem endRecall (h : Books g s) (l : LaneId) : Books g (Machine.endRecall l s) := by
  unfold Machine.endRecall
  split
  next i load =>
    refine h.endLoad load _ fun o => ?_
    unfold Order.countedBack
    split
    · rfl
    · split <;> rfl
  · exact h

theorem dropEnvelope (h : Books g s) (l : LaneId) : Books g (Machine.dropEnvelope l s) :=
  (h.modLane l fun r => { r with claim := false }).blind

theorem takeEnvelope (h : Books g s) (l : LaneId) (e : EnvelopeReport) : Books g (Machine.takeEnvelope l e s) := by
  unfold Machine.takeEnvelope
  split
  · cases e with
    | absent => exact h.modLane l fun r => { r with claim := false }
    | present =>
      dsimp only
      split
      · exact h
      · exact h.dropEnvelope l
    | oversize => exact h.driveDrawer l .extending
  · cases e with
    | absent => exact h
    | present => exact h.driveDrawer l .extending
    | oversize => exact h.driveDrawer l .extending

/-! ### Heads -/

/-- An order in a head holds nothing reserved, stands in no drawer and does not hold the transport. -/
theorem headed (h : Books g s) (head : (s.lane l).head = some i) (order : s.order i = some o) :
    o.state.terminal = false ∧ o.state.reserves = false ∧ s.path.holder ≠ some (.order i) ∧
      ∀ k, (s.lane k).load ≠ some i := by
  have p := h.placed order
  obtain ⟨lane, state, apart, holder⟩ := p.head l head
  refine ⟨?_, ?_, holder, fun k m => ?_⟩
  · rcases state with e | e <;> rw [e] <;> rfl
  · rcases state with e | e <;> rw [e] <;> rfl
  · obtain rfl : k = l := (p.load k m).1.symm.trans lane
    exact apart m

theorem dumpHead (h : Books g s) (head : (s.lane l).head = some i) (r : Reason) : Books g (Machine.dumpHead l i r s) := by
  obtain ⟨o, order, p⟩ := h.order_of_head head
  obtain ⟨live, idle, holder, load⟩ := h.headed head order
  exact (h.reseat (f := fun o => { o with state := .aborting, reason := some r }) order live rfl idle rfl rfl holder
    (fun k _ => .inr rfl) fun k m => absurd m (load k)).modWork l _

theorem dumpStaged (h : Books g s) (l : LaneId) (r : Reason) : Books g (Machine.dumpStaged l r s) := by
  unfold Machine.dumpStaged
  split
  next i head =>
    split
    · split
      · exact h.dumpHead head r
      · exact h
    · exact h
  · exact h

theorem recoverHead (h : Books g s) (l : LaneId) : Books g (Machine.recoverHead l s) := by
  unfold Machine.recoverHead
  split
  next i head => exact h.dumpHead head _
  · exact h

/-- The bundle moves from the head into the drawer. -/
theorem loadBundle (h : Books g s) (staged : s.stagedIn l = true) : Books g (Machine.loadBundle l s) := by
  unfold Machine.loadBundle
  cases head : (s.lane l).head with
  | none => exact h
  | some i =>
    obtain ⟨o, order, p⟩ := h.order_of_head head
    obtain ⟨live, idle, holder, load⟩ := h.headed head order
    have state : o.state = .staged := by simpa [State.stagedIn, head, order] using staged
    refine Books.modOrder ?_ i _
    refine ⟨h.slots.of_spares (n := some i) ((Spares.refl _ s).modLane l _ (fun r k a m => by cases m)
      fun r k a m => absurd m a) (fun k e => ?_) h.slots.nodup, h.store.of_same (fun _ => rfl) fun _ => rfl,
      h.path.of_same rfl rfl fun _ => rfl⟩
    cases e
    refine Placed.booked ⟨p.live, p.queue, p.holder, p.picks, fun k m => ?_, fun k m => ?_, p.allowed⟩ order
    · rw [State.modLane_lane] at m
      split at m
      · cases m
      · next apart => exact absurd ((p.head l head).1.symm.trans (p.head k m).1) apart
    · refine ⟨?_, .inl state⟩
      rw [State.modLane_lane] at m
      split at m
      · next same => exact same ▸ (p.head l head).1
      · exact absurd m (load k)

theorem sendDrawer (h : Books g s) {m : SendMode} (staged : m.bundle = true → s.stagedIn l = true) :
    Books g (Machine.sendDrawer l m s) := by
  have loaded : Books g (if m.bundle then Machine.loadBundle l s else s) := by
    split
    next bundle => exact h.loadBundle (staged bundle)
    · exact h
  unfold Machine.sendDrawer
  refine Books.driveDrawer ?_ l _
  split
  · exact loaded.modLane l fun r => { r with claim := true }
  · exact loaded

/-! ### Sessions and locks -/

theorem closeOrder (h : Books g s) (l : LaneId) (r : Reason) (i : OrderSlot) : Books g (Machine.closeOrder l r i s) := by
  unfold Machine.closeOrder
  split
  next o order =>
    split
    next waits => exact h.stopOrder order waits.2 rfl r
    · exact h
  · exact h

theorem closeSession (h : Books g s) (l : LaneId) (c : CloseCause) : Books g (Machine.closeSession l c s) :=
  (((h.modLane l fun r => { r with session := .closing c }).forEach fun i _ h => h.closeOrder l c.reason i).dumpStaged l
    _).recallCause l _

theorem completeSessions (h : Books g s) : Books g (Machine.completeSessions s) :=
  h.forEach fun l t h => by
    unfold completeSession
    split
    · split
      · exact h.modLane l fun r => { r with session := .closed }
      · exact h
    all_goals exact h

theorem lockLane (h : Books g s) (l : LaneId) (z : ZoneId) : Books g (Machine.lockLane l z s) := by
  unfold Machine.lockLane
  split
  · exact (h.modLane l _).closeSession l _
  · exact h.modLane l _

theorem moveLock (h : Books g s) (l : LaneId) (z : ZoneId) : Books g (Machine.moveLock l z s) := by
  unfold Machine.moveLock
  split
  · exact h.modLane l _
  · exact h

/-! ### The events of drawers and heads -/

theorem outerLimit (h : Books g s) (l : LaneId) (b : BundleReport) : Books g (Machine.outerLimit l b s) := by
  have opened := (h.standDrawer l .opened).presentBundle l
  unfold Machine.outerLimit
  split
  · dsimp only
    split
    · exact opened.recallDrawer l _
    · split
      · exact opened.modWork l _
      · exact opened
  · exact h.modWork l _
  all_goals exact h

theorem innerLimit (h : Books g s) (l : LaneId) (e : EnvelopeReport) : Books g (Machine.innerLimit l e s) := by
  unfold Machine.innerLimit
  split
  · exact (((h.standDrawer l .closed).endRecall l).takeEnvelope l e).completeSessions
  · exact h.modWork l _
  all_goals exact h

theorem bundleClears (h : Books g s) (l : LaneId) : Books g (Machine.bundleClears l s) := by
  unfold Machine.bundleClears
  split
  next i drawer load =>
    split
    · have emptied := (h.endLoad load Order.takenWhole fun o => rfl).modWork l fun w => { w with clearingDue := false }
      dsimp only
      split
      · exact emptied
      · exact Books.driveDrawer emptied l .retracting
    · exact h
  · exact h

theorem dumpExpiry (h : Books g s) (l : LaneId) : Books g (Machine.dumpExpiry l s) := by
  unfold Machine.dumpExpiry
  split
  next i dump head =>
    obtain ⟨o, order, p⟩ := h.order_of_head head
    obtain ⟨-, idle, holder, load⟩ := h.headed head order
    refine Books.completeSessions (Books.modWork (s := Machine.endOrder i Order.endPurge
      (s.modLane l fun r => { r with head := none })) ?_ l _)
    refine (h.modLane_drop l fun r => { r with head := none }).endOrder order (Order.endPurge_terminal o) idle holder
      (fun k m => ?_) fun k m => ?_
    · rw [State.modLane_lane] at m
      split at m
      · cases m
      · next apart => exact apart ((p.head l head).1.symm.trans (p.head k m).1)
    · rw [State.modLane_lane] at m
      split at m <;> exact load _ m
  · exact h

theorem jamDrawer (h : Books g s) (l : LaneId) : Books g (Machine.jamDrawer l s) := by
  unfold Machine.jamDrawer
  refine Books.modWork (Books.modLane (Books.standDrawer ?_ l _) l _) l _
  unfold jamLoad
  split
  next i load => exact h.endLoad load _ fun o => rfl
  · exact h

theorem travelExpiry (h : Books g s) (l : LaneId) : Books g (Machine.travelExpiry l s) := by
  unfold Machine.travelExpiry
  split
  · exact (h.jamDrawer l).completeSessions
  · exact (h.jamDrawer l).completeSessions
  all_goals exact h

/-! ### The end of routing and of purging -/

/-- The transport is let go by a holder that does not pick. -/
theorem letGo {f : NotePath → NotePath} (h : Books g s) (apart : s.path.state ≠ .picking)
    (holder : (f s.path).holder = none) (held : (f s.path).heldReading = none) (state : (f s.path).state ≠ .picking)
    (queue : (f s.path).queue = s.path.queue) : Books g (s.modPath f) := by
  refine ⟨h.slots.of_spares (n := none) ((Spares.refl none s).modPath (fun k m => by rwa [queue] at m)
      (fun k _ m => by simp [holder] at m) fun k _ picks m => ?_) (fun k e => by cases e) h.slots.nodup,
    h.store.of_same (fun _ => rfl) fun _ => rfl, h.path.idle holder held state rfl fun r c m => ?_⟩
  · obtain ⟨o, order, p⟩ := h.order_of_holder m
    have picks : o.state = .picking := by simpa [order] using picks
    exact absurd picks ((p.holder m).not_picking apart)
  · simp only [State.modPath_path, queue] at m
    exact h.path.claims r c m

theorem releaseTransport (h : Books g s) (apart : s.path.state ≠ .picking) : Books g (Machine.releaseTransport s) :=
  h.letGo apart rfl rfl (by simp) rfl

/-- The order that routes or is purged, which stands in no lane. -/
theorem carried (h : Books g s) (holder : s.path.holder = some (.order i)) (order : s.order i = some o)
    (apart : s.path.state ≠ .picking) :
    (∀ l, (s.lane l).head ≠ some i) ∧ (∀ l, (s.lane l).load ≠ some i) ∧ o.state.terminal = false ∧
      o.state.reserves = false := by
  have p := h.placed order
  have moves := (p.holder holder).moves
  have state : o.state = .routing ∨ o.state = .aborting := moves.resolve_left ((p.holder holder).not_picking apart)
  refine ⟨fun l m => (p.head l m).2.2.2 holder, fun l m => ?_, ?_, ?_⟩
  · rcases state with e | e <;> simpa [e] using (p.load l m).2
  · rcases state with e | e <;> rw [e] <;> rfl
  · rcases state with e | e <;> rw [e] <;> rfl

/-- The order that routes or is purged ends as the transport is released. -/
theorem endCarried (h : Books g s) (holder : s.path.holder = some (.order i)) (apart : s.path.state ≠ .picking)
    (f : Order → Order) (terminal : ∀ o, (f o).state.terminal = true) :
    Books g (Machine.releaseTransport (Machine.endOrder i f s)) := by
  obtain ⟨o, order, p⟩ := h.order_of_holder holder
  obtain ⟨head, load, -, idle⟩ := h.carried holder order apart
  exact (h.releaseTransport apart).endOrder (i := i) (o := o) (f := f) order (terminal o) idle (by simp [Machine.releaseTransport])
    head load

theorem purgeExpiry (h : Books g s) : Books g (Machine.purgeExpiry s) := by
  unfold Machine.purgeExpiry
  split
  next i _ state holder _ =>
    exact ((h.endCarried holder (by simp [state]) _ Order.endPurge_terminal).modPath _).completeSessions
  · exact h

theorem routeExpiry (h : Books g s) : Books g (Machine.routeExpiry s) := by
  unfold Machine.routeExpiry
  split
  next i state holder =>
    split
    next o order =>
      refine Books.completeSessions ?_
      refine (h.endCarried holder (by simp [state]) _ fun o => rfl).letGo (by simp [Machine.releaseTransport]) rfl rfl
        (by simp) rfl
    · exact h
  · exact h

/-- The bundle of a released order stands in the head of its lane. -/
theorem putHead (h : Books g s) (order : s.order i = some o) (lane : o.lane = l)
    (state : o.state = .staged ∨ o.state = .aborting) (holder : s.path.holder ≠ some (.order i))
    (head : ∀ k, (s.lane k).head ≠ some i) (load : ∀ k, (s.lane k).load ≠ some i) :
    Books g (s.modLane l fun r => { r with head := some i }) := by
  have p := h.placed order
  refine ⟨h.slots.of_spares (n := some i) ((Spares.refl _ s).modLane l _ (fun r k a m => absurd m a)
      fun r k a m => m) (fun k e => ?_) h.slots.nodup, h.store.of_same (fun _ => rfl) fun _ => rfl,
    h.path.of_same rfl rfl fun _ => rfl⟩
  cases e
  have unloaded k : ((s.modLane l fun r => { r with head := some i }).lane k).load ≠ some i := by
    rw [State.modLane_lane]
    split <;> exact load _
  refine Placed.booked ⟨p.live, p.queue, p.holder, p.picks, fun k m => ⟨?_, state, unloaded k, holder⟩,
    fun k m => absurd m (unloaded k), p.allowed⟩ order
  rw [State.modLane_lane] at m
  split at m
  · next same => exact lane.trans same
  · exact absurd m (head k)

theorem bundleArrives (h : Books g s) (holder : s.path.holder = some (.order i)) (order : s.order i = some o)
    (lane : o.lane = l) (state : s.path.state = .routing) : Books g (Machine.bundleArrives i l s) := by
  obtain ⟨head, load, live, idle⟩ := h.carried holder order (by simp [state])
  have released := h.releaseTransport (by simp [state])
  have arrives (f : Order → Order) (lane' : (f o).lane = o.lane) (state : (f o).state = .staged ∨ (f o).state = .aborting) :
      Books g (((Machine.releaseTransport s).modOrder i f).modLane l fun r => { r with head := some i }) := by
    have seated := released.reseat (f := f) (o := o) order live (by rcases state with e | e <;> rw [e] <;> rfl) idle
      (by rcases state with e | e <;> rw [e] <;> rfl) lane' (by simp [Machine.releaseTransport])
      (fun k m => absurd m (head k)) fun k m => absurd m (load k)
    exact seated.putHead (o := f o) (by simp [Machine.releaseTransport, order]) (lane'.trans lane) state
      (by simp [Machine.releaseTransport]) head load
  unfold Machine.bundleArrives
  dsimp only
  split
  · exact (arrives (fun o => { o with state := .aborting, reason := some _ }) rfl (.inr rfl)).modWork l _
  · exact arrives (fun o => { o with state := .staged }) rfl (.inl rfl)

theorem headArrival (h : Books g s) (l : LaneId) : Books g (Machine.headArrival l s) := by
  unfold Machine.headArrival
  split
  next i state holder =>
    split
    next o order =>
      split
      next lane => exact h.bundleArrives holder order lane state
      · exact h
    · exact h
  · split
    · split
      · exact h.modPath _
      · exact h
    · exact h
  · exact h

theorem countEdge (h : Books g s) (i : OrderSlot) (top : Order → Nat) : Books g (Machine.countEdge i top s) := by
  unfold Machine.countEdge
  split
  · split
    · exact (h.modOrder i fun o => { o with retracted := o.retracted + 1 }).modBins _
    · exact h
  · exact h

theorem retractEdge (h : Books g s) (e : RetractEntry) : Books g (Machine.retractEdge e s) := by
  cases e with
  | transport =>
    unfold Machine.retractEdge transportEdge
    dsimp only
    split
    · exact h.countEdge _ _
    · exact h
  | chute l =>
    unfold Machine.retractEdge chuteEdge
    dsimp only
    split
    · exact h.countEdge _ _
    · split
      · exact h.countEdge _ _
      · exact h

end Books

end Sys2Proof.Machine
end

section
/-! The shutters, the bins, the leveling sessions and the grant keep the books. -/

namespace Sys2Proof.Machine
set_option Elab.async false

variable {g : Stage} {s t : State} {i k : OrderSlot} {o q : Order} {c : CassetteId} {l : LaneId}

namespace Books

/-! ### Shutters, attempts and bins -/

theorem openShutter (h : Books g s) (c : CassetteId) : Books g (Machine.openShutter c s) := by
  unfold Machine.openShutter
  split
  case h_1 | h_2 => exact (h.modCassette c fun r => { r with shutter := .opening }).modPath _
  all_goals exact h

theorem closeShutter (h : Books g s) (c : CassetteId) : Books g (Machine.closeShutter c s) := by
  unfold Machine.closeShutter
  split
  case h_1 | h_2 => exact (h.modCassette c fun r => { r with shutter := .closing }).modPath _
  all_goals exact h

theorem closeShutters (h : Books g s) : Books g (Machine.closeShutters s) := h.forEach fun c _ h => h.closeShutter c

theorem shutNow (h : Books g s) (c : CassetteId) : Books g (Machine.shutNow c s) :=
  (h.modCassette c fun r => { r with shutter := .shut }).modPath _

theorem completeQuiet (h : Books g s) : Books g (Machine.completeQuiet s) := by
  unfold Machine.completeQuiet
  split
  · exact h.modSup _
  · exact h

theorem beginAttempt (h : Books g s) : Books g (Machine.beginAttempt s) := by
  unfold Machine.beginAttempt
  split
  · split
    · exact h.modPath _
    · exact h
  · exact h

theorem attemptOver (h : Books g s) : Books g (Machine.attemptOver s) := h.modPath _

theorem evalPause (h : Books g s) : Books g (Machine.evalPause s) := (h.modPath _).raiseIf _ _

theorem addRejects (h : Books g s) (n : Nat) : Books g (Machine.addRejects n s) := (h.modBins _).evalPause

theorem shutterTravelEnd (h : Books g s) (c : CassetteId) : Books g (Machine.shutterTravelEnd c s) := by
  have arrived := h.modPath fun p => { p with shutterTravel := tableSet p.shutterTravel c none }
  unfold Machine.shutterTravelEnd
  dsimp only
  split
  · exact (arrived.modCassette c fun r => { r with shutter := .opened }).beginAttempt
  · exact (arrived.modCassette c fun r => { r with shutter := .shut }).completeQuiet
  all_goals exact h

theorem shutterIdleExpiry (h : Books g s) : Books g (Machine.shutterIdleExpiry s) := by
  unfold Machine.shutterIdleExpiry
  split
  · exact (h.modPath _).closeShutters
  · exact h

/-! ### A cassette of which nothing is reserved -/

/-- A cassette that no order reserves and that no claim names takes other figures. -/
theorem restock (h : Books g s) {f : Cassette → Cassette} (unreserved : (s.cassette c).reserved = 0)
    (reserved : (f (s.cassette c)).reserved = (s.cassette c).reserved) (sound : (f (s.cassette c)).Sound g.tallied)
    (queue : g.course = .running → .leveling c ∉ s.path.queue) (holder : s.path.holder ≠ some (.leveling c)) :
    Books g (s.modCassette c f) := by
  have self : (s.modCassette c f).cassette c = f (s.cassette c) := by simp
  have other {k : CassetteId} (apart : c ≠ k) : (s.modCassette c f).cassette k = s.cassette k := by
    rw [State.modCassette_cassette, if_neg apart]
  have same (k : CassetteId) : ((s.modCassette c f).cassette k).reserved = (s.cassette k).reserved := by
    by_cases e : c = k
    · subst e; rw [self, reserved]
    · rw [other e]
  refine ⟨⟨h.slots.nodup, fun k => ?_⟩, ⟨fun k => ?_, fun k pos => ?_, fun k short => ?_, fun k => ?_⟩, ?_⟩
  · exact (h.slots.booked k).of_spares (n := none) ((Spares.refl none s).modCassette c f) (by simp)
  · rw [same]
    exact h.store.dues k
  · by_cases e : c = k
    · subst e; rw [same, unreserved] at pos; cases pos
    · rw [other e] at pos ⊢; exact h.store.ready k pos
  · by_cases e : c = k
    · subst e; rw [same, unreserved]; exact Nat.zero_le _
    · rw [other e]; exact h.store.bound k short
  · by_cases e : c = k
    · subst e; rw [self]; exact sound
    · rw [other e]; exact h.store.sound k
  · refine ⟨fun r k m => ?_, fun k m => ?_, fun m => ?_, h.path.still, h.path.rest, h.path.settle⟩
    · have apart : c ≠ k := fun e => queue r (by rw [e]; exact m)
      rw [other apart]; exact h.path.claims r k m
    · have apart : c ≠ k := fun e => holder (by rw [e]; exact m)
      rw [other apart]; exact h.path.levels k m
    · obtain ⟨k, hk, phase⟩ := h.path.reading m
      have apart : c ≠ k := fun e => holder (by rw [e]; exact hk)
      exact ⟨k, hk, by rw [other apart]; exact phase⟩

/-- Nothing is reserved of a cassette with notes in it that is not READY. -/
theorem unreserved (h : Books g s) (note : 0 < (s.cassette c).current) (state : (s.cassette c).state ≠ .ready) :
    (s.cassette c).reserved = 0 := by
  by_contra some
  exact state (h.store.ready c (Nat.pos_of_ne_zero some) note)

theorem unreserved_of_leveling (h : Books g s) (state : (s.cassette c).state = .leveling) : (s.cassette c).reserved = 0 :=
  h.unreserved ((h.store.sound c).note state) (by simp [state])

/-- No claim names a cassette that is not LEVELING. -/
theorem unclaimed (h : Books g s) (state : (s.cassette c).state ≠ .leveling) :
    (g.course = .running → .leveling c ∉ s.path.queue) ∧ s.path.holder ≠ some (.leveling c) :=
  ⟨fun r m => state (h.path.claims r c m), fun m => state (h.path.levels c m).2.2⟩

/-! ### The end of a leveling session -/

/-- The claim of a leveling session is given up. -/
theorem unclaim (h : Books g s) (c : CassetteId) :
    Books g (dropClaim (.leveling c) (if s.path.holder = some (.leveling c) then Machine.releaseTransport s else s)) := by
  have free : Books g (if s.path.holder = some (.leveling c) then Machine.releaseTransport s else s) := by
    split
    next holder => exact h.releaseTransport (by rw [(h.path.levels c holder).2.1]; simp)
    · exact h
  exact ⟨free.slots.of_spares (n := none) ((Spares.refl none _).modPath fun k m => (List.mem_filter.mp m).1)
      (fun k e => by cases e) free.slots.nodup,
    free.store.of_same (fun _ => rfl) fun _ => rfl,
    free.path.of_queue rfl (fun k m => (List.mem_filter.mp m).1) rfl fun k => ⟨rfl, rfl⟩⟩

end Books

/-- A cassette whose held note, if there is one, has gone to the reject bin as a test note. -/
def Cassette.spent (held : Bool) (r : Cassette) : Cassette :=
  if held then { r.lower 1 with testNotes := r.testNotes + 1 } else r

/-- A cassette that returns from leveling to service. -/
def Cassette.returned (r : Cassette) : Cassette := { r with state := r.afterLeveling, leveling := none }

/-- A leveling session that has a note at the gauge. -/
def State.holdsNote (s : State) (c : CassetteId) : Bool := s.path.holder == some (.leveling c) && s.path.heldReading.isSome

theorem Cassette.spent_reserved (held : Bool) (r : Cassette) : (r.spent held).reserved = r.reserved := by
  unfold Cassette.spent
  split <;> rfl

theorem Cassette.returned_sound {b : Bool} {r : Cassette} (balanced : b = true → r.balanced = true) : r.returned.Sound b := by
  have ended : r.returned.state ≠ .leveling := by
    unfold Cassette.returned Cassette.afterLeveling
    dsimp only
    repeat' split
    all_goals simp
  exact ⟨⟨fun m => absurd m ended, fun m => by simp [Cassette.returned] at m⟩, fun m => absurd m ended, fun tallied _ => balanced tallied⟩

theorem Cassette.balanced_iff (r : Cassette) : r.balanced = true ↔
    r.loaded = r.current + r.accepted + r.rejectNotes + r.testNotes + r.writtenOff := by
  simp [Cassette.balanced]

theorem Cassette.spent_balanced {r : Cassette} (held : Bool) (note : 0 < r.current) (balanced : r.balanced = true) :
    (r.spent held).balanced = true := by
  rw [Cassette.balanced_iff] at balanced ⊢
  cases held with
  | true =>
    simp only [Cassette.spent, Cassette.lower, if_true]
    omega
  | false => exact balanced

/-- The figures of a cassette that is counted add up, where that is looked at. -/
theorem Cassette.Sound.balanced {b : Bool} {r : Cassette} (h : r.Sound b) (counted : r.state.counted = true) :
    b = true → r.balanced = true :=
  fun tallied => h.tally tallied counted

/-! #### What the end of a session does -/

@[simp] theorem testNote_order (c : CassetteId) (s : State) (i : OrderSlot) : (testNote c s).order i = s.order i := by
  simp [testNote, addRejects, evalPause]

@[simp] theorem testNote_placement (c : CassetteId) (s : State) : (testNote c s).custody.placement = s.custody.placement := by
  simp [testNote, addRejects, evalPause]

@[simp] theorem testNote_lane (c : CassetteId) (s : State) (l : LaneId) : (testNote c s).lane l = s.lane l := by
  simp [testNote, addRejects, evalPause]

@[simp] theorem testNote_sup (c : CassetteId) (s : State) : (testNote c s).sup = s.sup := by
  simp [testNote, addRejects, evalPause]

theorem testNote_path (c : CassetteId) (s : State) : (testNote c s).path.stand = s.path.stand := by
  simp [testNote, addRejects, evalPause, NotePath.stand]

/-- A session in a note's midst spends the note first. -/
theorem endLeveling_eq (c : CassetteId) (s : State) : endLeveling c s =
    let spent := if s.holdsNote c then testNote c s else s
    let back := dropClaim (.leveling c) (spent.modCassette c Cassette.returned)
    if s.path.holder = some (.leveling c) then releaseTransport back else back := by
  simp only [endLeveling, State.holdsNote, Bool.and_eq_true, beq_iff_eq]
  rfl

theorem endLeveling_cassette (c k : CassetteId) (s : State) : (endLeveling c s).cassette k =
    if c = k then ((s.cassette k).spent (s.holdsNote c)).returned else s.cassette k := by
  have back : (((if s.holdsNote c then testNote c s else s).modCassette c Cassette.returned).cassette k) =
      if c = k then ((s.cassette k).spent (s.holdsNote c)).returned else s.cassette k := by
    rw [State.modCassette_cassette]
    split
    next e =>
      subst e
      cases s.holdsNote c
      · rfl
      · simp [testNote_cassette, Cassette.spent]
    next e =>
      cases s.holdsNote c
      · rfl
      · simp [testNote_cassette, e]
  rw [endLeveling_eq, ← back]
  dsimp only
  split <;> rfl

/-- The claim of a leveling session is given up, and the transport with it if the session held it. -/
def giveUp (c : CassetteId) (s : State) : State :=
  dropClaim (.leveling c) (if s.path.holder = some (.leveling c) then releaseTransport s else s)

@[simp] theorem giveUp_cassette (c k : CassetteId) (s : State) : (giveUp c s).cassette k = s.cassette k := by
  unfold giveUp
  split <;> rfl

theorem giveUp_modCassette (c : CassetteId) (w : Cassette → Cassette) (s : State) :
    giveUp c (s.modCassette c w) = (giveUp c s).modCassette c w := by
  unfold giveUp
  rw [State.modCassette_path]
  split <;> rfl

/-- But for the one cassette, the end of a session is the end of its claim. -/
theorem endLeveling_same (c : CassetteId) (s : State) :
    SameBooks ((giveUp c s).modCassette c fun r => (r.spent (s.holdsNote c)).returned) (endLeveling c s) where
  orders i := by
    rw [endLeveling_eq]
    unfold giveUp
    split <;> split <;> simp [releaseTransport, dropClaim]
  placement := by
    rw [endLeveling_eq]
    unfold giveUp
    split <;> split <;> simp [releaseTransport, dropClaim]
  cassettes k := by
    rw [endLeveling_cassette, State.modCassette_cassette, giveUp_cassette]
  lanes l := by
    rw [endLeveling_eq]
    unfold giveUp
    split <;> split <;> simp [releaseTransport, dropClaim]
  path := by
    have note := NotePath.stand_eq (testNote_path c s)
    rw [endLeveling_eq]
    unfold giveUp
    split <;> split <;> simp [releaseTransport, dropClaim, NotePath.stand, note]
  phase := by
    rw [endLeveling_eq]
    unfold giveUp
    split <;> split <;> simp [releaseTransport, dropClaim]

theorem SameBooks.modCassette_twice (s : State) (c : CassetteId) (f f' : Cassette → Cassette) :
    SameBooks (s.modCassette c fun r => f' (f r)) ((s.modCassette c f).modCassette c f') :=
  { SameBooks.refl s with
    cassettes := fun k => by
      simp only [State.modCassette_cassette]
      split <;> rfl }

theorem State.modCassette_id (s : State) (c : CassetteId) : s.modCassette c id = s := by
  simp [State.modCassette, State.cassette]

namespace Books

/-- A session ends on a cassette that has still the figures of one: its own, or those of a write-off. -/
theorem endSession (h : Books g s) (w : Cassette → Cassette) (leveling : (s.cassette c).state = .leveling)
    (reserved : (w (s.cassette c)).reserved = (s.cassette c).reserved)
    (balanced : g.tallied = true → ((w (s.cassette c)).spent (s.holdsNote c)).balanced = true) :
    Books g (Machine.endLeveling c (s.modCassette c w)) := by
  have given : Books g (giveUp c s) := h.unclaim c
  have ended := given.restock (c := c) (f := fun r => ((w r).spent (s.holdsNote c)).returned)
    (by rw [giveUp_cassette]; exact h.unreserved_of_leveling leveling)
    (by rw [giveUp_cassette]; exact (Cassette.spent_reserved _ _).trans reserved)
    (by rw [giveUp_cassette]; exact Cassette.returned_sound balanced)
    (fun _ m => by simp [giveUp, dropClaim] at m)
    (by
      unfold giveUp dropClaim
      split
      · simp [Machine.releaseTransport]
      · next apart => exact apart)
  refine ended.of_same (SameBooks.trans ?_ (endLeveling_same c (s.modCassette c w)))
  rw [giveUp_modCassette]
  exact SameBooks.modCassette_twice _ c w fun r => (r.spent (s.holdsNote c)).returned

theorem endLeveling (h : Books g s) (leveling : (s.cassette c).state = .leveling) : Books g (Machine.endLeveling c s) := by
  have sound := h.store.sound c
  have ended := h.endSession id leveling rfl fun tallied => Cassette.spent_balanced _ (sound.note leveling)
    (sound.balanced (by rw [leveling]; rfl) tallied)
  rwa [State.modCassette_id] at ended

/-! ### The course of a leveling session -/

/-- The leveling record of a cassette changes; a reading held for it stays that of a session in HOLDING. -/
theorem modLeveling (h : Books g s) {f : Cassette → Cassette} (v : Cassette → Option Leveling)
    (same : ∀ r, (f r).figures = { r with leveling := v r }.figures)
    (leveling : (s.cassette c).leveling.isSome = (v (s.cassette c)).isSome)
    (holding : s.path.heldReading.isSome = true → s.path.holder = some (.leveling c) →
      (v (s.cassette c)).any (fun v => v.phase == .holding) = true) : Books g (s.modCassette c f) := by
  have fields k : ((s.modCassette c f).cassette k).state = (s.cassette k).state ∧
      ((s.modCassette c f).cassette k).current = (s.cassette k).current ∧
      ((s.modCassette c f).cassette k).reserved = (s.cassette k).reserved ∧
      ((s.modCassette c f).cassette k).balanced = (s.cassette k).balanced ∧
      ((s.modCassette c f).cassette k).leveling = if c = k then v (s.cassette k) else (s.cassette k).leveling := by
    rw [State.modCassette_cassette]
    split
    · obtain ⟨⟨state, current, reserved, leveling⟩, balanced⟩ := Cassette.figures_eq (same (s.cassette k))
      exact ⟨state, current, reserved, balanced, leveling⟩
    · exact ⟨rfl, rfl, rfl, rfl, rfl⟩
  have some k : ((s.modCassette c f).cassette k).leveling.isSome = (s.cassette k).leveling.isSome := by
    rw [(fields k).2.2.2.2]
    split
    next e => subst e; exact leveling.symm
    · rfl
  refine ⟨⟨h.slots.nodup, fun k => (h.slots.booked k).of_spares (n := none) ((Spares.refl none s).modCassette c f) (by simp)⟩,
    ⟨fun k => ?_, fun k => ?_, fun k => ?_, fun k => ?_⟩,
    ⟨fun r k m => ?_, fun k m => ?_, fun m => ?_, h.path.still, h.path.rest, h.path.settle⟩⟩
  · rw [(fields k).2.2.1]; exact h.store.dues k
  · rw [(fields k).1, (fields k).2.1, (fields k).2.2.1]; exact h.store.ready k
  · rw [(fields k).2.1, (fields k).2.2.1]; exact h.store.bound k
  · obtain ⟨session, note, tally⟩ := h.store.sound k
    exact ⟨by rw [(fields k).1, some]; exact session, by rw [(fields k).1, (fields k).2.1]; exact note,
      by rw [(fields k).1, (fields k).2.2.2.1]; exact tally⟩
  · rw [(fields k).1]; exact h.path.claims r k m
  · rw [(fields k).1]; exact h.path.levels k m
  · obtain ⟨k, hk, phase⟩ := h.path.reading m
    refine ⟨k, hk, ?_⟩
    rw [(fields k).2.2.2.2]
    split
    next e => subst e; exact holding m hk
    · exact phase

theorem startLeveling (h : Books g s) (running : g.course = .running)
    (state : (s.cassette c).state = .unleveled ∨ (s.cassette c).state = .ready)
    (unreserved : (s.cassette c).reserved = 0) (note : 0 < (s.cassette c).current) : Books g (Machine.startLeveling c s) := by
  obtain ⟨queue, holder⟩ := h.unclaimed (c := c) (by rcases state with e | e <;> simp [e])
  have opened := h.restock (c := c)
    (f := fun r => { r with state := .leveling, leveling := some { phase := .waiting, trials := 0, lastTrial := none } })
    unreserved rfl ⟨by simp, fun _ => note,
      fun tallied _ => (h.store.sound c).tally tallied (by rcases state with e | e <;> rw [e] <;> rfl)⟩ queue holder
  refine ⟨opened.slots.of_spares (n := none)
    ((Spares.refl none _).modPath (f := fun p => { p with queue := p.queue ++ [.leveling c] }) fun k m => ?_)
    (fun k e => by cases e) opened.slots.nodup, opened.store.of_same (fun _ => rfl) fun _ => rfl,
    ⟨fun r k m => ?_, opened.path.levels, opened.path.reading, opened.path.still, opened.path.rest, opened.path.settle⟩⟩
  · simpa using m
  · simp only [Machine.startLeveling, joinQueue, State.modPath_path, State.modCassette_path, List.mem_append,
      List.mem_singleton, Claim.leveling.injEq] at m
    rcases m with m | rfl
    · exact opened.path.claims r k m
    · simp [Machine.startLeveling, joinQueue]

theorem commitReference (h : Books g s) (c : CassetteId) (n : Nat) : Books g (Machine.commitReference c n s) := by
  unfold Machine.commitReference
  split
  · exact h
  · exact h.modCassette c fun r => { r with reference := n }

theorem levelingExpiry (h : Books g s) : Books g (Machine.levelingExpiry s) := by
  unfold Machine.levelingExpiry
  split
  next c _ holder _ => exact h.endLeveling (h.path.levels c holder).2.2
  · exact h

/-- A session in HOLDING has tried a value. -/
theorem tried (h : Books g s) {v : Leveling} (session : (s.cassette c).leveling = some v) (holding : v.phase = .holding)
    (n : Nat) (bit : Bool) :
    Books g (s.modCassette c fun r => { r with leveling := some (v.tried n bit) }) :=
  h.modLeveling (fun _ => some (v.tried n bit)) (fun r => rfl) (by rw [session]; rfl)
    fun _ _ => by simp [Leveling.tried, holding]

theorem gaugeLeveling (h : Books g s) (holder : s.path.holder = some (.leveling c)) (a : Attempt) (n : Nat) :
    Books g (Machine.gaugeLeveling c a n s) := by
  obtain ⟨running, state, leveling⟩ := h.path.levels c holder
  obtain ⟨v, session⟩ := Option.isSome_iff_exists.mp ((h.store.sound c).session.mp leveling)
  have phased := h.modLeveling (c := c) (f := fun r => { r with leveling := r.leveling.map fun v => { v with phase := .holding } })
    (fun r => r.leveling.map fun v => { v with phase := .holding }) (fun r => rfl) (by simp [session])
    fun _ _ => by simp [session]
  have held : Books g ((s.modCassette c fun r => { r with leveling := r.leveling.map fun v => { v with phase := .holding } }).modPath
      fun p => { p with attempt := none, misses := 0, heldReading := some n, levelingIdle := some levelingIdleTime }) :=
    ⟨phased.slots.of_spares (n := none) ((Spares.refl none _).modPath) (fun k e => by cases e) phased.slots.nodup,
      phased.store.of_same (fun _ => rfl) fun _ => rfl,
      ⟨phased.path.claims, phased.path.levels, fun _ => ⟨c, holder, by simp [session]⟩, phased.path.still,
        fun r m => by simpa [holder] using (h.path.rest r m).1, phased.path.settle⟩⟩
  unfold Machine.gaugeLeveling
  dsimp only
  split
  · exact held.endLeveling (by simpa using leveling)
  · exact held

theorem lockdownLeveling (h : Books g s) (c : CassetteId) : Books g (Machine.lockdownLeveling c s) := by
  unfold Machine.lockdownLeveling
  split
  next v session =>
    split
    · exact h.modPath _
    · exact h.endLeveling ((h.store.sound c).session.mpr (by rw [session]; rfl))
  · exact h

theorem endGone (h : Books g s) (c : CassetteId) : Books g (Machine.endGone c s) := by
  unfold Machine.endGone
  split
  next v session => exact h.endLeveling ((h.store.sound c).session.mpr (by rw [session]; rfl))
  · exact h

end Books
end Sys2Proof.Machine
end

section
/-! The grant and the order commands keep the books. -/

namespace Sys2Proof.Machine
set_option Elab.async false

variable {g : Stage} {s t : State} {i k : OrderSlot} {o q : Order} {c : CassetteId} {l : LaneId}

namespace Books

/-! ### The grant -/

/-- A transport that is FREE has no holder and no reading held. -/
theorem free (h : Books g s) (running : g.course = .running) (state : s.path.state = .free) :
    s.path.heldReading = none ∧ ∀ k, s.path.holder ≠ some (.order k) := by
  refine ⟨?_, fun k m => ?_⟩
  · cases held : s.path.heldReading with
    | none => rfl
    | some v =>
      obtain ⟨c, hc, -⟩ := h.path.reading (by rw [held]; rfl)
      have := (h.path.levels c hc).2.1
      rw [state] at this
      cases this
  · obtain ⟨o, -, p⟩ := h.order_of_holder m
    have holds := p.holder m
    rw [running] at holds
    have := holds.1
    rw [state] at this
    cases this

theorem grantOrder (h : Books g s) (running : g.course = .running) (state : s.path.state = .free)
    (awake : s.sup.phase = none) (claim : .order i ∈ s.path.queue) (order : s.order i = some o) :
    Books g (Machine.grantOrder i o s) := by
  obtain ⟨quiet, alone⟩ := h.free running state
  have p := h.placed order
  have queued := p.queue running claim
  obtain ⟨-, head, load⟩ := p.waits_alone (.inr queued)
  unfold Machine.grantOrder
  refine Books.forEach ⟨?_, ?_, ?_⟩ fun c t h => by
    split
    · exact h.openShutter c
    · exact h
  · refine h.slots.of_spares (n := some i) ?_ (fun k e => ?_) h.slots.nodup
    · refine ((Spares.refl _ s).modOrder _).modPath (f := fun p => { p with
        queue := p.queue.filter (· != .order i), state := .picking, holder := some (.order i), entry := o.nextEntry,
        misses := 0, shutterIdle := none }) (fun k m => (List.mem_filter.mp m).1) (fun k a m => ?_) fun k a _ m => ?_
      · simp only [Option.some.injEq, Claim.order.injEq] at m
        exact absurd (congrArg some m) a
      · exact absurd m (alone k)
    · cases e
      have ends : (takeTransport (.order i) .picking o.nextEntry (s.modOrder i fun o => { o with state := .picking })).order i =
          some { o with state := .picking } := by simp [takeTransport, dropClaim, order]
      refine Placed.booked ⟨⟨fun _ => rfl, fun _ => p.live.mpr (by rw [queued]; rfl)⟩, fun _ m => ?_, fun _ => ?_, fun _ => .inr rfl, fun l m => absurd m (head l),
        fun l m => absurd m (load l), fun m => by simp [running] at m⟩ ends
      · simp [takeTransport, dropClaim] at m
      · rw [running]
        exact ⟨rfl, fun _ => rfl⟩
  · refine h.store.idle (i := i) (fun k a => ?_) (fun c => ?_) fun c => rfl
    · simp [takeTransport, dropClaim, State.modOrder_order, Ne.symm a]
    · simp [takeTransport, dropClaim, order, dueOf, queued, OrderState.reserves, Order.need]
  · refine ⟨fun r c m => ?_, fun c m => ?_, fun m => ?_, fun m => ?_, fun _ m => ?_, h.path.settle⟩
    · exact h.path.claims r c (List.mem_filter.mp m).1
    · simp [takeTransport] at m
    · simp [takeTransport, dropClaim, quiet] at m
    · simp [takeTransport, dropClaim, awake] at m
    · simp [takeTransport, dropClaim, awake] at m

theorem grantLeveling (h : Books g s) (running : g.course = .running) (state : s.path.state = .free)
    (awake : s.sup.phase = none) (claim : .leveling c ∈ s.path.queue) : Books g (Machine.grantLeveling c s) := by
  obtain ⟨quiet, alone⟩ := h.free running state
  have leveling := h.path.claims running c claim
  obtain ⟨v, session⟩ := Option.isSome_iff_exists.mp ((h.store.sound c).session.mp leveling)
  have phased := h.modLeveling (c := c) (f := fun r => { r with leveling := r.leveling.map fun v => { v with phase := .fetching } })
    (fun r => r.leveling.map fun v => { v with phase := .fetching }) (fun r => rfl) (by simp [session])
    fun m _ => by simp [quiet] at m
  unfold Machine.grantLeveling
  refine Books.openShutter ⟨?_, ?_, ?_⟩ c
  · refine phased.slots.of_spares (n := none) ?_ (fun k e => by cases e) phased.slots.nodup
    refine (Spares.refl none _).modPath (f := fun p => { p with
        queue := p.queue.filter (· != .leveling c), state := .leveling, holder := some (.leveling c), entry := none,
        misses := 0, shutterIdle := none }) (fun k m => (List.mem_filter.mp m).1) (fun k _ m => by simp at m)
        fun k _ _ m => absurd m (alone k)
  · exact phased.store.of_same (fun _ => rfl) fun _ => rfl
  · refine ⟨fun r k m => ?_, fun k m => ?_, fun m => ?_, fun m => ?_, fun _ m => ?_, phased.path.settle⟩
    · exact phased.path.claims r k (List.mem_filter.mp m).1
    · simp only [takeTransport, State.modPath_path, Option.some.injEq, Claim.leveling.injEq] at m
      subst m
      exact ⟨running, rfl, by simpa [takeTransport, dropClaim] using leveling⟩
    · simp [takeTransport, dropClaim, quiet] at m
    · simp [takeTransport, dropClaim, awake] at m
    · simp [takeTransport, dropClaim, awake] at m

theorem grant (h : Books g s) (running : g.course = .running) (awake : s.sup.mode = .active → s.sup.phase = none) :
    Books g (Machine.grant s) := by
  unfold Machine.grant
  cases grantee : s.grantee with
  | none => exact h
  | some claim =>
    obtain ⟨may, claimed⟩ : s.mayGrant = true ∧ claim ∈ s.path.queue := by
      unfold State.grantee at grantee
      split at grantee
      next may => exact ⟨may, List.mem_of_find?_eq_some grantee⟩
      · cases grantee
    obtain ⟨⟨⟨state, mode⟩, -⟩, -⟩ : ((s.path.state = .free ∧ s.sup.mode = .active) ∧ s.lockdown = false) ∧
        s.path.rejectPause = false := by simpa [State.mayGrant] using may
    cases claim with
    | order i =>
      dsimp only
      split
      next o order => exact (h.grantOrder running state (awake mode) claimed order).beginAttempt
      · exact h
    | leveling c => exact (h.grantLeveling running state (awake mode) claimed).beginAttempt

/-! ### The order commands -/

theorem releaseOrder (h : Books g s) (running : g.course = .running) (order : s.order i = some o) (held : o.state = .held) :
    Books g (Machine.releaseOrder i s) := by
  have p := h.placed order
  obtain ⟨holder, head, load⟩ := p.waits_alone (.inl held)
  have ends : (Machine.releaseOrder i s).order i = some { o with state := .queued, holdDeadline := none } := by
    simp [Machine.releaseOrder, joinQueue, order]
  refine ⟨h.slots.of_spares (n := some i) ?_ (fun k e => ?_) h.slots.nodup, ?_, ?_⟩
  · refine ((Spares.refl _ s).modOrder _).trans { Spares.refl (some i) _ with queue := fun k a m => ?_ }
    simp only [Machine.releaseOrder, joinQueue, State.modPath_path, State.modOrder_path, List.mem_append, List.mem_singleton,
      Claim.order.injEq] at m
    exact m.resolve_right fun e => a (congrArg some e.symm)
  · cases e
    exact Placed.booked ⟨⟨fun _ => rfl, fun _ => p.live.mpr (by rw [held]; rfl)⟩, fun _ _ => rfl,
      fun m => absurd m holder, fun m => (by cases m), fun l m => absurd m (head l),
      fun l m => absurd m (load l), fun m => by simp [running] at m⟩ ends
  · refine h.store.idle (i := i) (fun k a => ?_) (fun c => ?_) fun c => rfl
    · simp [Machine.releaseOrder, joinQueue, State.modOrder_order, Ne.symm a]
    · simp [ends, order, dueOf, held, OrderState.reserves, Order.need]
  · refine h.path.of_queue (list := s.path.queue ++ [.order i]) rfl (fun c m => ?_) rfl fun c => ⟨rfl, rfl⟩
    simpa using m

theorem retireOrder (h : Books g s) (order : s.order i = some o) (ended : o.state.terminal = true) :
    Books g (s.setOrder i none) := by
  have p := h.placed order
  have gone : (s.setOrder i none).order i = none := by simp [State.setOrder, State.order]
  have other (k : OrderSlot) (apart : k ≠ i) : (s.setOrder i none).order k = s.order k := by
    simp [State.setOrder, State.order, tableSet_get_ne _ _ (Ne.symm apart)]
  have idle := reserves_of_terminal ended
  refine ⟨h.slots.of_spares (n := some i)
    { Spares.refl (some i) s with orders := fun k a => other k fun e => a (congrArg some e.symm) } (fun k e => ?_) h.slots.nodup,
    h.store.idle (i := i) other (fun c => by rw [dueOf_of_idle order idle, gone]; rfl) fun c => rfl,
    h.path.of_same rfl rfl fun c => rfl⟩
  cases e
  unfold Booked
  simp only [gone]
  refine ⟨fun m => ?_, fun r m => ?_, fun m => ?_, fun l m => ?_, fun l m => ?_⟩
  · exact absurd (p.live.mp m) (by simp [ended])
  · rw [p.queue r m] at ended; cases ended
  · rcases (p.holder m).moves with e | e | e <;> simp [e, OrderState.terminal] at ended
  · rcases (p.head l m).2.1 with e | e <;> simp [e, OrderState.terminal] at ended
  · rcases (p.load l m).2 with e | e | e <;> simp [e, OrderState.terminal] at ended

end Books
end Sys2Proof.Machine
end

section
/-! The mix that is reserved is available, so a new order keeps the books. -/

namespace Sys2Proof.Machine
set_option Elab.async false

variable {g : Stage} {s t : State} {i k : OrderSlot} {o q : Order} {c : CassetteId} {l : LaneId}

/-! ### The mix is available -/

theorem countDown_spec {complete : Nat → Option (List Nat)} {counts : List Nat} :
    ∀ {n : Nat}, countDown complete n = some counts → ∃ m ≤ n, ∃ rest, complete m = some rest ∧ counts = m :: rest
  | 0, h => by
    obtain ⟨rest, done, rfl⟩ := Option.map_eq_some_iff.mp h
    exact ⟨0, le_rfl, rest, done, rfl⟩
  | n + 1, h => by
    unfold countDown at h
    split at h
    next rest done => exact ⟨n + 1, le_rfl, rest, done, (Option.some.inj h).symm⟩
    · obtain ⟨m, fewer, found⟩ := countDown_spec h
      exact ⟨m, by omega, found⟩

theorem ceiling_le_available (p : Place) (rest left : Nat) (caps : List Cap) : ceiling p rest left caps ≤ p.available := by
  unfold ceiling
  dsimp only
  split <;> simp

/-- The search takes from no place more than is available there (R47, R50). -/
theorem searchMix_available : ∀ {places : List Place} {rest left : Nat} {caps : List Cap} {counts : List Nat},
    searchMix places rest left caps = some counts → ∀ pc ∈ places.zip counts, pc.2 ≤ pc.1.available
  | [], _, _, _, _, _ => by simp
  | p :: later, rest, left, caps, counts, h => by
    obtain ⟨m, most, more, found, rfl⟩ := countDown_spec h
    intro pc member
    rw [List.zip_cons_cons, List.mem_cons] at member
    rcases member with rfl | member
    · exact most.trans (ceiling_le_available p rest left caps)
    · exact searchMix_available found pc member

theorem insertPlace_perm (p : Place) : ∀ list, (insertPlace p list).Perm (p :: list)
  | [] => .refl _
  | q :: rest => by
    unfold insertPlace
    split
    · exact .refl _
    · exact ((insertPlace_perm p rest).cons q).trans (.swap p q rest)

theorem sortPlaces_perm : ∀ list, (sortPlaces list).Perm list
  | [] => .refl _
  | p :: rest => (insertPlace_perm p _).trans ((sortPlaces_perm rest).cons p)

/-- The places are the READY cassettes, each once. -/
theorem mem_places {p : Place} (h : p ∈ s.places) :
    (s.cassette p.slot).state = .ready ∧ p.available = (s.cassette p.slot).available := by
  obtain ⟨c, eligible, rfl⟩ := List.mem_map.mp ((sortPlaces_perm _).mem_iff.mp h)
  exact ⟨by simpa using (List.mem_filter.mp eligible).2, rfl⟩

theorem places_nodup (s : State) : (s.places.map (·.slot)).Nodup := by
  rw [State.places, ((sortPlaces_perm _).map _).nodup_iff, List.map_map]
  have slots : (fun p : Place => p.slot) ∘ (fun c => (⟨c, (s.cassette c).value, (s.cassette c).available⟩ : Place)) =
    id := rfl
  rw [slots, List.map_id]
  exact (List.nodup_ofFn.mpr fun a b h => h).filter _

/-- What a mix takes of a cassette. -/
def takenOf (mix : List MixEntry) (c : CassetteId) : Nat := ((mix.filter fun e => e.slot == c).map (·.count)).sum

/-- The entries of a vector take of a cassette at most what stands at its one place. -/
theorem takenOf_mixEntries {n : Nat} : ∀ {places : List Place} {counts : List Nat}, (places.map (·.slot)).Nodup →
    (∀ pc ∈ places.zip counts, pc.2 ≤ pc.1.available) → (∀ p ∈ places, p.slot = c → p.available ≤ n) →
    takenOf (mixEntries places counts) c ≤ n
  | [], _, _, _, _ => Nat.zero_le _
  | _ :: _, [], _, _, _ => Nat.zero_le _
  | p :: places, m :: counts, nodup, fits, top => by
    rw [List.map_cons, List.nodup_cons] at nodup
    have later := takenOf_mixEntries (n := n) nodup.2 (fun pc h => fits pc (List.mem_cons_of_mem _ h))
      fun q h => top q (List.mem_cons_of_mem _ h)
    have here := fits (p, m) (List.mem_cons_self ..)
    have entries : takenOf (mixEntries (p :: places) (m :: counts)) c =
        (if p.slot = c then m else 0) + takenOf (mixEntries places counts) c := by
      by_cases some : 0 < m
      · by_cases same : p.slot = c <;> simp [takenOf, mixEntries, some, same]
      · obtain rfl : m = 0 := by omega
        simp [takenOf, mixEntries]
    rw [entries]
    split
    next same =>
      have none_later : takenOf (mixEntries places counts) c ≤ 0 :=
        takenOf_mixEntries nodup.2 (fun pc h => fits pc (List.mem_cons_of_mem _ h))
          fun q h e => absurd (List.mem_map.mpr ⟨q, h, e.trans same.symm⟩) nodup.1
      have := top p (List.mem_cons_self ..) same
      simp only at here
      omega
    · omega

/-- The mix found takes of a cassette at most what is available there, and nothing of one that is not READY. -/
theorem findMix_available {amount : Nat} {caps : List Cap} {mix : List MixEntry} (found : s.findMix amount caps = some mix)
    (c : CassetteId) : takenOf mix c ≤ (s.cassette c).available ∧ (takenOf mix c ≠ 0 → (s.cassette c).state = .ready) := by
  obtain ⟨counts, search, rfl⟩ := Option.map_eq_some_iff.mp found
  have fits := searchMix_available search
  refine ⟨takenOf_mixEntries (places_nodup s) fits fun p h e => by rw [(mem_places h).2, e], fun some => ?_⟩
  by_contra other
  refine some (Nat.le_zero.mp (takenOf_mixEntries (places_nodup s) fits fun p h e => ?_))
  exact absurd (e ▸ (mem_places h).1) other

/-! ### A new order -/

theorem Books.makeOrder (h : Books g s) (running : g.course = .running) (empty : s.order i = none)
    (waits : o.state = .held ∨ o.state = .queued) (available : ∀ c, o.need c ≤ (s.cassette c).available)
    (ready : ∀ c, o.need c ≠ 0 → (s.cassette c).state = .ready) : Books g (Machine.makeOrder i o s) := by
  have v := (h.slots.booked i).of_free empty
  have made : (Machine.makeOrder i o s).order i = some o := by rw [makeOrder_order, if_pos rfl]
  have others (k : OrderSlot) (apart : k ≠ i) : (Machine.makeOrder i o s).order k = s.order k := by
    rw [makeOrder_order, if_neg (Ne.symm apart)]
  have reserves : o.state.reserves = true := by rcases waits with e | e <;> rw [e] <;> rfl
  have path := makeOrder_path i o s
  have sup : (Machine.makeOrder i o s).sup = s.sup := by
    unfold Machine.makeOrder
    split <;> rfl
  have queue (claim : Claim) (m : claim ∈ (Machine.makeOrder i o s).path.queue) :
      claim ∈ s.path.queue ∨ o.state = .queued ∧ claim = .order i := by
    rw [path] at m
    dsimp only at m
    split at m
    next queued => simpa [queued] using m
    · exact .inl m
  refine ⟨h.slots.of_spares (n := some i) ⟨fun k a => others k fun e => a (congrArg some e.symm), fun k a => ?_, fun k a m => ?_,
      fun k a m => ?_, fun k a _ m => by rw [path]; exact m, fun l k a m => by rwa [makeOrder_lane] at m,
      fun l k a m => by rwa [makeOrder_lane] at m, by rw [sup]⟩ (fun k e => ?_) ?_, ⟨fun c => ?_, fun c => ?_, fun c short => ?_, fun c => ?_⟩,
    h.path.of_queue (list := (Machine.makeOrder i o s).path.queue) (by rw [path]) (fun c m => ?_) (by rw [sup]) fun c => ?_⟩
  · rw [makeOrder_placement]
    simpa using fun e : k = i => absurd (congrArg some e.symm) a
  · exact (queue _ m).resolve_right fun e => a (congrArg some (Claim.order.inj e.2).symm)
  · rw [path] at m ⊢
    exact ⟨m, rfl, rfl⟩
  · cases e
    refine Placed.booked ⟨⟨fun _ => by rcases waits with e | e <;> rw [e] <;> rfl, fun _ => ?_⟩, fun r m => ?_, fun m => ?_,
      fun m => ?_, fun l m => ?_, fun l m => ?_, fun r => by rw [running] at r; cases r⟩ made
    · simp [makeOrder_placement]
    · exact (queue _ m).elim (fun m => absurd m (v.queue r)) fun e => e.1
    · rw [path] at m; exact absurd m v.holder
    · rcases waits with e | e <;> rw [e] at m <;> cases m
    · rw [makeOrder_lane] at m; exact absurd m (v.head l)
    · rw [makeOrder_lane] at m; exact absurd m (v.load l)
  · rw [makeOrder_placement]
    exact List.nodup_append.mpr ⟨h.slots.nodup, by simp, by
      intro a m b n e
      rw [List.mem_singleton.mp n] at e
      exact v.live (e ▸ m)⟩
  · have moves := demand_exchange others c
    simp only [made, empty, dueOf, reserves, if_true] at moves
    rw [makeOrder_cassette]
    have := h.store.dues c
    dsimp only
    omega
  · rw [makeOrder_cassette]
    intro pos note
    by_cases none : o.need c = 0
    · exact h.store.ready c (by simpa [none] using pos) note
    · exact ready c none
  · rw [makeOrder_cassette]
    have := h.store.bound c short
    have := available c
    unfold Cassette.available at this
    dsimp only
    omega
  · rw [makeOrder_cassette]
    obtain ⟨session, note, tally⟩ := h.store.sound c
    exact ⟨session, note, tally⟩
  · exact (queue _ m).resolve_right fun e => by cases e.2
  · rw [makeOrder_cassette]
    exact ⟨rfl, rfl⟩

end Sys2Proof.Machine
end

section
/-! The picks, the rejects and the cascade of a cassette that runs short keep the books. -/

namespace Sys2Proof.Machine
set_option Elab.async false

variable {g : Stage} {b : Bool} {s t : State} {i j k : OrderSlot} {o q : Order} {c : CassetteId} {l : LaneId}

/-- Outside recovery, with one cassette that may hold more reservations than notes. -/
def Stage.lacking (tallied : Bool) (c : CassetteId) : Stage where
  course := .running
  short := some c
  tallied := tallied

/-! ### Stages of one course -/

theorem Booked.of_course {g' : Stage} (h : Booked g s i) (same : g'.course = g.course) : Booked g' s i := by
  unfold Booked at h ⊢
  cases order : s.order i with
  | none =>
    simp only [order] at h ⊢
    exact ⟨h.live, by rw [same]; exact h.queue, h.holder, h.head, h.load⟩
  | some o =>
    simp only [order] at h ⊢
    exact ⟨h.live, by rw [same]; exact h.queue, by rw [same]; exact h.holder, h.picks, h.head, h.load, by rw [same]; exact h.allowed⟩

theorem PathBooks.of_course {g' : Stage} (h : PathBooks g s) (same : g'.course = g.course) : PathBooks g' s :=
  ⟨by rw [same]; exact h.claims, by rw [same]; exact h.levels, h.reading, h.still, by rw [same]; exact h.rest,
    by rw [same]; exact h.settle⟩

/-- The cassette that lacked notes no longer does. -/
theorem Books.cover (h : Books (.lacking b c) s) (bound : (s.cassette c).reserved ≤ (s.cassette c).current) :
    Books (.plain b) s :=
  ⟨⟨h.slots.nodup, fun k => (h.slots.booked k).of_course rfl⟩,
    ⟨h.store.dues, h.store.ready, fun k _ => by
      by_cases e : c = k
      · exact e ▸ bound
      · exact h.store.bound k fun short => e (Option.some.inj short), h.store.sound⟩,
    h.path.of_course rfl⟩

/-! ### What an order needs -/

/-- What an order needs of the cassette of an incomplete entry is more than nothing, and falls with a note accepted. -/
theorem need_entry {n : Nat} {e : MixEntry} (entry : o.mix[n]? = some e) (open_ : e.accepted < e.count) : 0 < o.need e.slot := by
  have member := List.mem_of_getElem? entry
  have part : e.count - e.accepted ≤ o.need e.slot :=
    List.single_le_sum (fun _ _ => Nat.zero_le _) _
      (List.mem_map.mpr ⟨e, List.mem_filter.mpr ⟨member, by simp⟩, rfl⟩)
  omega

/-- The entry being picked is incomplete. -/
theorem Order.nextEntry_open {n : Nat} {e : MixEntry} (next : o.nextEntry = some n) (entry : o.mix[n]? = some e) :
    e.accepted < e.count := by
  obtain ⟨inside, incomplete, -⟩ := List.findIdx?_eq_some_iff_getElem.mp next
  rw [List.getElem?_eq_getElem inside, Option.some.injEq] at entry
  simpa [entry] using incomplete

theorem sum_modify_accepted (c : CassetteId) : ∀ (mix : List MixEntry) (n : Nat) (e : MixEntry), mix[n]? = some e →
    e.accepted < e.count →
    (((mix.modify n fun e => { e with accepted := e.accepted + 1 }).filter fun e => e.slot == c).map fun e =>
        e.count - e.accepted).sum + (if e.slot = c then 1 else 0) =
      ((mix.filter fun e => e.slot == c).map fun e => e.count - e.accepted).sum
  | [], _, _, h, _ => by simp at h
  | a :: mix, 0, e, h, open_ => by
    obtain rfl : a = e := by simpa using h
    by_cases here : a.slot = c
    · simp [here]; omega
    · simp [here]
  | a :: mix, n + 1, e, h, open_ => by
    have later := sum_modify_accepted c mix n e (by simpa using h) open_
    by_cases here : a.slot = c
    · simp only [List.modify_succ_cons, List.filter_cons, here, beq_self_eq_true, if_true, List.map_cons, List.sum_cons]
      omega
    · simpa [here] using later

/-- The order after a note of the entry n is accepted. -/
def Order.accept (n : Nat) (o : Order) : Order :=
  { o with mix := o.mix.modify n fun e => { e with accepted := e.accepted + 1 } }

theorem need_accept {n : Nat} {e : MixEntry} (entry : o.mix[n]? = some e) (open_ : e.accepted < e.count) (c : CassetteId) :
    (o.accept n).need c + (if e.slot = c then 1 else 0) = o.need c :=
  sum_modify_accepted c o.mix n e entry open_

theorem dueOf_of_picking (picks : o.state = .picking) (c : CassetteId) : dueOf (some o) c = o.need c := by
  simp [dueOf, picks, OrderState.reserves]

namespace Books

/-! ### The cassette that is picked from -/

/-- What the picking order still needs is reserved, so that the cassette is READY and holds it. -/
theorem picked (h : Books (.plain b) s) (picking : s.pickingOrder = some (i, o)) (needs : 0 < o.need c) :
    (s.cassette c).state = .ready ∧ o.need c ≤ (s.cassette c).reserved ∧
      (s.cassette c).reserved ≤ (s.cassette c).current := by
  obtain ⟨-, -, -, order, picks, -⟩ := h.picking_order picking
  have part := due_le_demand s i c
  rw [← h.store.dues c, order] at part
  simp only [dueOf, picks, OrderState.reserves, if_true] at part
  have bound := h.store.bound c (by simp [Stage.plain])
  exact ⟨h.store.ready c (by omega) (by omega), part, bound⟩

/-- A READY cassette loses notes, but none of its reservations. -/
theorem lower (h : Books (.plain b) s) {f : Cassette → Cassette} (ready : (s.cassette c).state = .ready)
    (reserved : (f (s.cassette c)).reserved = (s.cassette c).reserved)
    (leveling : (f (s.cassette c)).leveling = (s.cassette c).leveling)
    (state : (f (s.cassette c)).state = .ready ∨ (f (s.cassette c)).state = .empty ∧ (f (s.cassette c)).current = 0)
    (balanced : b = true → (f (s.cassette c)).balanced = true) : Books (.lacking b c) (s.modCassette c f) := by
  have self : (s.modCassette c f).cassette c = f (s.cassette c) := by simp
  have other {k : CassetteId} (apart : c ≠ k) : (s.modCassette c f).cassette k = s.cassette k := by
    rw [State.modCassette_cassette, if_neg apart]
  obtain ⟨queue, holder⟩ := h.unclaimed (c := c) (by simp [ready])
  have idle : (s.cassette c).leveling.isSome = false := by
    have := (h.store.sound c).session
    rw [ready] at this
    simpa using this
  refine ⟨⟨h.slots.nodup, fun k => ?_⟩, ⟨fun k => ?_, fun k pos => ?_, fun k short => ?_, fun k => ?_⟩, ?_⟩
  · exact ((h.slots.booked k).of_spares (n := none) ((Spares.refl none s).modCassette c f) (by simp)).of_course rfl
  · by_cases e : c = k
    · subst e; rw [self, reserved]; exact h.store.dues c
    · rw [other e]; exact h.store.dues k
  · by_cases e : c = k
    · subst e
      rw [self] at pos ⊢
      exact fun note => state.resolve_right fun gone => by omega
    · rw [other e] at pos ⊢; exact h.store.ready k pos
  · have apart : c ≠ k := fun e => short (by rw [← e]; rfl)
    rw [other apart]
    exact h.store.bound k (by simp [Stage.plain])
  · by_cases e : c = k
    · subst e
      rw [self]
      refine ⟨?_, fun m => ?_, fun tallied _ => balanced tallied⟩
      · rw [leveling, idle]
        rcases state with e | ⟨e, -⟩ <;> simp [e]
      · rcases state with e | ⟨e, -⟩ <;> simp [e] at m
    · rw [other e]; exact h.store.sound k
  · refine ⟨fun r k m => ?_, fun k m => ?_, fun m => ?_, h.path.still, h.path.rest, h.path.settle⟩
    · have apart : c ≠ k := fun e => queue r (by rw [e]; exact m)
      rw [other apart]; exact h.path.claims r k m
    · have apart : c ≠ k := fun e => holder (by rw [e]; exact m)
      rw [other apart]; exact h.path.levels k m
    · obtain ⟨k, hk, phase⟩ := h.path.reading m
      have apart : c ≠ k := fun e => holder (by rw [e]; exact hk)
      exact ⟨k, hk, by rw [other apart]; exact phase⟩

/-- A note of the entry being picked is accepted, and the transport goes to the next incomplete entry. -/
theorem acceptNote {n : Nat} {e : MixEntry} (h : Books (.plain b) s) (picking : s.pickingOrder = some (i, o))
    (at_ : s.path.entry = some n) (entry : o.mix[n]? = some e) :
    Books (.plain b) ((Machine.acceptNote i n e.slot s).modPath fun p => { p with entry := (o.accept n).nextEntry }) := by
  obtain ⟨-, state, holder, order, picks, next⟩ := h.picking_order picking
  have open_ := Order.nextEntry_open (next.symm.trans at_) entry
  obtain ⟨ready, part, bound⟩ := h.picked picking (need_entry entry open_)
  have need := need_accept entry open_
  have p := h.placed order
  obtain ⟨queue, holder'⟩ := h.unclaimed (c := e.slot) (by simp [ready])
  generalize made : ((Machine.acceptNote i n e.slot s).modPath fun p => { p with entry := (o.accept n).nextEntry }) = t
  have ends : t.order i = some (o.accept n) := by
    rw [← made]
    simp [Machine.acceptNote, order, Order.accept]
  have others (k : OrderSlot) (apart : k ≠ i) : t.order k = s.order k := by
    rw [← made]
    simp [Machine.acceptNote, State.modOrder_order, Ne.symm apart]
  have cassette (k : CassetteId) : t.cassette k = if e.slot = k then { (s.cassette k).lower 1 with
      accepted := (s.cassette k).accepted + 1, reserved := (s.cassette k).reserved - 1 } else s.cassette k := by
    rw [← made]
    simp [Machine.acceptNote, State.modCassette_cassette]
  have path : t.path = { s.path with entry := (o.accept n).nextEntry } := by rw [← made]; rfl
  have rest : t.custody.placement = s.custody.placement ∧ t.custody.lanes = s.custody.lanes ∧ t.sup = s.sup := by
    rw [← made]
    exact ⟨rfl, rfl, rfl⟩
  obtain ⟨placement, lanes, sup⟩ := rest
  have lane (l : LaneId) : t.lane l = s.lane l := by rw [State.lane, lanes, State.lane]
  have self : t.cassette e.slot = { (s.cassette e.slot).lower 1 with
      accepted := (s.cassette e.slot).accepted + 1, reserved := (s.cassette e.slot).reserved - 1 } := by
    rw [cassette, if_pos rfl]
  have other {k : CassetteId} (apart : e.slot ≠ k) : t.cassette k = s.cassette k := by rw [cassette, if_neg apart]
  refine ⟨h.slots.of_spares (n := some i) ⟨fun k a => others k fun e => a (congrArg some e.symm), fun k _ => by rw [placement],
      fun k _ m => by rwa [path] at m, fun k a m => ?_, fun k a _ m => by rw [path]; exact m, fun l k _ m => by rwa [lane] at m,
      fun l k _ m => by rwa [lane] at m, by rw [sup]⟩ (fun k same => ?_) (by rw [placement]; exact h.slots.nodup),
    ⟨fun k => ?_, fun k => ?_, fun k short => ?_, fun k => ?_⟩, ⟨fun r k m => ?_, fun k m => ?_, fun m => ?_, ?_, ?_, ?_⟩⟩
  · rw [path] at m
    have same := Claim.order.inj (Option.some.inj (holder.symm.trans m))
    exact absurd (congrArg some same) a
  · cases same
    have placed : Placed (.plain b) t i (o.accept n) :=
      ⟨by rw [placement]; exact p.live, by rw [path]; exact p.queue,
        fun m => ⟨by rw [path, state]; exact congrArg some picks.symm, fun _ => by rw [path]⟩, by rw [sup, path]; exact p.picks,
        by simp only [lane, path]; exact p.head, by simp only [lane]; exact p.load, p.allowed⟩
    exact placed.booked ends
  · have moves := demand_exchange others k
    have dues := h.store.dues k
    have falls := need k
    rw [order, ends, dueOf_of_picking picks, dueOf_of_picking (o := o.accept n) picks] at moves
    by_cases same : e.slot = k
    · subst same
      rw [self]
      simp only [if_true] at falls
      dsimp only
      omega
    · rw [other same]
      rw [if_neg same] at falls
      omega
  · by_cases same : e.slot = k
    · subst same
      rw [self]
      intro _ note
      have note : (s.cassette e.slot).current - 1 ≠ 0 := Nat.pos_iff_ne_zero.mp note
      simp [Cassette.lower, note, ready]
    · rw [other same]; exact h.store.ready k
  · by_cases same : e.slot = k
    · subst same
      rw [self]
      have := h.store.bound e.slot short
      simp only [Cassette.lower]
      omega
    · rw [other same]; exact h.store.bound k short
  · obtain ⟨session, note, tally⟩ := h.store.sound k
    by_cases same : e.slot = k
    · subst same
      rw [self]
      have gone : ((s.cassette e.slot).lower 1).state ≠ .leveling := by
        simp only [Cassette.lower, ready]
        split <;> simp
      refine ⟨⟨fun m => absurd m gone, fun m => ?_⟩, fun m => absurd m gone, fun tallied _ => ?_⟩
      · have := session.mpr m
        rw [ready] at this
        cases this
      · have balanced := tally tallied (by rw [ready]; rfl)
        rw [Cassette.balanced_iff] at balanced ⊢
        simp only [Cassette.lower]
        have := need e.slot
        simp only [if_true] at this
        omega
    · rw [other same]; exact h.store.sound k
  · rw [path] at m
    have apart : e.slot ≠ k := fun e => queue r (by rw [e]; exact m)
    rw [other apart]
    exact h.path.claims r k m
  · rw [path, holder] at m
    cases m
  · rw [path] at m
    obtain ⟨k, hk, -⟩ := h.path.reading m
    rw [holder] at hk
    cases hk
  · rw [path, sup]; exact h.path.still
  · rw [path, sup]; exact h.path.rest
  · rw [sup]; exact h.path.settle

end Books

end Sys2Proof.Machine
end

section
/-! The events at the gauge and of the pick window keep the books. -/

namespace Sys2Proof.Machine
set_option Elab.async false

variable {g : Stage} {b : Bool} {s t : State} {i j k : OrderSlot} {o q : Order} {c : CassetteId} {l : LaneId}

/-- An order without an incomplete entry needs nothing. -/
theorem Order.need_of_complete (complete : o.nextEntry = none) (c : CassetteId) : o.need c = 0 := by
  have full := List.findIdx?_eq_none_iff.mp complete
  refine List.sum_eq_zero fun n m => ?_
  obtain ⟨e, member, rfl⟩ := List.mem_map.mp m
  have := full e (List.mem_of_mem_filter member)
  simp only [decide_eq_false_iff_not, not_lt] at this
  omega

theorem pickingOrder_of (state : s.path.state = .picking) (holder : s.path.holder = some (.order i)) (order : s.order i = some o) :
    s.pickingOrder = some (i, o) := by
  simp [State.pickingOrder, state, holder, order]

/-- The end of a pick does not look at the entry. -/
theorem abortPicking_entry (r : Reason) (n : Option Nat) (picking : s.pickingOrder = some (i, o)) :
    abortPicking r (s.modPath fun p => { p with entry := n }) = abortPicking r s := by
  have still : (s.modPath fun p => { p with entry := n }).pickingOrder = some (i, o) := picking
  have orders : (s.modPath fun p => { p with entry := n }).order i = s.order i := rfl
  obtain ⟨-, -, order⟩ := pickingOrder_some picking
  unfold abortPicking
  simp only [still, picking, releaseReservations, orders, order]
  rfl

namespace Books

/-! ### An order that is complete -/

theorem startRouting (h : Books (.plain b) s) (picking : s.pickingOrder = some (i, o)) (complete : o.nextEntry = none)
    (l : LaneId) : Books (.plain b) (Machine.startRouting i l s) := by
  obtain ⟨running, state, holder, order, picks, -⟩ := h.picking_order picking
  have p := h.placed order
  have head l (m : (s.lane l).head = some i) : False := by simpa [picks] using (p.head l m).2.1
  have load l (m : (s.lane l).load = some i) : False := by simpa [picks] using (p.load l m).2
  have ends : (Machine.startRouting i l s).order i = some { o with state := .routing } := by simp [Machine.startRouting, order]
  refine ⟨h.slots.of_spares (n := some i) (((Spares.refl _ s).modOrder _).modPath (holder := fun k a m => ?_)) (fun k e => ?_)
    h.slots.nodup, ?_, ?_⟩
  · have same := Claim.order.inj (Option.some.inj (holder.symm.trans m))
    exact absurd (congrArg some same) a
  · cases e
    exact Placed.booked ⟨⟨fun _ => rfl, fun _ => p.live.mpr (by rw [picks]; rfl)⟩,
      fun r m => absurd (p.queue r m) (by simp [picks]), fun _ => ⟨rfl, fun m => (by cases m)⟩, fun m => (by cases m),
      fun l m => (head l m).elim, fun l m => (load l m).elim, fun m => (by cases m)⟩ ends
  · refine h.store.idle (i := i) (fun k a => ?_) (fun c => ?_) fun c => rfl
    · simp [Machine.startRouting, State.modOrder_order, Ne.symm a]
    · rw [ends, order, dueOf_of_picking picks, Order.need_of_complete complete]
      rfl
  · refine ⟨h.path.claims, fun c m => ?_, h.path.reading, fun _ => by simp [Machine.startRouting], h.path.rest, h.path.settle⟩
    simp [Machine.startRouting, holder] at m

/-- After an acceptance the order picks on or routes. -/
theorem pickOn (h : Books (.plain b) (s.modPath fun p => { p with entry := o.nextEntry })) (picking : s.pickingOrder = some (i, o)) :
    Books (.plain b) (Machine.pickOn i s) := by
  obtain ⟨-, -, order⟩ := pickingOrder_some picking
  unfold Machine.pickOn
  simp only [order]
  split
  next n next =>
    rw [next] at h
    exact (h.modPath fun p => { p with misses := 0 }).beginAttempt
  next complete => exact h.startRouting (o := o) picking complete o.lane

/-! ### A cassette that runs short -/

/-- Outside recovery, an order in PICKING is the one that the transport picks for. -/
theorem picks_alone (h : Books g s) (running : g.course = .running) (awake : s.sup.phase ≠ some .settle) (order : s.order i = some o)
    (picks : o.state = .picking) : s.pickingOrder = some (i, o) := by
  have p := h.placed order
  have holder := (p.picks picks).resolve_left awake
  have holds := p.holder holder
  rw [running] at holds
  refine pickingOrder_of ?_ holder order
  have := holds.1
  rw [picks] at this
  cases state : s.path.state <;> simp_all [PathState.holderState]

theorem failHolder (h : Books g s) (c : CassetteId) (i : OrderSlot) : Books g (Machine.failHolder c s i) := by
  unfold Machine.failHolder
  split
  next o order =>
    split
    next fails => exact h.stopOrder order fails.2.1 rfl _
    · exact h
  · exact h

theorem abortShort (h : Books g s) (c : CassetteId) : Books g (Machine.abortShort c s) := by
  unfold Machine.abortShort
  split
  · split
    · exact h.abortPicking _
    · exact h
  · exact h

end Books

/-- The reservations of a cassette are covered by the notes in it. -/
def State.covered (s : State) (c : CassetteId) : Prop := (s.cassette c).reserved ≤ (s.cassette c).current

/-- The order in slot i is none that waits with a reservation on the cassette, or the cassette is covered. -/
def Served (c : CassetteId) (s : State) (i : OrderSlot) : Prop :=
  s.covered c ∨ ∀ o, s.order i = some o → o.state = .held ∨ o.state = .queued → o.need c = 0

/-- What holds from one holder to the next as the cascade runs: the books, and the picking order needs no more than there
is. -/
structure Cascading (b : Bool) (c : CassetteId) (live : List OrderSlot) (s : State) : Prop where
  books : Books (.lacking b c) s
  awake : s.sup.phase ≠ some .settle
  live : ∀ i, i ∈ s.custody.placement → i ∈ live
  picking : ∀ i o, s.pickingOrder = some (i, o) → s.covered c ∨ o.need c ≤ (s.cassette c).current

/-- A passage in which every turn settles its own element and none unsettles another. -/
theorem foldl_settles {σ α : Type} {P : σ → Prop} {Q : α → σ → Prop} {f : σ → α → σ} (keeps : ∀ a s, P s → P (f s a))
    (settles : ∀ a s, P s → Q a (f s a)) (stands : ∀ a x s, P s → Q x s → Q x (f s a)) :
    ∀ (list : List α) (s : σ), P s → P (list.foldl f s) ∧ ∀ x, (x ∈ list ∨ Q x s) → Q x (list.foldl f s)
  | [], s, p => ⟨p, fun x q => q.resolve_left (by simp)⟩
  | a :: list, s, p => by
    obtain ⟨p', later⟩ := foldl_settles keeps settles stands list (f s a) (keeps a s p)
    refine ⟨p', fun x q => later x ?_⟩
    rcases q with m | q
    · rcases List.mem_cons.mp m with rfl | m
      · exact .inr (settles x s p)
      · exact .inl m
    · exact .inr (stands a x s p q)

/-- A holder that fails releases at most reservations and leaves the notes where they are. -/
theorem failHolder_cassette (c k : CassetteId) (s : State) (i : OrderSlot) :
    ((failHolder c s i).cassette k).current = (s.cassette k).current ∧
      ((failHolder c s i).cassette k).reserved ≤ (s.cassette k).reserved := by
  unfold failHolder
  split
  next o order =>
    split
    · rw [stopOrder_cassette order]
      exact ⟨rfl, Nat.sub_le _ _⟩
    · exact ⟨rfl, le_rfl⟩
  · exact ⟨rfl, le_rfl⟩

theorem State.covered.failHolder {c' : CassetteId} (h : s.covered c') (c : CassetteId) (i : OrderSlot) :
    (failHolder c s i).covered c' := by
  obtain ⟨current, reserved⟩ := failHolder_cassette c c' s i
  unfold State.covered
  rw [current]
  exact reserved.trans h

/-- The slot of a holder is left with a failed order or with what it held. -/
theorem failHolder_order (c : CassetteId) (s : State) (i k : OrderSlot) :
    (failHolder c s i).order k = s.order k ∨ i = k ∧ ∃ o, (failHolder c s i).order k = some o ∧ o.state = .failed := by
  unfold failHolder
  split
  next o order =>
    split
    · by_cases same : i = k
      · subst same
        exact .inr ⟨rfl, _, stopOrder_order order .failed .short, rfl⟩
      · exact .inl (stopOrder_order_other (Ne.symm same) _ _ s)
    · exact .inl rfl
  · exact .inl rfl

theorem Served.failHolder (h : Served c s k) (i : OrderSlot) : Served c (failHolder c s i) k := by
  rcases h with covered | idle
  · exact .inl (covered.failHolder c i)
  · refine .inr fun o order waits => ?_
    rcases failHolder_order c s i k with same | ⟨-, q, ends, failed⟩
    · exact idle o (same ▸ order) waits
    · obtain rfl : q = o := Option.some.inj (ends.symm.trans order)
      simp [failed] at waits

/-- Each holder in turn is served. -/
theorem served_failHolder (c : CassetteId) (s : State) (i : OrderSlot) : Served c (failHolder c s i) i := by
  unfold failHolder
  split
  next o order =>
    split
    next fails =>
      refine .inr fun q ends waits => ?_
      rw [stopOrder_order order] at ends
      obtain rfl := Option.some.inj ends
      simp at waits
    next stands =>
      by_cases covered : s.covered c
      · exact .inl covered
      · refine .inr fun q ends waits => ?_
        obtain rfl : o = q := Option.some.inj (order.symm.trans ends)
        by_contra needs
        exact stands ⟨Nat.lt_of_not_le covered, waits, Nat.pos_of_ne_zero needs⟩
  next free => exact .inr fun o order => by rw [free] at order; cases order

@[simp] theorem stopOrder_sup (i : OrderSlot) (v : OrderState) (r : Reason) (s : State) : (stopOrder i v r s).sup = s.sup := by
  simp [stopOrder]

theorem stopOrder_placement (i : OrderSlot) (v : OrderState) (r : Reason) (s : State) :
    (stopOrder i v r s).custody.placement = s.custody.placement.filter (· != i) := by
  simp [stopOrder]

theorem Cascading.failHolder {live : List OrderSlot} (h : Cascading b c live s) (i : OrderSlot) :
    Cascading b c live (failHolder c s i) := by
  refine ⟨h.books.failHolder c i, ?_, fun k m => h.live k ?_, fun k o picking => ?_⟩
  · unfold Machine.failHolder
    split
    · split
      · rw [stopOrder_sup]; exact h.awake
      · exact h.awake
    · exact h.awake
  · unfold Machine.failHolder at m
    split at m
    · split at m
      · rw [stopOrder_placement] at m; exact (List.mem_filter.mp m).1
      · exact m
    · exact m
  · obtain ⟨current, reserved⟩ := failHolder_cassette c c s i
    have earlier : s.pickingOrder = some (k, o) := by
      unfold Machine.failHolder at picking
      split at picking
      next q order =>
        split at picking
        next fails =>
          obtain ⟨state, holder, ends⟩ := pickingOrder_some picking
          rw [stopOrder_path] at state holder
          have apart : k ≠ i := by
            rintro rfl
            exact ((h.books.placed order).waits_alone fails.2.1).1 holder
          rw [stopOrder_order_other apart] at ends
          exact pickingOrder_of state holder ends
        · exact picking
      · exact picking
    rw [current]
    exact (h.picking k o earlier).imp_left fun covered => covered.failHolder c i

/-- Once every live order has been served, the cassette is covered. -/
theorem Cascading.covered {live : List OrderSlot} (h : Cascading b c live s) (served : ∀ i ∈ live, Served c s i) : s.covered c := by
  by_contra short
  have waiting (i : OrderSlot) (o : Order) (order : s.order i = some o) (waits : o.state = .held ∨ o.state = .queued) :
      o.need c = 0 := by
    have placed : i ∈ s.custody.placement := (h.books.placed order).live.mpr (by rcases waits with e | e <;> rw [e] <;> rfl)
    exact (served i (h.live i placed)).resolve_left short o order waits
  have due (i : OrderSlot) : dueOf (s.order i) c = 0 ∨ ∃ o, s.pickingOrder = some (i, o) ∧ dueOf (s.order i) c = o.need c := by
    cases order : s.order i with
    | none => exact .inl rfl
    | some o =>
      cases state : o.state
      case held => exact .inl (by simp [dueOf, state, OrderState.reserves, waiting i o order (.inl state)])
      case queued => exact .inl (by simp [dueOf, state, OrderState.reserves, waiting i o order (.inr state)])
      case picking => exact .inr ⟨o, h.books.picks_alone rfl h.awake order state, dueOf_of_picking state c⟩
      all_goals exact .inl (by simp [dueOf, state, OrderState.reserves])
  have dues : (s.cassette c).reserved = s.demand c := h.books.store.dues c
  cases picking : s.pickingOrder with
  | none =>
    refine short ?_
    rw [State.covered, dues, demand_zero fun i => (due i).resolve_right fun ⟨o, p, _⟩ => by rw [picking] at p; cases p]
    exact Nat.zero_le _
  | some io =>
    obtain ⟨i, o⟩ := io
    have alone (k : OrderSlot) (apart : k ≠ i) : dueOf (s.order k) c = 0 :=
      (due k).resolve_right fun ⟨o', p, _⟩ => by
        rw [picking] at p
        exact apart (congrArg Prod.fst (Option.some.inj p)).symm
    have sum : s.demand c = dueOf (s.order i) c := by
      rw [demand_eq_sum]
      exact Finset.sum_eq_single i (fun k _ => alone k) (fun m => absurd (Finset.mem_univ i) m)
    have order := (pickingOrder_some picking).2.2
    have picks := (h.books.picking_order picking).2.2.2.2.1
    have few := (h.picking i o picking).resolve_left short
    rw [order, dueOf_of_picking picks] at sum
    exact short (by rw [State.covered, dues, sum]; exact few)

/-- No order is picked for once the picking order has stopped. -/
theorem abortPicking_done {r : Reason} (picking : s.pickingOrder = some (i, o)) : (abortPicking r s).pickingOrder = none := by
  unfold abortPicking
  simp only [picking]
  split <;> rfl

@[simp] theorem abortPicking_sup (r : Reason) (s : State) : (abortPicking r s).sup = s.sup := by
  unfold abortPicking
  split
  · split <;> simp [releaseTransport]
  · rfl

@[simp] theorem abortShort_sup (c : CassetteId) (s : State) : (abortShort c s).sup = s.sup := by
  unfold abortShort
  split
  · split
    · exact abortPicking_sup _ s
    · rfl
  · rfl

namespace Books

/-- The picking order is the first to give way. -/
theorem cascading_abortShort (h : Books (.lacking b c) s) (awake : s.sup.phase ≠ some .settle) :
    Cascading b c (Machine.abortShort c s).custody.placement (Machine.abortShort c s) := by
  refine ⟨h.abortShort c, by rw [abortShort_sup]; exact awake, fun _ m => m, fun i o picking => ?_⟩
  unfold Machine.abortShort at picking ⊢
  cases before : s.pickingOrder with
  | none =>
    simp only [before] at picking
    cases picking
  | some io =>
    obtain ⟨j, q⟩ := io
    simp only [before] at picking ⊢
    split at picking
    · rw [abortPicking_done before] at picking
      cases picking
    next stands =>
      rw [if_neg stands]
      obtain ⟨rfl, rfl⟩ : j = i ∧ q = o := by simpa [before] using picking
      by_cases covered : s.covered c
      · exact .inl covered
      · exact .inr (not_lt.mp fun more => stands ⟨Nat.lt_of_not_le covered, more⟩)

theorem shortCascade (h : Books (.lacking b c) s) (awake : s.sup.phase ≠ some .settle) :
    Books (.plain b) (Machine.shortCascade c s) := by
  have start := h.cascading_abortShort awake
  obtain ⟨last, served⟩ := foldl_settles (f := Machine.failHolder c)
    (P := Cascading b c (Machine.abortShort c s).custody.placement) (Q := fun i t => Served c t i) (fun i _ p => Cascading.failHolder p i)
    (fun i t _ => served_failHolder c t i) (fun i k _ _ q => q.failHolder i)
    (Machine.abortShort c s).custody.placement.reverse _ start
  exact last.books.cover (last.covered fun i m => served i (.inl (List.mem_reverse.mpr m)))

/-! ### The gauge and the pick window -/

/-- A reject debits a READY cassette. -/
theorem rejectNote {n : Nat} (h : Books (.plain b) s) (picking : s.pickingOrder = some (i, o)) (needs : 0 < o.need c) :
    Books (.plain b) (Machine.rejectNote i c n s) := by
  obtain ⟨running, state, holder, order, picks, -⟩ := h.picking_order picking
  have awake : s.sup.phase ≠ some .settle := by simp [h.path.awake state]
  obtain ⟨ready, -, -⟩ := h.picked picking needs
  have debited := h.lower (c := c)
    (f := fun r => { r.lower (min n (s.cassette c).current) with rejectNotes := r.rejectNotes + min n (s.cassette c).current })
    ready rfl rfl (by
      simp only [Cassette.lower, ready]
      split
      next gone => exact .inr ⟨rfl, gone.1⟩
      · exact .inl rfl) fun tallied => by
      have balanced := (h.store.sound c).tally tallied (by rw [ready]; rfl)
      rw [Cassette.balanced_iff] at balanced ⊢
      simp only [Cassette.lower]
      omega
  unfold Machine.rejectNote
  refine Books.shortCascade ?_ ?_
  · have counted := (debited.addRejects (min n (s.cassette c).current)).modOrder i fun o => { o with
      rejectItems := o.rejectItems + 1, rejectNotes := o.rejectNotes + min n (s.cassette c).current }
    dsimp only
    split
    · split
      · exact counted.abortPicking _
      · exact counted
    · exact counted
  · dsimp only
    split
    · split
      · simpa [Machine.addRejects, Machine.evalPause] using awake
      · simpa [Machine.addRejects, Machine.evalPause] using awake
    · simpa [Machine.addRejects, Machine.evalPause] using awake

theorem gaugeOrder {n : Nat} {e : MixEntry} (h : Books (.plain b) s) (picking : s.pickingOrder = some (i, o))
    (at_ : s.path.entry = some n) (entry : o.mix[n]? = some e) (a : Attempt) (v : Nat) :
    Books (.plain b) (Machine.gaugeOrder i n e a v s) := by
  have next := (h.picking_order picking).2.2.2.2.2
  have needs := need_entry entry (Order.nextEntry_open (next.symm.trans at_) entry)
  unfold Machine.gaugeOrder
  split
  · have accepted := Books.acceptNote (h.modPath fun p => { p with attempt := none, misses := 0, rejectDiverter := false })
      picking at_ entry
    have picks : (Machine.acceptNote i n e.slot (noteArrived false s)).pickingOrder = some (i, o.accept n) := by
      obtain ⟨state, holder, order⟩ := pickingOrder_some picking
      refine pickingOrder_of state holder ?_
      simp [Machine.acceptNote, noteArrived, order, Order.accept]
    dsimp only
    split
    · have stopped := accepted.abortPicking .lockdown
      exact (abortPicking_entry (s := Machine.acceptNote i n e.slot (noteArrived false s)) .lockdown _ picks) ▸ stopped
    · exact Books.pickOn accepted picks
  · have rejected := Books.rejectNote (n := (classify v (s.cassette e.slot).reference).estimate)
      (h.modPath fun p => { p with attempt := none, misses := 0, rejectDiverter := true }) picking needs
    dsimp only
    split
    · exact rejected.abortPicking _
    · exact rejected.beginAttempt

theorem pickTarget_leveling (state : s.path.state = .leveling) (target : s.pickTarget = some c) :
    s.path.holder = some (.leveling c) ∧ ∃ v, (s.cassette c).leveling = some v ∧ v.phase = .fetching := by
  unfold State.pickTarget at target
  split at target
  next h _ => simp [h] at state
  next c' _ holder =>
    split at target
    next v session =>
      split at target
      next fetching =>
        obtain rfl := Option.some.inj target
        exact ⟨holder, v, session, fetching⟩
      · cases target
    · cases target
  · cases target

theorem noteAtGauge (h : Books (.plain b) s) (v : Nat) : Books (.plain b) (Machine.noteAtGauge v s) := by
  unfold Machine.noteAtGauge
  split
  · exact h
  next a _ =>
    split
    next i o n picking at_ =>
      split
      next e entry => exact (h.gaugeOrder picking at_ entry a v).completeSessions
      · exact h
    · split
      next c state target => exact h.gaugeLeveling (pickTarget_leveling state target).1 a v
      · exact h

theorem missOrder (h : Books (.plain b) s) (picking : s.pickingOrder = some (i, o)) (needs : 0 < o.need c) :
    Books (.plain b) (Machine.missOrder c s) := by
  obtain ⟨-, state, -⟩ := h.picking_order picking
  obtain ⟨ready, -, -⟩ := h.picked picking needs
  unfold Machine.missOrder
  split
  · refine Books.shortCascade (h.attemptOver.lower ready rfl rfl (.inr ⟨rfl, Nat.sub_self _⟩) fun tallied => ?_) ?_
    · have balanced := (h.store.sound c).tally tallied (by rw [ready]; rfl)
      rw [Cassette.balanced_iff] at balanced ⊢
      simp only [Cassette.lower, Machine.attemptOver, State.modPath_cassette]
      omega
    · show s.sup.phase ≠ some .settle
      simp [h.path.awake state]
  · exact (h.attemptOver.modPath fun p => { p with misses := p.misses + 1 }).beginAttempt

/-- In FETCHING no reading is held. -/
theorem fetching_empty (h : Books g s) {v : Leveling} (holder : s.path.holder = some (.leveling c))
    (session : (s.cassette c).leveling = some v) (fetching : v.phase = .fetching) : s.path.heldReading = none := by
  cases held : s.path.heldReading with
  | none => rfl
  | some n =>
    obtain ⟨k, hk, holding⟩ := h.path.reading (by rw [held]; rfl)
    obtain rfl : k = c := by simpa using hk.symm.trans holder
    simp [session, fetching] at holding

theorem missLeveling (h : Books (.plain b) s) (state : s.path.state = .leveling) (target : s.pickTarget = some c) :
    Books (.plain b) (Machine.missLeveling c s) := by
  obtain ⟨holder, v, session, fetching⟩ := pickTarget_leveling state target
  have leveling := (h.path.levels c holder).2.2
  unfold Machine.missLeveling
  split
  · refine h.attemptOver.endSession (c := c) _ leveling rfl fun tallied => ?_
    have empty : (Machine.attemptOver s).holdsNote c = false := by
      simp [State.holdsNote, Machine.attemptOver, h.fetching_empty holder session fetching]
    have balanced := (h.store.sound c).tally tallied (by rw [leveling]; rfl)
    rw [empty]
    rw [Cassette.balanced_iff] at balanced
    simp only [Cassette.spent, Bool.false_eq_true, if_false]
    rw [Cassette.balanced_iff]
    simp only [Cassette.lower, Machine.attemptOver, State.modPath_cassette]
    omega
  · exact (h.attemptOver.modPath fun p => { p with misses := p.misses + 1 }).beginAttempt

theorem pickTarget_picking (state : s.path.state = .picking) (target : s.pickTarget = some c) :
    ∃ i o n e, s.pickingOrder = some (i, o) ∧ s.path.entry = some n ∧ o.mix[n]? = some e ∧ e.slot = c := by
  unfold State.pickTarget at target
  split at target
  next i _ holder =>
    split at target
    next o n order at_ =>
      obtain ⟨e, entry, slot⟩ := Option.map_eq_some_iff.mp target
      exact ⟨i, o, n, e, pickingOrder_of state holder order, at_, entry, slot⟩
    · cases target
  next h _ => simp [h] at state
  · cases target

theorem pickWindowExpiry (h : Books (.plain b) s) : Books (.plain b) (Machine.pickWindowExpiry s) := by
  unfold Machine.pickWindowExpiry
  split
  · exact h
  next a _ =>
    split
    next c state target =>
      refine Books.completeSessions ?_
      split
      · exact h.attemptOver.abortPicking _
      · obtain ⟨i, o, n, e, picking, at_, entry, rfl⟩ := pickTarget_picking state target
        have next := (h.picking_order picking).2.2.2.2.2
        exact h.missOrder picking (need_entry entry (Order.nextEntry_open (next.symm.trans at_) entry))
    next c state target =>
      split
      · obtain ⟨holder, -⟩ := pickTarget_leveling state target
        exact h.attemptOver.endLeveling (h.path.levels c holder).2.2
      · split
        · exact h.attemptOver.beginAttempt
        · exact h.missLeveling state target
    · exact h

end Books

end Sys2Proof.Machine
end

section
/-! Lockdown, the zones, the removal and the seating of a cassette keep the books. -/

namespace Sys2Proof.Machine
set_option Elab.async false

variable {g : Stage} {b : Bool} {s t : State} {i j k : OrderSlot} {o q : Order} {c : CassetteId} {l : LaneId} {z : ZoneId}

namespace Books

/-! ### Lockdown and the zones -/

theorem lockdownPicking (h : Books g s) : Books g (Machine.lockdownPicking s) := by
  unfold Machine.lockdownPicking
  split
  · exact h.modPath _
  · exact h.abortPicking _
  · exact h

theorem lockdownLane (h : Books g s) (l : LaneId) : Books g (Machine.lockdownLane l s) :=
  (h.dumpStaged l _).recallCause l _

theorem startLockdown (h : Books g s) : Books g (Machine.startLockdown s) :=
  ((((h.modAlarm fun a => { a with siren := true }).raise .alarm).lockdownPicking.closeShutters.forEach
    fun c _ h => h.lockdownLeveling c).forEach fun l _ h => h.lockdownLane l)

theorem respond (h : Books g s) (z : ZoneId) (stood : Bool) : Books g (Machine.respond z stood s) := by
  unfold Machine.respond
  split
  · split
    · exact h.modAlarm _
    · exact h.startLockdown
  · split
    · exact h.lockLane _ z
    · exact h
  · exact h.modAlarm _
  · exact h

theorem stopDelay (h : Books g s) (z : ZoneId) : Books g (Machine.stopDelay z s) := h.modAlarm _

theorem latch (h : Books g s) (z : ZoneId) : Books g (Machine.latch z s) := by
  have latched := (h.modZone z fun r => { r with state := .latched }).stopDelay z
  exact (Books.respond (latched.blind) z s.lockdown).raise .alarm

theorem activate (h : Books g s) (z : ZoneId) : Books g (Machine.activate z s) := by
  have tripped := h.modZone z fun r => { r with tripCount := bump r.tripCount }
  unfold Machine.activate
  dsimp only
  split
  · exact tripped.latch z
  · exact (tripped.modZone z _).modAlarm _

theorem activateIfOpen (h : Books g s) (z : ZoneId) : Books g (Machine.activateIfOpen z s) := by
  unfold Machine.activateIfOpen
  split
  · exact h.activate z
  · exact h

theorem leaveBypass (h : Books g s) (f : ZoneId → Zone → Zone) (z : ZoneId) : Books g (Machine.leaveBypass f z s) := by
  unfold Machine.leaveBypass
  split
  · exact (h.modZone z _).activateIfOpen z
  · exact h.modZone z _

theorem endService (h : Books g s) : Books g (Machine.endService s) :=
  ((h.modAlarm fun a => { a with service := false }).forEach fun z _ h => h.leaveBypass _ z).forEach
    fun z _ h => h.leaveBypass _ z

theorem enterServiceZone (h : Books g s) (z : ZoneId) : Books g (Machine.enterServiceZone z s) := by
  unfold Machine.enterServiceZone
  split
  · exact (h.modZone z _).stopDelay z
  · exact h

theorem reopenLeveling (h : Books g s) (before : State) : Books g (Machine.reopenLeveling before s) := by
  unfold Machine.reopenLeveling
  split
  · split
    · exact (h.modPath fun p => { p with attempt := p.attempt.map fun a => { a with noMiss := true } }).openShutter _
    · exact h
  · exact h

theorem enterService (h : Books g s) : Books g (Machine.enterService s) :=
  ((h.modAlarm fun a => { a with service := true }).forEach fun z _ h => h.enterServiceZone z).closeShutters.reopenLeveling s

theorem releaseResponse (h : Books g s) (z : ZoneId) : Books g (Machine.releaseResponse z s) := by
  unfold Machine.releaseResponse
  split
  · split
    · exact h
    · exact (h.modAlarm _).raise _
  · split
    · exact h.moveLock _ z
    · exact h
  · split
    · exact h
    · exact h.modAlarm _
  · exact h

theorem unlatch (h : Books g s) (z : ZoneId) : Books g (Machine.unlatch z s) := by
  have reset := h.modZone z fun r => { r with state := if s.bypassed z then .bypassed else .normal }
  exact Books.releaseResponse (s := { s.modZone z (fun r => { r with state := if s.bypassed z then .bypassed else .normal }) with
    custody := { (s.modZone z fun r => { r with state := if s.bypassed z then .bypassed else .normal }).custody with
      tripList := s.custody.tripList.filter (· != z) } }) reset.blind z

theorem disarmZone (h : Books g s) (v : Group) (z : ZoneId) : Books g (Machine.disarmZone v z s) := by
  unfold Machine.disarmZone
  split
  · split
    · exact (h.stopDelay z).modZone z _
    · exact h.modZone z _
  · exact h

theorem setArmed (h : Books g s) (v : Group) (on : Bool) : Books g (Machine.setArmed v on s) := by
  cases v with
  | day => exact h.blind
  | night => exact h.blind
  | always => exact h

theorem zoneReported (h : Books g s) (z : ZoneId) (level : ZoneInput) : Books g (Machine.zoneReported z level s) := by
  have reported := h.modZone z fun r => { r with input := level }
  unfold Machine.zoneReported
  dsimp only
  split
  · exact (reported.activateIfOpen z).completeSessions
  · exact reported

theorem delayExpiry (h : Books g s) (z : ZoneId) : Books g (Machine.delayExpiry z s) := by
  unfold Machine.delayExpiry
  split
  · exact (h.latch z).completeSessions
  · exact h

theorem keyReported (h : Books g s) (asserted : Bool) : Books g (Machine.keyReported asserted s) := by
  have reported := h.modAlarm fun a => { a with key := asserted }
  unfold Machine.keyReported
  dsimp only
  split
  · exact reported.endService.completeSessions
  · exact reported

/-! ### Seating and removal -/

/-- Nothing is reserved of a cassette that is not READY, unless it lacks notes. -/
theorem unreserved_of_state (h : Books g s) (plenty : g.short ≠ some c) (state : (s.cassette c).state ≠ .ready) :
    (s.cassette c).reserved = 0 := by
  by_contra some
  have bound := h.store.bound c plenty
  exact some (h.unreserved (by omega) state)

theorem seatCassette (h : Books g s) (plenty : g.short ≠ some c) : Books g (Machine.seatCassette c s) := by
  unfold Machine.seatCassette
  split
  next absent =>
    have shut := h.shutNow c
    have same : (Machine.shutNow c s).cassette c = (s.cassette c).closed := by rw [shutNow_cassette, if_pos rfl]
    have gone : ((Machine.shutNow c s).cassette c).state = .absent := by rw [same]; exact absent
    obtain ⟨queue, holder⟩ := shut.unclaimed (c := c) (by simp [gone])
    have session := (shut.store.sound c).session
    refine shut.restock (c := c) (f := fun r => { r with state := .uncounted, value := 0 })
      (shut.unreserved_of_state plenty (by simp [gone])) rfl ⟨?_, by simp, fun _ m => by simp [CassetteState.counted] at m⟩ queue holder
    rw [gone] at session
    simpa using session
  · exact h

theorem failGone (h : Books g s) (c : CassetteId) (i : OrderSlot) : Books g (Machine.failGone c i s) := by
  unfold Machine.failGone
  split
  next o order =>
    split
    next fails => exact h.stopOrder order fails.1 rfl _
    · exact h
  · exact h

theorem abortGone (h : Books g s) (c : CassetteId) : Books g (Machine.abortGone c s) := by
  unfold Machine.abortGone
  split
  · split
    · exact h.abortPicking _
    · exact h
  · exact h

theorem stopAttempt (h : Books g s) (c : CassetteId) : Books g (Machine.stopAttempt c s) := by
  unfold Machine.stopAttempt
  split
  · exact h.modPath _
  · exact h

end Books

/-- The order in slot i needs nothing of the cassette while it waits or picks. -/
def Needless (c : CassetteId) (s : State) (waits : OrderState → Prop) (i : OrderSlot) : Prop :=
  ∀ o, s.order i = some o → waits o.state → o.need c = 0

/-- The slot of an order that loses its notes is left with a failed order or with what it held. -/
theorem failGone_order (c : CassetteId) (s : State) (i k : OrderSlot) :
    (failGone c i s).order k = s.order k ∨ i = k ∧ ∃ o, (failGone c i s).order k = some o ∧ o.state = .failed := by
  unfold failGone
  split
  next o order =>
    split
    · by_cases same : i = k
      · subst same
        exact .inr ⟨rfl, _, stopOrder_order order .failed .cassetteGone, rfl⟩
      · exact .inl (stopOrder_order_other (Ne.symm same) _ _ s)
    · exact .inl rfl
  · exact .inl rfl

theorem Needless.failGone {waits : OrderState → Prop} (h : Needless c s waits k) (live : ¬ waits .failed) (i : OrderSlot) :
    Needless c (failGone c i s) waits k := by
  intro o order w
  rcases failGone_order c s i k with same | ⟨-, q, ends, failed⟩
  · exact h o (same ▸ order) w
  · obtain rfl : q = o := Option.some.inj (ends.symm.trans order)
    rw [failed] at w
    exact absurd w live

theorem needless_failGone (c : CassetteId) (s : State) (i : OrderSlot) :
    Needless c (failGone c i s) (fun v => v = .held ∨ v = .queued) i := by
  intro q ends waits
  unfold failGone at ends
  split at ends
  next o order =>
    split at ends
    next fails =>
      rw [stopOrder_order order] at ends
      obtain rfl := Option.some.inj ends
      simp at waits
    next stands =>
      obtain rfl : o = q := Option.some.inj (order.symm.trans ends)
      by_contra needs
      exact stands ⟨waits, Nat.pos_of_ne_zero needs⟩
  next free => rw [free] at ends; cases ends

namespace Books

/-- In recovery no order is left that picks; outside it, the picking order is the one that the transport picks for. -/
def PicksKnown (s : State) : Prop := ∀ i o, s.order i = some o → o.state = .picking → s.pickingOrder = some (i, o)

theorem picksKnown (h : Books g s) (course : g.course = .running ∧ s.sup.phase ≠ some .settle ∨ g.course = .settled) :
    PicksKnown s := by
  intro i o order picks
  rcases course with ⟨running, awake⟩ | settled
  · exact h.picks_alone running awake order picks
  · have idle := (h.placed order).allowed settled
    simp [picks, OrderState.reserves] at idle

/-- The picking order needs nothing more of a cassette that is gone. -/
theorem needless_abortGone (h : Books g s)
    (course : g.course = .running ∧ s.sup.phase ≠ some .settle ∨ g.course = .settled) (c : CassetteId) (i : OrderSlot) :
    Needless c (Machine.abortGone c s) (· = .picking) i := by
  intro o order picks
  have known := (h.abortGone c).picksKnown (by
    unfold Machine.abortGone
    split
    · split
      · rw [abortPicking_sup]; exact course
      · exact course
    · exact course) i o order picks
  unfold Machine.abortGone at known
  cases before : s.pickingOrder with
  | none => simp [before] at known
  | some jq =>
    obtain ⟨j, q⟩ := jq
    simp only [before] at known
    split at known
    · rw [abortPicking_done before] at known; cases known
    next stands =>
      obtain ⟨rfl, rfl⟩ : j = i ∧ q = o := by simpa [before] using known
      omega

end Books

theorem endLeveling_phase (c : CassetteId) (s : State) : (endLeveling c s).sup.phase = s.sup.phase := by
  rw [(endLeveling_same c s).phase]
  unfold giveUp
  split <;> rfl

/-- After a removal's first steps the cassette has no session, and start-up is where it was. -/
theorem endGone_stopped (c : CassetteId) (s : State) :
    ((endGone c (stopAttempt c s)).cassette c).leveling = none ∧ (endGone c (stopAttempt c s)).sup.phase = s.sup.phase := by
  have still : (stopAttempt c s).sup = s.sup := by
    unfold stopAttempt
    split <;> rfl
  unfold endGone
  split
  · rw [endLeveling_cassette, if_pos rfl, endLeveling_phase, still]
    exact ⟨rfl, rfl⟩
  next none => exact ⟨none, by rw [still]⟩

theorem ordersGone_unreserved (c : CassetteId) (s : State) (k : CassetteId) :
    ((forEach (failGone c) (abortGone c s)).cassette k).unreserved = (s.cassette k).unreserved :=
  forEach_keeps (fun t => (t.cassette k).unreserved = (s.cassette k).unreserved) _
    (fun i t h => (failGone_unreserved c i t k).trans h) _ (abortGone_unreserved c s k)

/-- The orders that need a removed cassette are dealt with: none that reserves needs it any longer. -/
theorem demand_of_needless (h : ∀ i, Needless c s (· = .picking) i ∧ Needless c s (fun v => v = .held ∨ v = .queued) i) :
    s.demand c = 0 := by
  refine demand_zero fun i => ?_
  obtain ⟨picking, waiting⟩ := h i
  cases order : s.order i with
  | none => rfl
  | some o =>
    cases state : o.state
    case held => simp [dueOf, state, OrderState.reserves, waiting o order (.inl state)]
    case queued => simp [dueOf, state, OrderState.reserves, waiting o order (.inr state)]
    case picking => simp [dueOf, state, OrderState.reserves, picking o order state]
    all_goals simp [dueOf, state, OrderState.reserves]

namespace Books

/-- The orders that need a removed cassette stop, and nothing is reserved of it any longer. -/
theorem ordersGone (h : Books g s) (course : g.course = .running ∧ s.sup.phase ≠ some .settle ∨ g.course = .settled)
    (c : CassetteId) : Books g (Machine.forEach (Machine.failGone c) (Machine.abortGone c s)) ∧
      (Machine.forEach (Machine.failGone c) (Machine.abortGone c s)).demand c = 0 := by
  unfold Machine.forEach
  obtain ⟨⟨books, picking⟩, waiting⟩ := foldl_settles (f := fun t i => Machine.failGone c i t)
    (P := fun t => Books g t ∧ ∀ i, Needless c t (· = .picking) i) (Q := fun i t => Needless c t (fun v => v = .held ∨ v = .queued) i)
    (fun i t p => ⟨p.1.failGone c i, fun k => (p.2 k).failGone (by simp) i⟩)
    (fun i t _ => needless_failGone c t i) (fun i k t _ q => q.failGone (by simp) i) (positions _) _
    ⟨h.abortGone c, h.needless_abortGone course c⟩
  exact ⟨books, demand_of_needless fun i => ⟨picking i, waiting i (.inl (by simp))⟩⟩

/-- A cassette without a session that nothing is reserved of is taken out. -/
theorem takeOut (h : Books g s) (idle : (s.cassette c).leveling = none) (gone : s.demand c = 0) :
    Books g ((Machine.shutNow c s).modCassette c fun r => { r with state := .absent }) := by
  have state : (s.cassette c).state ≠ .leveling := fun m => by
    have := (h.store.sound c).session.mp m
    simp [idle] at this
  have shut := h.shutNow c
  have self : (Machine.shutNow c s).cassette c = (s.cassette c).closed := by rw [shutNow_cassette, if_pos rfl]
  obtain ⟨queue, holder⟩ := shut.unclaimed (c := c) (by rw [self]; exact state)
  refine shut.restock (c := c) (f := fun r => { r with state := .absent }) ?_ rfl
    ⟨by rw [self]; simp [Cassette.closed, idle], by simp, fun _ m => by simp [CassetteState.counted] at m⟩ queue holder
  rw [self]
  exact (h.store.dues c).trans gone

theorem removeCassette (h : Books g s)
    (course : g.course = .running ∧ s.sup.phase ≠ some .settle ∨ g.course = .settled) (c : CassetteId) :
    Books g (Machine.removeCassette c s) := by
  obtain ⟨session, phase⟩ := endGone_stopped c s
  have ended := (h.stopAttempt c).endGone c
  obtain ⟨books, gone⟩ := ended.ordersGone (by rw [phase]; exact course) c
  refine books.takeOut ?_ gone
  rw [leveling_of_unreserved (ordersGone_unreserved c _ c)]
  exact session

theorem cassetteRemoved (h : Books g s) (running : g.course = .running) (awake : s.sup.phase ≠ some .settle) (c : CassetteId) :
    Books g (Machine.cassetteRemoved c s) := by
  unfold Machine.cassetteRemoved
  split
  · exact h
  · exact (h.removeCassette (.inl ⟨running, awake⟩) c).completeSessions.completeQuiet

end Books
end Sys2Proof.Machine
end

section
/-! The recovery event keeps the books: it stops the orders, then ends the sessions, and hands over to start-up. -/

namespace Sys2Proof.Machine
set_option Elab.async false

variable {g : Stage} {b : Bool} {s t : State} {i j k : OrderSlot} {o q : Order} {c : CassetteId} {l : LaneId} {z : ZoneId}

/-- In the recovery event, before each order has been stopped. -/
def Stage.settling (tallied : Bool) : Stage where
  course := .settling
  short := none
  tallied := tallied

/-- In the recovery event, once each order has been stopped. -/
def Stage.settled (tallied : Bool) : Stage where
  course := .settled
  short := none
  tallied := tallied

/-! ### The orders are stopped -/

namespace Books

/-- A PICKING order gives up its reservations and is to be purged. -/
theorem quit {f : Order → Order} (h : Books (.settling b) s) (order : s.order i = some o) (picks : o.state = .picking)
    (aborts : (f o).state = .aborting) : Books (.settling b) ((Machine.releaseReservations i s).modOrder i f) := by
  have p := h.placed order
  have holder (m : s.path.holder = some (.order i)) : False := by
    have holds : o.state = .aborting := p.holder m
    simp [picks] at holds
  have ends : ((Machine.releaseReservations i s).modOrder i f).order i = some (f o) := by simp [order]
  refine ⟨h.slots.of_spares (((Spares.refl _ s).releaseReservations i).modOrder f) (fun k e => ?_) (by simpa using h.slots.nodup), ?_, ?_⟩
  · cases e
    refine Placed.booked ⟨⟨fun _ => by rw [aborts]; rfl, fun _ => ?_⟩, fun m => (by cases m), fun m => ?_, fun m => ?_,
      fun l m => ?_, fun l m => ?_, fun _ => by rw [aborts]; rfl⟩ ends
    · simpa using p.live.mpr (by rw [picks]; rfl)
    · exact (holder (by simpa using m)).elim
    · rw [aborts] at m; cases m
    · have := (p.head l (by simpa using m)).2.1
      simp [picks] at this
    · have := (p.load l (by simpa using m)).2
      simp [picks] at this
  · refine h.store.release order (by rw [picks]; rfl) (fun k a => ?_) (dueOf_of_idle ends (by rw [aborts]; rfl)) fun c => ?_
    · simp [State.modOrder_order, Ne.symm a]
    · simp [releaseReservations_cassette order]
  · refine h.path.of_queue (list := s.path.queue) (by simp [NotePath.stand]) (fun c m => m) (by simp) fun c => ?_
    simp [releaseReservations_cassette order]

/-- An order that is to be purged holds the transport for the start-up purge. -/
theorem hold (h : Books (.settling b) s) (order : s.order i = some o) (aborts : o.state = .aborting)
    (head : ∀ l, (s.lane l).head ≠ some i) :
    Books (.settling b) (s.modPath fun p => { p with holder := some (.order i) }) := by
  have p := h.placed order
  refine ⟨h.slots.of_spares (n := some i) ((Spares.refl _ s).modPath (fun _ m => m) (fun k a m => ?_) fun k a picks m => ?_)
    (fun k e => ?_) h.slots.nodup, h.store.of_same (fun _ => rfl) fun _ => rfl, ?_⟩
  · exact absurd (congrArg some (Claim.order.inj (Option.some.inj m))) a
  · obtain ⟨q, order', p'⟩ := h.order_of_holder m
    have holds : q.state = .aborting := p'.holder m
    simp [order', holds] at picks
  · cases e
    exact Placed.booked ⟨p.live, p.queue, fun _ => aborts, fun m => (by rw [aborts] at m; cases m),
      fun l m => absurd m (head l), p.load, p.allowed⟩ order
  · refine ⟨h.path.claims, fun c m => (by simp at m), fun m => ?_, h.path.still, fun m => (by cases m), h.path.settle⟩
    obtain ⟨c, hc, -⟩ := h.path.reading m
    have := (h.path.levels c hc).1
    cases this

end Books

/-- The books as the orders are stopped one after the other: the order that holds the transport has notes to be purged. -/
structure Stopping (b : Bool) (s : State) : Prop where
  books : Books (.settling b) s
  notes : ∀ i o, s.path.holder = some (.order i) → s.order i = some o → o.acceptedTotal ≠ 0

/-- The order in slot i reserves nothing. -/
def Stopped (s : State) (i : OrderSlot) : Prop := ∀ o, s.order i = some o → o.state.reserves = false

namespace Stopping

/-- An order that does not hold the transport leaves it as it goes. -/
theorem leave (h : Stopping b s) (books : Books (.settling b) t) (apart : s.path.holder ≠ some (.order i))
    (holder : t.path.holder = s.path.holder) (others : ∀ k, k ≠ i → t.order k = s.order k) : Stopping b t where
  books := books
  notes k o m order := by
    rw [holder] at m
    have other : k ≠ i := by
      rintro rfl
      exact apart m
    exact h.notes k o m (others k other ▸ order)

/-- The order that has notes to be purged is made the holder. -/
theorem take {v : Reason} (h : Books (.settling b) t) (ends : t.order i = some { o with state := .aborting, reason := some v })
    (notes : o.acceptedTotal ≠ 0) (head : ∀ l, (t.lane l).head ≠ some i) :
    Stopping b (t.modPath fun p => { p with holder := some (.order i) }) where
  books := h.hold ends rfl head
  notes k q m order := by
    obtain rfl : k = i := (Claim.order.inj (Option.some.inj m)).symm
    obtain rfl : { o with state := .aborting, reason := some v } = q := Option.some.inj (ends.symm.trans order)
    exact notes

/-- An order on the transport ends, or is to be purged. -/
theorem abortPower (h : Stopping b s) (order : s.order i = some o) (state : o.state = .routing ∨ o.state = .aborting)
    (head : ∀ l, (s.lane l).head ≠ some i) : Stopping b (abortPower i o s) := by
  have p := h.books.placed order
  have load l (m : (s.lane l).load = some i) : False := by
    rcases state with e | e <;> simpa [e] using (p.load l m).2
  have idle : o.state.reserves = false := by rcases state with e | e <;> rw [e] <;> rfl
  unfold Machine.abortPower
  split
  next empty =>
    have alone : s.path.holder ≠ some (.order i) := fun m => h.notes i o m order empty
    exact h.leave (h.books.endOrder order (Order.endPurge_terminal _) idle alone head load) alone (by simp)
      fun k a => by rw [endOrder_order, if_neg (Ne.symm a)]
  next notes =>
    refine take (o := o) (v := .power) ?_ (by simp [order]) notes head
    by_cases aborts : o.state = .aborting
    · refine h.books.modOrder_at fun q order' => ?_
      obtain rfl : o = q := Option.some.inj (order.symm.trans order')
      simp [Order.place, aborts]
    · exact h.books.reseat order (by rcases state with e | e <;> rw [e] <;> rfl) rfl idle rfl rfl (fun m => aborts (p.holder m))
        (fun _ _ => .inr rfl) fun l m => (load l m).elim

theorem recoverOrder (h : Stopping b s) (i : OrderSlot) : Stopping b (recoverOrder i s) := by
  have others (k : OrderSlot) (a : k ≠ i) : (Machine.recoverOrder i s).order k = s.order k := recoverOrder_order_other a s
  cases order : s.order i with
  | none =>
    unfold Machine.recoverOrder
    simp only [order]
    exact h
  | some o =>
    have p := h.books.placed order
    have held (m : s.path.holder = some (.order i)) : o.state = .aborting := p.holder m
    have head l (m : (s.lane l).head = some i) : o.state = .staged ∨ o.state = .aborting := (p.head l m).2.1
    unfold Machine.recoverOrder at others ⊢
    simp only [order] at others ⊢
    cases state : o.state <;> simp only [state] at others held head ⊢
    case held | queued =>
      exact h.leave (h.books.stopOrder order (by simp [state]) rfl _) (fun m => by cases held m) (by simp [stopOrder_path]) others
    case picking =>
      have alone : s.path.holder ≠ some (.order i) := fun m => by cases held m
      have head l (m : (s.lane l).head = some i) : False := by simpa using head l m
      unfold Machine.abortPower at others ⊢
      by_cases none : o.acceptedTotal = 0
      · rw [if_pos none] at others ⊢
        exact h.leave (h.books.endReserving order (Order.endPurge_terminal _) (by rw [state]; rfl) alone head
          fun l m => by simpa [state] using (p.load l m).2) alone (by simp) others
      · rw [if_neg none]
        exact take (v := .power) (h.books.quit order state rfl) (by simp [order]) none fun l m => head l (by simpa using m)
    case routing => exact h.abortPower order (.inl state) fun l m => by simpa using head l m
    case aborting =>
      split
      · exact h
      next out =>
        refine h.abortPower order (.inr state) fun l m => out ?_
        simp only [State.inHead, tableAny, List.any_eq_true]
        exact ⟨l, by simp, by simpa [State.lane] using m⟩
    all_goals exact h

end Stopping

theorem sentBack_idle (o : Order) : o.sentBack.state.reserves = false := by
  unfold Order.sentBack
  split <;> rfl

theorem powerLost_idle (inHead : Bool) (o : Order) : (o.powerLost inHead).state.reserves = false := by
  unfold Order.powerLost
  split
  case h_1 | h_2 => rfl
  case h_3 | h_4 => exact sentBack_idle o
  case h_5 =>
    split
    next state _ => rw [state]; rfl
    · exact sentBack_idle o
  all_goals (rename_i state; rw [state]; rfl)

/-- Each order in turn is stopped. -/
theorem stopped_recoverOrder (s : State) (i : OrderSlot) : Stopped (recoverOrder i s) i := by
  intro q ends
  rw [recoverOrder_order_self] at ends
  obtain ⟨o, -, rfl⟩ := Option.map_eq_some_iff.mp ends
  exact powerLost_idle _ o

theorem Stopped.recoverOrder (h : Stopped s k) (i : OrderSlot) : Stopped (recoverOrder i s) k := by
  by_cases same : k = i
  · exact same ▸ stopped_recoverOrder s i
  · intro o order
    rw [recoverOrder_order_other same] at order
    exact h o order

namespace Books

/-! ### From stage to stage -/

/-- In phase SETTLE the transport has no holder, and the recovery event may begin. -/
theorem settling (h : Books (.plain b) s) (settle : s.sup.phase = some .settle) : Books (.settling b) s := by
  obtain ⟨holder, held⟩ := h.path.rest rfl settle
  refine ⟨⟨h.slots.nodup, fun i => ?_⟩, ⟨h.store.dues, h.store.ready, fun c _ => h.store.bound c (by simp [Stage.plain]), h.store.sound⟩,
    ⟨fun m => (by cases m), fun c m => by simp [holder] at m, h.path.reading, h.path.still, fun m => (by cases m), fun _ => settle⟩⟩
  have booked := h.slots.booked i
  unfold Booked at booked ⊢
  cases order : s.order i with
  | none =>
    simp only [order] at booked ⊢
    exact ⟨booked.live, fun m => (by cases m), booked.holder, booked.head, booked.load⟩
  | some o =>
    simp only [order] at booked ⊢
    exact ⟨booked.live, fun m => (by cases m), fun m => by simp [holder] at m, booked.picks, booked.head, booked.load,
      fun m => (by cases m)⟩

/-- Once every order has been stopped. -/
theorem settle (h : Books (.settling b) s) (stopped : ∀ i, Stopped s i) : Books (.settled b) s := by
  refine ⟨⟨h.slots.nodup, fun i => ?_⟩, ⟨h.store.dues, h.store.ready, h.store.bound, h.store.sound⟩,
    ⟨fun m => (by cases m), fun c m => ?_, h.path.reading, h.path.still, fun m => (by cases m), fun _ => h.path.settle (by simp [Stage.settling])⟩⟩
  · have booked := h.slots.booked i
    unfold Booked at booked ⊢
    cases order : s.order i with
    | none =>
      simp only [order] at booked ⊢
      exact ⟨booked.live, fun m => (by cases m), booked.holder, booked.head, booked.load⟩
    | some o =>
      simp only [order] at booked ⊢
      exact ⟨booked.live, fun m => (by cases m), booked.holder, booked.picks, booked.head, booked.load,
        fun _ => stopped i o order⟩
  · have := (h.path.levels c m).1
    cases this

theorem ordersRecovered (h : Books (.settling b) s) (holder : s.path.holder = none) :
    Books (.settled b) (Machine.forEach Machine.recoverOrder s) := by
  unfold Machine.forEach
  obtain ⟨stopping, stopped⟩ := foldl_settles (f := fun t i => Machine.recoverOrder i t) (P := Stopping b)
    (Q := fun i t => Stopped t i) (fun i _ p => p.recoverOrder i) (fun i t _ => stopped_recoverOrder t i)
    (fun i k _ _ q => q.recoverOrder i) (positions _) s ⟨h, fun i o m => by simp [holder] at m⟩
  exact stopping.books.settle fun i => stopped i (.inl (by simp))

/-! ### The sessions, the cassettes, the lanes and the zones -/

theorem recoverLeveling (h : Books (.settled b) s) (found : FieldLevels) (c : CassetteId) :
    Books (.settled b) (Machine.recoverLeveling found c s) := by
  cases session : (s.cassette c).leveling with
  | none =>
    unfold Machine.recoverLeveling
    simp only [session]
    exact h
  | some v =>
    have leveling := (h.store.sound c).session.mpr (by rw [session]; rfl)
    have sound := h.store.sound c
    have ended := h.restock (c := c) (f := fun r => (r.spent (found.gaugeNote && v.phase != .waiting)).returned)
      (h.unreserved_of_leveling leveling) (Cassette.spent_reserved _ _)
      (Cassette.returned_sound fun tallied => Cassette.spent_balanced _ (sound.note leveling)
        (sound.balanced (by rw [leveling]; rfl) tallied))
      (fun m => (by cases m)) fun m => (by cases (h.path.levels c m).1)
    refine ended.of_same ?_
    unfold Machine.recoverLeveling
    simp only [session]
    have note := NotePath.stand_eq (testNote_path c s)
    by_cases spends : found.gaugeNote = true ∧ v.phase ≠ .waiting
    · have flag : (found.gaugeNote && v.phase != .waiting) = true := by simpa using spends
      rw [if_pos spends, flag]
      exact ⟨fun i => by simp, by simp, fun k => by
        simp only [State.modCassette_cassette, testNote_cassette]
        split <;> rfl, fun l => by simp, by simp [NotePath.stand, note], by simp⟩
    · have flag : (found.gaugeNote && v.phase != .waiting) = false := by simpa using spends
      rw [if_neg spends, flag]
      exact SameBooks.refl _

theorem recoverCassette (h : Books (.settled b) s) (found : FieldLevels) (c : CassetteId) :
    Books (.settled b) (Machine.recoverCassette found c s) := by
  unfold Machine.recoverCassette
  refine Books.shutNow ?_ c
  split
  · exact h.seatCassette (by simp [Stage.settled])
  · split
    · exact h
    · exact h.removeCassette (.inr rfl) c

theorem recoverDrawer (h : Books g s) (found : FieldLevels) (l : LaneId) : Books g (Machine.recoverDrawer found l s) := by
  unfold Machine.recoverDrawer
  split
  · exact h.modWork l _
  · have home := (h.standDrawer l .closed).endRecall l
    dsimp only
    split
    · exact home.takeEnvelope l _
    · exact home
  · exact h.bringHome l

theorem recoverLane (h : Books g s) (found : FieldLevels) (l : LaneId) : Books g (Machine.recoverLane found l s) :=
  (((h.modLane l fun r => { r with session := .closed }).modWork l fun _ => LaneWork.fresh).recoverHead l).recoverDrawer found l

theorem recoverZones (h : Books g s) (found : FieldLevels) : Books g (Machine.recoverZones found s) :=
  ((((h.modAlarm fun a => { a with key := found.key }).forEach fun z _ h => h.modZone z _).forEach fun z t h => by
    unfold latchDelayed
    split
    · exact h.latch z
    · exact h).forEach fun z _ h => h.activateIfOpen z)

/-! ### The hand-over to start-up -/

theorem recoverTransport (h : Books (.settled b) s) (found : FieldLevels) :
    Books (.plain b) (Machine.recoverTransport found s) := by
  have holders c (m : s.path.holder = some (.leveling c)) : False := by cases (h.path.levels c m).1
  unfold Machine.recoverTransport
  refine ⟨⟨h.slots.nodup, fun i => ?_⟩, ⟨h.store.dues, h.store.ready, h.store.bound, h.store.sound⟩,
    ⟨fun _ c m => by simp at m, fun c m => (holders c m).elim, fun m => ?_, fun _ => by simp, fun _ m => by simp at m,
      fun m => absurd rfl m⟩⟩
  · have booked := h.slots.booked i
    unfold Booked at booked ⊢
    cases order : s.order i with
    | none =>
      simp only [State.modSup_order, State.modPath_order, State.modLevels_order, order] at booked ⊢
      exact ⟨booked.live, fun _ m => (by simp at m), booked.holder, booked.head, booked.load⟩
    | some o =>
      simp only [State.modSup_order, State.modPath_order, State.modLevels_order, order] at booked ⊢
      have idle := booked.allowed rfl
      refine ⟨booked.live, fun _ m => (by simp at m), fun m => ?_, fun m => ?_, booked.head, booked.load, fun m => (by cases m)⟩
      · have aborts : o.state = .aborting := booked.holder m
        exact ⟨congrArg some aborts.symm, fun picks => by simp [picks] at aborts⟩
      · rw [m] at idle
        cases idle
  · obtain ⟨c, hc, -⟩ := h.path.reading m
    exact (holders c hc).elim

theorem recover (h : Books (.plain b) s) (settle : s.sup.phase = some .settle) (found : FieldLevels) :
    Books (.plain b) (Machine.recover found s) := by
  have supervisor := (h.settling settle).modAlarm fun a => { a with service := false }
  have started := supervisor.modSup fun u => { u with rails := true }
  have orders := started.ordersRecovered (h.path.rest rfl settle).1
  have cassettes := (orders.forEach fun c _ h => h.recoverLeveling found c).forEach fun c _ h => h.recoverCassette found c
  have lanes := cassettes.forEach fun l _ h => h.recoverLane found l
  exact ((Books.modConveyor lanes _).recoverZones found).recoverTransport found

end Books

end Sys2Proof.Machine
end

section
/-! Start-up and its end keep the books, and so does every event. -/

namespace Sys2Proof.Machine
set_option Elab.async false

variable {g : Stage} {b : Bool} {s t : State} {i j k : OrderSlot} {o q : Order} {c : CassetteId} {l : LaneId} {z : ZoneId}

namespace Books

/-! ### Start-up -/

/-- A store without an order, a session and a reservation. -/
theorem of_empty (orders : ∀ i, s.order i = none) (placement : s.custody.placement = [])
    (cassettes : ∀ c, (s.cassette c).reserved = 0 ∧ (s.cassette c).leveling = none ∧ (s.cassette c).state.counted = false)
    (lanes : ∀ l, (s.lane l).head = none ∧ (s.lane l).load = none) (queue : s.path.queue = []) (holder : s.path.holder = none)
    (held : s.path.heldReading = none) (still : s.sup.phase.isSome = true → s.path.state ≠ .picking) : Books (.plain b) s := by
  have session c : (s.cassette c).state ≠ .leveling := fun m => by
    have := (cassettes c).2.2
    simp [m, CassetteState.counted] at this
  refine ⟨⟨by simp [placement], fun i => ?_⟩,
    ⟨fun c => ?_, fun c pos => absurd (cassettes c).1 (Nat.pos_iff_ne_zero.mp pos), fun c _ => (cassettes c).1 ▸ Nat.zero_le _,
      fun c => ⟨⟨fun m => absurd m (session c), fun m => by simp [(cassettes c).2.1] at m⟩, fun m => absurd m (session c),
        fun _ m => by simp [(cassettes c).2.2] at m⟩⟩,
    ⟨fun _ c m => by simp [queue] at m, fun c m => by simp [holder] at m, fun m => by simp [held] at m, still,
      fun _ _ => ⟨holder, held⟩, fun m => absurd rfl m⟩⟩
  · unfold Booked
    simp only [orders]
    exact ⟨by simp [placement], fun _ => by simp [queue], by simp [holder], fun l => by simp [(lanes l).1], fun l => by simp [(lanes l).2]⟩
  · rw [(cassettes c).1]
    exact (demand_zero fun i => by rw [orders]; rfl).symm

theorem sampleRetention (h : Books (.plain b) s) (settle : s.sup.phase = some .settle) (found : FieldLevels) :
    Books (.plain b) (Machine.sampleRetention found s) := by
  unfold Machine.sampleRetention
  split
  · exact h.blind
  · obtain ⟨holder, held⟩ := h.path.rest rfl settle
    refine Books.blind (s := loseRetention found s) ?_
    refine of_empty (fun i => ?_) (by simp [loseRetention, Custody.fresh]) (fun c => ?_) (fun l => ?_) (by simp [loseRetention])
      (by simpa [loseRetention] using holder) (by simpa [loseRetention] using held)
      (by simpa [loseRetention] using h.path.still)
    · simp [loseRetention, State.order, Custody.fresh, Vector.get]
    · have fresh : (loseRetention found s).cassette c = .fresh (found.seated.get c) := by
        simpa [loseRetention, State.cassette] using Custody.fresh_cassette found.seated c
      rw [fresh]
      cases found.seated.get c <;> exact ⟨rfl, rfl, rfl⟩
    · simp [loseRetention, State.lane, Custody.fresh, Vector.get, Lane.fresh]

/-- The reset line and power-on: no order is where the transport was, and the recovery event is to come. -/
theorem restart (h : Books (.plain b) s) : Books (.plain b) (Machine.restart s) := by
  refine ⟨⟨h.slots.nodup, fun i => ?_⟩, h.store.of_same (fun _ => rfl) fun _ => rfl,
    ⟨h.path.claims, fun c m => (by cases m), fun m => (by cases m), fun _ => by simp [Machine.restart, NotePath.fresh],
      fun _ _ => ⟨rfl, rfl⟩, fun m => absurd rfl m⟩⟩
  have booked := h.slots.booked i
  unfold Booked at booked ⊢
  change match s.order i with
    | some o => Placed (.plain b) (Machine.restart s) i o
    | none => Vacant (.plain b) (Machine.restart s) i
  cases order : s.order i with
  | none =>
    simp only [order] at booked ⊢
    exact ⟨booked.live, booked.queue, fun m => (by cases m), booked.head, booked.load⟩
  | some o =>
    simp only [order] at booked ⊢
    exact ⟨booked.live, booked.queue, fun m => (by cases m), fun _ => .inl rfl,
      fun l m => ⟨(booked.head l m).1, (booked.head l m).2.1, (booked.head l m).2.2.1, fun m => (by cases m)⟩, booked.load,
      fun m => (by cases m)⟩

/-- The transport starts afresh once nothing is picked for. -/
theorem fresh (h : Books g s) (apart : s.path.state ≠ .picking) (p : NotePath) (holder : p.holder = none)
    (held : p.heldReading = none) (state : p.state ≠ .picking) (queue : p.queue = []) : Books g (s.modPath fun _ => p) := by
  have released := h.releaseTransport apart
  refine ⟨released.slots.of_spares (n := none) ⟨fun _ _ => rfl, fun _ _ => .rfl, fun k _ m => ?_, fun k _ m => ?_, fun k _ _ m => ?_,
      fun _ _ _ m => m, fun _ _ _ m => m, rfl⟩ (fun k e => by cases e) h.slots.nodup,
    h.store.of_same (fun _ => rfl) fun _ => rfl, h.path.idle holder held state rfl fun _ c m => ?_⟩
  · simp [queue] at m
  · simp [holder] at m
  · simp [Machine.releaseTransport] at m
  · simp [queue] at m

/-- Start-up is over. -/
theorem awaken (h : Books (.plain b) s) (phase : s.sup.phase ≠ some .settle) {f : Supervisor → Supervisor}
    (none : (f s.sup).phase = none) : Books (.plain b) (s.modSup f) := by
  refine ⟨⟨h.slots.nodup, fun i => ?_⟩, h.store.of_same (fun _ => rfl) fun _ => rfl,
    ⟨h.path.claims, h.path.levels, h.path.reading, fun m => by simp [none] at m, fun _ m => by simp [none] at m,
      fun m => absurd rfl m⟩⟩
  have booked := h.slots.booked i
  unfold Booked at booked ⊢
  simp only [State.modSup_order]
  cases order : s.order i with
  | none =>
    simp only [order] at booked ⊢
    exact ⟨booked.live, booked.queue, booked.holder, booked.head, booked.load⟩
  | some o =>
    simp only [order] at booked ⊢
    exact ⟨booked.live, booked.queue, booked.holder, fun m => .inr ((booked.picks m).resolve_left phase), booked.head, booked.load,
      booked.allowed⟩

theorem startUpPurged (h : Books (.plain b) s) (apart : s.path.state ≠ .picking) :
    Books (.plain b) (startPath (endStartUpPurge s)) := by
  have started := h.fresh apart { NotePath.fresh with
    stackerNotes := s.levels.stacker, shutterTravel := s.path.shutterTravel, routeDiverter := s.path.routeDiverter,
    rejectDiverter := s.path.rejectDiverter } rfl rfl (by simp [NotePath.fresh]) rfl
  unfold endStartUpPurge
  split
  next i holder =>
    obtain ⟨o, order, p⟩ := h.order_of_holder holder
    obtain ⟨head, load, -, idle⟩ := h.carried holder order apart
    have ended := started.endOrder (i := i) (f := Order.endPurge) order (Order.endPurge_terminal o) idle
      (by simp [NotePath.fresh]) head load
    exact ended.evalPause
  · exact started.evalPause

theorem startUpEnd (h : Books (.plain b) s) : Books (.plain b) (Machine.startUpEnd s) := by
  unfold Machine.startUpEnd
  split
  next purge =>
    have path := h.startUpPurged (h.path.still (by rw [purge]; rfl))
    have lines : Books (.plain b) (startLines (startPath (endStartUpPurge s))) := path.modAlarm _
    have clearance : Books (.plain b) (startClearance (startLines (startPath (endStartUpPurge s)))) := by
      unfold startClearance
      split
      · exact lines.modConveyor _
      · exact lines
    have opened := clearance.awaken (f := fun u => { u with mode := .active, phase := none, phaseTimer := none })
      (by
        have same : (endStartUpPurge s).sup = s.sup := by
          unfold endStartUpPurge
          split <;> rfl
        simp [startLines, same, purge]) rfl
    exact (((((((opened.modPort _).raise _).raiseIf _ _).raiseIf _ _).raiseIf _ _).raiseIf _ _).raiseIf _ _)
  · exact h

/-! ### The other events -/

theorem holdExpiry (h : Books g s) (i : OrderSlot) : Books g (Machine.holdExpiry i s) := by
  unfold Machine.holdExpiry
  split
  next o order =>
    split
    next held => exact h.stopOrder order (.inl held) rfl _
    · exact h
  · exact h

theorem presentExpiry (h : Books g s) (i : OrderSlot) : Books g (Machine.presentExpiry i s) := by
  unfold Machine.presentExpiry
  split
  · split
    · exact h.recallDrawer _ _
    · exact h
  · exact h

theorem clearanceEnd (h : Books g s) : Books g (Machine.clearanceEnd s) := by
  unfold Machine.clearanceEnd
  split
  · exact (h.modConveyor _).modBins _
  · exact h

theorem railExpiry (h : Books g s) : Books g (Machine.railExpiry s) := by
  unfold Machine.railExpiry
  split
  · exact h.modSup _
  · exact h

theorem admission (h : Books g s) : Books g (Machine.admission s) := by
  unfold Machine.admission
  split
  next e _ =>
    split
    · refine Books.completeSessions ?_
      have admitted := (h.modEnvelope e.capture fun r => { r with state := .conveying }).modConveyor fun c => { c with
        list := c.list ++ [e.capture]
        transit := if c.list.isEmpty then some transitLimit else c.transit
        spacing := some admissionSpacing
        gatesDriven := [e.lane] }
      unfold admitEnvelope
      dsimp only
      split
      · exact admitted.dropEnvelope _
      · exact admitted
    · exact h
  · exact h

theorem unexpectedArrival (h : Books g s) : Books g (Machine.unexpectedArrival s) := (h.modBins _).raise _

theorem binArrival (h : Books g s) : Books g (Machine.binArrival s) := by
  unfold Machine.binArrival
  split
  · split
    · exact (h.modEnvelope _ _).modConveyor _
    · split
      · exact h
      · exact h.unexpectedArrival
  · split
    · exact h
    · exact h.unexpectedArrival

theorem transitExpiry (h : Books g s) : Books g (Machine.transitExpiry s) := by
  unfold Machine.transitExpiry
  split
  · split
    · exact (h.modEnvelope _ _).modConveyor _
    · exact h
  · exact h

end Books

/-- What an event leaves keeps the books, if its own effect does. -/
theorem event_books {c : Instr} {f : State → State} (hc : exec c s = event f s)
    (keeps : s.sup.phase ≠ some .settle → Books g (f s)) (h : Books g s) : Yields c s (Books g) := by
  unfold event at hc
  split at hc
  · exact yields_of hc h
  next awake => exact yields_of hc (keeps awake).finish

theorem fieldEvent_books {c : Instr} {level : FieldLevels → FieldLevels} {f : State → State}
    (hc : exec c s = fieldEvent level f s) (keeps : s.sup.phase ≠ some .settle → Books g (f (s.modLevels level)))
    (h : Books g s) : Yields c s (Books g) := by
  unfold fieldEvent at hc
  split at hc
  · exact yields_of hc (h.modLevels _)
  next awake => exact yields_of hc (keeps awake).finish

/-- The link law names the mode in which a grant may be made as one outside start-up. -/
theorem LinkLaw.awake (link : LinkLaw s) (active : s.sup.mode = .active) : s.sup.phase = none := by
  cases phase : s.sup.phase with
  | none => rfl
  | some v =>
    have := link.1.mpr (by rw [phase]; rfl)
    rw [active] at this
    cases this

theorem Books.syncAttention (h : Books g s) : Books g s.syncAttention := h.modPort _

theorem Books.linkFault (h : Books g s) (flag : BitVec 3) : Books g (State.linkFault flag s) :=
  ((h.modPort fun p => { p with linkStatus := p.linkStatus ||| flag }).raise .link).syncAttention

/-- Every command that comes in no frame keeps the books. -/
theorem frameless_books {c : Instr} (link : LinkLaw s) (h : Books (.plain b) s) (frameless : encodeFrame c = none) :
    Yields c s (Books (.plain b)) := by
  have level f : Books (.plain b) (s.modLevels f) := h.modLevels f
  cases c with
  | overrun =>
    by_cases hushed : s.hushed = true
    · exact yields_of (if_pos hushed) (h.modPort _)
    · by_cases busy : s.overruns = true
      · exact yields_of ((if_neg hushed).trans (if_pos busy)) ((h.modPort _).linkFault _)
      · exact yields_of ((if_neg hushed).trans (if_neg busy)) h
  | resultWritten =>
    refine yields_of rfl ?_
    unfold State.written
    split
    · exact h.modPort _
    · exact h
  | powerOn => exact h.restart
  | resetLine => exact h.restart
  | settleExpiry found =>
    by_cases phase : s.sup.phase = some .settle
    · refine yields_of (if_pos phase) ((h.sampleRetention phase found).recover ?_ found).finish
      rw [sampleRetention_sup]
      exact phase
    · exact yields_of (if_neg phase) h
  | linkSettleExpiry =>
    refine yields_of rfl ?_
    split
    · exact (h.modPort fun p => { p with
        settle := none, notices := p.notices ||| p.heldNotices ||| Notice.restart.bit, heldNotices := 0#10 }).syncAttention
    · exact h
  | selectAssertion => exact (h.modPort _).modPort _
  | noteReachesGauge v =>
    by_cases phase : s.sup.phase = some .settle
    · have settle : exec (.noteReachesGauge v) s = .next (s.modLevels fun v => { v with gaugeNote := true }) := if_pos phase
      exact yields_of settle (level _)
    · exact event_books (if_neg phase) (fun _ => h.noteAtGauge _) h
  | startUpEnd => exact event_books rfl (fun _ => h.startUpEnd) h
  | clearanceEnd => exact event_books rfl (fun _ => h.clearanceEnd) h
  | railSettleExpiry => exact event_books rfl (fun _ => h.railExpiry) h
  | quietDwellExpiry => exact event_books rfl (fun _ => h.modSup _) h
  | shutterTravelEnd k => exact event_books rfl (fun _ => h.shutterTravelEnd k) h
  | shutterIdleExpiry => exact event_books rfl (fun _ => h.shutterIdleExpiry) h
  | levelingIdleExpiry => exact event_books rfl (fun _ => h.levelingExpiry) h
  | cassetteRemoved k => exact fieldEvent_books rfl (fun awake => (level _).cassetteRemoved rfl awake k) h
  | cassetteSeated k => exact fieldEvent_books rfl (fun _ => (level _).seatCassette (by simp [Stage.plain])) h
  | grant => exact event_books rfl (fun _ => h.grant rfl link.awake) h
  | pickWindowExpiry => exact event_books rfl (fun _ => h.pickWindowExpiry) h
  | stackerCountReport n => exact fieldEvent_books rfl (fun _ => (level _).modPath _) h
  | headArrival l => exact event_books rfl (fun _ => h.headArrival l) h
  | routeLimitExpiry => exact event_books rfl (fun _ => h.routeExpiry) h
  | purgeRunExpiry => exact event_books rfl (fun _ => h.purgeExpiry) h
  | retractEdge e => exact event_books rfl (fun _ => h.retractEdge e) h
  | holdDeadlineExpiry i => exact event_books rfl (fun _ => h.holdExpiry i) h
  | outerLimit l r => exact fieldEvent_books rfl (fun _ => (level _).outerLimit l r) h
  | innerLimit l e => exact fieldEvent_books rfl (fun _ => (level _).innerLimit l e) h
  | bundleSensorClears l => exact event_books rfl (fun _ => h.bundleClears l) h
  | presentDeadlineExpiry i => exact event_books rfl (fun _ => h.presentExpiry i) h
  | dumpRunExpiry l => exact event_books rfl (fun _ => h.dumpExpiry l) h
  | drawerTravelLimitExpiry l => exact event_books rfl (fun _ => h.travelExpiry l) h
  | admission => exact event_books rfl (fun _ => h.admission) h
  | admissionSpacingExpiry => exact event_books rfl (fun _ => h.modConveyor _) h
  | binArrival => exact event_books rfl (fun _ => h.binArrival) h
  | transitTimerExpiry => exact event_books rfl (fun _ => h.transitExpiry) h
  | zoneInputReport z v => exact fieldEvent_books rfl (fun _ => (level _).zoneReported z v) h
  | entryDelayExpiry z => exact event_books rfl (fun _ => h.delayExpiry z) h
  | keyLineReport v => exact fieldEvent_books rfl (fun _ => (level _).keyReported v) h
  | _ => cases frameless

end Sys2Proof.Machine
end

section
/-! Every command keeps the books, and so does every step. -/

namespace Sys2Proof.Machine
set_option Elab.async false

variable {g : Stage} {b : Bool} {s t u : State} {i j k : OrderSlot} {o q : Order} {c : CassetteId} {l : LaneId} {z : ZoneId}

/-! ### What a command leaves -/

/-- A command that is carried out leaves the books as they must be. -/
def Reply.Booked (b : Bool) : Reply → Prop
  | .done t _ _ _ | .silent t => Books (.plain b) t
  | .refuse _ _ _ => True

theorem checked_booked {checks : List (Bool × ResultCode)} {x : Option RecordRef} {go : Reply}
    (h : (∀ p ∈ checks, p.1 = false) → go.Booked b) : (checked checks x go).Booked b := by
  unfold checked
  split
  · trivial
  next none => exact h (firstRefusal_none.mp none)

theorem param_booked {α : Type} {p : Option α} {go : α → Reply} (h : ∀ a, (go a).Booked b) : (param p go).Booked b := by
  unfold param
  split
  · exact h _
  · trivial

theorem byHandle_booked {v : Nat} {more : List (Bool × ResultCode)} {go : OrderSlot → Order → Reply}
    (h : ∀ i o, u.order i = some o → (go i o).Booked b) : (byHandle u v more go).Booked b := by
  refine param_booked fun i => checked_booked fun _ => ?_
  split
  · trivial
  next o found =>
    refine h i o ?_
    unfold State.resolve at found
    split at found
    · cases found
    next o' order =>
      split at found
      · rw [order, Except.ok.inj found]
      · cases found

theorem byCapture_booked {n : Nat} {more : List (Bool × ResultCode)} {go : Envelope → Reply}
    (h : ∀ e, (go e).Booked b) : (byCapture u n more go).Booked b := by
  refine checked_booked fun _ => ?_
  split
  · trivial
  · exact h _

/-! ### The cassette commands -/

theorem cassetteLoad_booked (ps : List Byte) (h : Books (.plain b) u) : (cassetteLoad ps u).Booked b := by
  refine checked_booked fun _ => param_booked fun c => checked_booked fun _ => checked_booked fun fits => ?_
  obtain ⟨⟨-, leveling⟩, unreserved⟩ : ((u.cassette c).state ≠ .absent ∧ (u.cassette c).state ≠ .leveling) ∧
      (u.cassette c).reserved = 0 := by simpa using fits
  obtain ⟨queue, holder⟩ := h.unclaimed leveling
  have session := (h.store.sound c).session
  refine h.restock unreserved rfl ⟨⟨fun m => ?_, fun m => absurd (session.mpr m) leveling⟩, fun m => ?_, fun _ _ => ?_⟩ queue holder
  · simp only [Cassette.load] at m
    split at m
    · cases m
    · split at m <;> cases m
  · simp only [Cassette.load] at m
    split at m
    · cases m
    · split at m <;> cases m
  · simp [Cassette.balanced_iff, Cassette.load]

theorem levelStart_booked (ps : List Byte) (h : Books (.plain b) u) : (levelStart ps u).Booked b := by
  refine checked_booked fun _ => param_booked fun c => checked_booked fun fits => ?_
  obtain ⟨-, ⟨state, unreserved⟩, note⟩ : u.lockdown = false ∧ (((u.cassette c).state ≠ .unleveled → (u.cassette c).state = .ready) ∧
      (u.cassette c).reserved = 0) ∧ (u.cassette c).current ≠ 0 := by simpa using fits
  exact h.startLeveling rfl (or_iff_not_imp_left.mpr state) unreserved (Nat.pos_of_ne_zero note)

theorem session_some {v : Leveling} (session : (s.cassette c).session = some v) :
    (s.cassette c).state = .leveling ∧ (s.cassette c).leveling = some v := by
  unfold Cassette.session at session
  split at session
  next state => exact ⟨state, session⟩
  · cases session

theorem levelTrial_booked (ps : List Byte) (h : Books (.plain b) u) : (levelTrial ps u).Booked b := by
  refine checked_booked fun _ => param_booked fun c => checked_booked fun _ => ?_
  split
  next v n session held =>
    split
    next holding => exact (h.tried (session_some session).2 holding _ _).modPath _
    · trivial
  · trivial

theorem levelEnd_booked (ps : List Byte) (h : Books (.plain b) u) : (levelEnd ps u).Booked b := by
  refine checked_booked fun _ => param_booked fun c => checked_booked fun _ => ?_
  split
  · trivial
  next v session =>
    refine checked_booked fun _ => (h.commitReference c _).endLeveling (c := c) ?_
    have leveling := (session_some session).1
    unfold commitReference
    split
    · exact leveling
    · simpa using leveling

/-! ### The order commands -/

theorem orderPlace_booked (ps : List Byte) (h : Books (.plain b) u) : (orderPlace ps u).Booked b := by
  refine checked_booked fun _ => param_booked fun l => param_booked fun hold => checked_booked fun _ => checked_booked fun _ => ?_
  split
  · trivial
  next i free =>
    split
    · trivial
    next mix found =>
      refine checked_booked fun _ => ?_
      have need c : (newOrder u l (word2 ps 1) hold (capsAt ps (byteAt ps 4) 5) mix).need c = takenOf mix c :=
        need_orderAsked (ps := ps) c (mixAsked_fresh found)
      refine h.makeOrder rfl (by simpa using List.find?_some free) ?_ (fun c => ?_) fun c => ?_
      · cases hold
        · exact .inr rfl
        · exact .inl rfl
      · rw [need]; exact (findMix_available found c).1
      · rw [need]; exact (findMix_available found c).2

theorem orderRelease_booked (ps : List Byte) (h : Books (.plain b) u) : (orderRelease ps u).Booked b := by
  refine checked_booked fun _ => byHandle_booked fun i o order => ?_
  split
  next held => exact checked_booked fun _ => h.releaseOrder rfl order held
  · trivial
  · trivial

theorem orderCancel_booked (ps : List Byte) (h : Books (.plain b) u) : (orderCancel ps u).Booked b := by
  refine byHandle_booked fun i o order => ?_
  split
  next held => exact h.stopOrder order (.inl held) rfl _
  next queued => exact h.stopOrder order (.inr queued) rfl _
  · trivial
  · trivial

theorem orderRetire_booked (ps : List Byte) (h : Books (.plain b) u) : (orderRetire ps u).Booked b := by
  refine byHandle_booked fun i o order => ?_
  split
  next ended => exact h.retireOrder order ended
  · trivial

theorem orderResolve_booked (ps : List Byte) (h : Books (.plain b) u) : (orderResolve ps u).Booked b :=
  checked_booked fun _ => param_booked fun d => byHandle_booked fun i _ _ => checked_booked fun _ =>
    h.modOrder i _ fun o => by cases d <;> rfl

/-! ### The other commands -/

theorem configSet_booked (ps : List Byte) (h : Books (.plain b) u) : (configSet ps u).Booked b := by
  refine param_booked fun i => checked_booked fun _ => ?_
  have written (v : Nat) : Books (.plain b) { u with custody := { u.custody with settings := u.custody.settings.write i v } } := h.blind
  show Books _ (writeItem i _ u)
  unfold writeItem
  dsimp only
  split
  · exact (written _).evalPause
  · exact written _

theorem quietEnter_booked (ps : List Byte) (h : Books (.plain b) u) : (quietEnter ps u).Booked b := by
  unfold quietEnter
  split
  · exact h
  · exact h
  · trivial
  all_goals exact checked_booked fun _ => ((h.modSup fun v => { v with mode := .enteringQuiet }).modPath _).closeShutters.completeQuiet

theorem quietExit_booked (ps : List Byte) (h : Books (.plain b) u) : (quietExit ps u).Booked b := by
  unfold quietExit
  split
  · exact h
  · exact h
  · exact h
  · trivial
  · exact checked_booked fun _ => h.modSup _

theorem drawerSend_booked (ps : List Byte) (h : Books (.plain b) u) : (drawerSend ps u).Booked b := by
  refine checked_booked fun _ => param_booked fun l => param_booked fun m => checked_booked fun fits => h.sendDrawer fun bundle => ?_
  simpa [bundle] using fits (m.bundle && !u.stagedIn l, .wrongState) (by simp)

theorem laneClear_booked (ps : List Byte) (h : Books (.plain b) u) : (laneClear ps u).Booked b := by
  refine checked_booked fun _ => param_booked fun l => ?_
  split
  next n _ _ =>
    show Books _ (clearLane l n u)
    unfold clearLane
    refine Books.modWork (Books.modLane ?_ l _) l _
    cases n with
    | inner => exact h.standDrawer l .closed
    | outer => exact h.driveDrawer l .retracting
  · trivial

theorem transportClear_booked (ps : List Byte) (h : Books (.plain b) u) : (transportClear ps u).Booked b := by
  refine checked_booked fun fits => ?_
  have jammed : u.path.state = .jammed := by simpa using fits (u.path.state != .jammed, .wrongState) (by simp)
  have quiet : u.path.heldReading = none := by
    cases held : u.path.heldReading with
    | none => rfl
    | some v =>
      obtain ⟨c, hc, -⟩ := h.path.reading (by rw [held]; rfl)
      have := (h.path.levels c hc).2.1
      rw [jammed] at this
      cases this
  have cleared := h.letGo (f := fun p => { p with state := .free, holder := none, jam := none }) (by simp [jammed]) rfl quiet
    (by simp) rfl
  exact cleared.modPath fun p => { p with stackerNotes := u.levels.stacker }

theorem arm_booked (ps : List Byte) (h : Books (.plain b) u) : (armCommand ps u).Booked b := by
  refine param_booked fun g => ?_
  split
  · trivial
  · exact h.setArmed g true

theorem alarmReset_booked (ps : List Byte) (h : Books (.plain b) u) : (alarmReset ps u).Booked b :=
  param_booked fun z => checked_booked fun _ => checked_booked fun _ => checked_booked fun _ => h.unlatch z

theorem serviceExit_booked (ps : List Byte) (h : Books (.plain b) u) : (serviceExit ps u).Booked b := by
  refine checked_booked fun _ => ?_
  split
  · trivial
  · exact h.endService.completeSessions

/-- Every frame carries NOOP, the unknown command, or a command of a station whose body keeps the books. -/
theorem exec_booked {c : Instr} {code : Byte} {ps : List Byte} (framed : encodeFrame c = some (code :: ps)) :
    c = .noop ps ∨ c = .unknownCommand code ps ∨ ∃ required body,
      (∀ s, exec c s = station code required body ps s) ∧ ∀ b ps u, Books (.plain b) u → (body ps u).Booked b := by
  cases c <;> simp only [encodeFrame, Option.some.injEq, List.cons.injEq, reduceCtorEq] at framed <;>
    obtain ⟨rfl, rfl⟩ := framed
  case noop => exact .inl rfl
  case unknownCommand => exact .inr (.inl rfl)
  all_goals refine .inr (.inr ⟨_, _, fun s => rfl, fun b ps u h => ?_⟩)
  case linkStatusClear => exact checked_booked fun _ => h.modPort _
  case noticeClear => exact checked_booked fun _ => h.modPort _
  case configSet => exact configSet_booked ps h
  case linkReset => exact checked_booked fun _ => h.blind
  case quietEnter => exact quietEnter_booked ps h
  case quietExit => exact quietExit_booked ps h
  case cassetteRead => exact param_booked fun c => h.modCassette c fun r => { r with mark := false }
  case cassetteLoad => exact cassetteLoad_booked ps h
  case cassetteSet => exact param_booked fun c => h.modCassette c _
  case levelStart => exact levelStart_booked ps h
  case levelTrial => exact levelTrial_booked ps h
  case levelEnd => exact levelEnd_booked ps h
  case orderPlace => exact orderPlace_booked ps h
  case orderRelease => exact orderRelease_booked ps h
  case orderCancel => exact orderCancel_booked ps h
  case orderRead => exact byHandle_booked fun i _ _ => h.modOrder i fun o => { o with mark := false }
  case orderRetire => exact orderRetire_booked ps h
  case orderResolve => exact orderResolve_booked ps h
  case envelopeRead => exact byCapture_booked fun e => h.modEnvelope _ _
  case envelopeAnnotate => exact byCapture_booked fun e => h.modEnvelope _ _
  case envelopeRetire => exact checked_booked fun _ => byCapture_booked fun e => checked_booked fun _ => h.blind
  case binClear => exact checked_booked fun _ => h.blind
  case conveyorRestart => exact checked_booked fun _ => h.modConveyor _
  case sessionOpen =>
    exact checked_booked fun _ => param_booked fun l => checked_booked fun _ => h.modLane l fun r => { r with session := .opened }
  case sessionClose =>
    exact checked_booked fun _ => param_booked fun l => checked_booked fun _ => (h.closeSession l .sessionClosed).completeSessions
  case drawerSend => exact drawerSend_booked ps h
  case drawerRecall => exact checked_booked fun _ => param_booked fun l => checked_booked fun _ => h.recallCause l .drawerRecall
  case laneRead => exact param_booked fun l => h.modLane l fun r => { r with mark := false }
  case laneClear => exact laneClear_booked ps h
  case transportClear => exact transportClear_booked ps h
  case binsEmptied => exact checked_booked fun _ => (h.modBins _).evalPause
  case zoneRead => exact param_booked fun z => h.modZone z _
  case zoneSet =>
    exact checked_booked fun _ => param_booked fun z => param_booked fun g => param_booked fun r =>
      param_booked fun l => checked_booked fun _ => checked_booked fun _ => h.modZone z _
  case arm => exact arm_booked ps h
  case disarm => exact param_booked fun g => (h.setArmed g false).forEach fun z _ h => h.disarmZone g z
  case bypass => exact checked_booked fun _ => param_booked fun z => checked_booked fun _ => h.modZone z _
  case alarmReset => exact alarmReset_booked ps h
  case alarmSilence => exact h.modAlarm _
  case serviceEnter => exact checked_booked fun _ => h.enterService
  case serviceExit => exact serviceExit_booked ps h
  case watchSet =>
    exact param_booked fun i => param_booked fun e => param_booked fun k => param_booked fun n => param_booked fun t =>
      param_booked fun x => checked_booked fun _ => checked_booked fun _ => h.modWatch _
  case watchClear => exact checked_booked fun _ => h.modWatch _
  case refusalRead => exact h.modWatch _
  all_goals exact h

theorem Books.answer (h : Books (.plain b) s) (code : Byte) (ps : List Byte) {r : Reply} (booked : r.Booked b) :
    Books (.plain b) (s.answer code ps r) := by
  cases r with
  | done v c p x =>
    unfold State.answer State.answering
    exact (Books.finish booked).modPort _
  | silent v => exact Books.finish booked
  | refuse c p x =>
    unfold State.answer State.answering State.noteRefusal
    exact ((h.raiseIf _ _).finish.modWatch _).modPort _

/-- The state in which a frame is taken. -/
theorem Books.taken (h : Books g s) : Books g s.released.written := by
  unfold State.written
  split
  · exact (h.modPort _).modPort _
  · exact h.modPort _

theorem station_books {c : Instr} {code : Byte} {required : List Byte → Nat} {body : List Byte → State → Reply} {ps : List Byte}
    (hc : exec c s = station code required body ps s) (booked : ∀ b ps u, Books (.plain b) u → (body ps u).Booked b)
    (h : Books (.plain b) s) : Yields c s (Books (.plain b)) := by
  have taken := h.taken
  unfold station at hc
  split at hc
  · exact yields_of hc (h.modPort _)
  · split at hc
    · exact yields_of hc (Books.linkFault (h.modPort _) _)
    · simp only [] at hc
      split at hc
      · exact yields_of hc (((taken.modWatch _).linkFault _).modPort _)
      · refine yields_of hc ?_
        exact taken.answer code (ps.take 63) (booked b (ps.take 63) s.released.written taken)

theorem unknownCommand_books (code : Byte) (ps : List Byte) (h : Books (.plain b) s) :
    Yields (.unknownCommand code ps) s (Books (.plain b)) := by
  have taken := h.taken
  by_cases listed : listedCode code = true
  · exact yields_of (if_pos listed) h
  by_cases hushed : s.hushed = true
  · exact yields_of ((if_neg listed).trans (if_pos hushed)) (h.modPort _)
  by_cases busy : s.sawBusy = true
  · exact yields_of ((if_neg listed).trans ((if_neg hushed).trans (if_pos busy))) (Books.linkFault (h.modPort _) _)
  · exact yields_of ((if_neg listed).trans ((if_neg hushed).trans (if_neg busy)))
      (((taken.modWatch _).linkFault _).modPort _)

/-- Every command keeps the books. -/
theorem exec_books (c : Instr) (link : LinkLaw s) (h : Books (.plain b) s) : Yields c s (Books (.plain b)) := by
  cases framed : encodeFrame c with
  | none => exact frameless_books link h framed
  | some frame =>
    cases frame with
    | nil => cases c <;> cases framed
    | cons code ps =>
      rcases exec_booked framed with rfl | rfl | ⟨required, body, hc, booked⟩
      · exact yields_of rfl (h.modPort _)
      · exact unknownCommand_books code ps h
      · exact station_books (hc s) booked h

theorem Books.tick (h : Books g s) : Books g (tick s) :=
  h.of_same ⟨fun _ => rfl, rfl, fun _ => rfl, fun _ => rfl, rfl, rfl⟩

theorem step_books (link : LinkLaw s) (h : Books (.plain b) s) (next : step s = .next t) : Books (.plain b) t := by
  unfold step at next
  split at next
  next c rest _ => exact (exec_books c (s := { s with pending := rest }) link h.blind).next next
  · unfold idle at next
    split at next
    next c _ => exact (exec_books c link h).next next
    · cases next
      exact h.tick

/-- Settles O22: every step keeps the books, which hold the second law and where the sessions and the orders stand. -/
theorem stepsKeepTheSecondLaw : Obligations.StepsKeepTheSecondLaw := by
  intro s t link second session place next
  have books := step_books link (books_of_laws (b := false) second session place fun m => (by cases m)) next
  exact ⟨books.secondLaw, books.sessionLaw, books.placeLaw⟩

/-- Settles O57: every step keeps the books with the tallies of the cassettes, which hold the first law. -/
theorem stepsKeepTheFirstLaw : Obligations.StepsKeepTheFirstLaw := by
  intro s t first second session place link next
  exact (step_books link (books_of_laws second session place fun _ => first) next).firstLaw

end Sys2Proof.Machine
end

section
/-! The commands that load and set a cassette, and the course of a leveling session. -/

namespace Sys2Proof.Machine
set_option Elab.async false

variable {s : State} {ps : List Byte} {c : CassetteId} {v : Leveling}

/-! ### CASSETTE LOAD and CASSETTE SET -/

theorem within_of {low high n : Nat} (above : low ≤ n) (below : n ≤ high) : within low high n = true := by
  simp [within, above, below]

theorem within_false {low high n : Nat} (outside : n < low ∨ high < n) : within low high n = false := by
  simp only [within, Bool.and_eq_false_iff, decide_eq_false_iff_not]
  omega

/-- A clamp from 0 is a minimum. -/
theorem clamp_zero (high n : Nat) : clamp 0 high n = min n high := by
  unfold clamp
  split <;> (try split) <;> omega

/-- CASSETTE LOAD in service mode, with its figures in range. -/
theorem cassetteLoad_reply (slot : cassetteOf (byteAt ps 0) = some c) (service : s.alarm.service = true)
    (value : 1 ≤ word2 ps 1 ∧ word2 ps 1 ≤ 1000) (count : word2 ps 3 ≤ 2500) :
    cassetteLoad ps s =
      if (s.cassette c).state = .absent ∨ (s.cassette c).state = .leveling ∨ 0 < (s.cassette c).reserved
      then .refuse .wrongState .empty (some (.cassette c))
      else .done (s.modCassette c (Cassette.load (word2 ps 1) (word2 ps 3))) .ok .empty (some (.cassette c)) := by
  have inRange : firstRefusal [(!within 1 1000 (word2 ps 1) || !within 0 2500 (word2 ps 3), .badParam)] = none := by
    simp [firstRefusal, within_of value.1 value.2, within_of (Nat.zero_le _) count]
  rw [cassetteLoad, checked_pass (service_pass service), slot]
  simp only [param, checked_pass inRange]
  split
  next barred => exact checked_fail (by simp [firstRefusal, barred, or_assoc])
  next free => exact checked_pass (by simpa [firstRefusal, or_assoc] using free)

/-- CASSETTE LOAD in service mode, with a slot or a figure out of range. -/
theorem cassetteLoad_outOfRange (service : s.alarm.service = true)
    (wide : cassetteOf (byteAt ps 0) = none ∨ word2 ps 1 < 1 ∨ 1000 < word2 ps 1 ∨ 2500 < word2 ps 3) :
    cassetteLoad ps s = .refuse .badParam .empty none := by
  rw [cassetteLoad, checked_pass (service_pass service)]
  cases slot : cassetteOf (byteAt ps 0) with
  | none => rfl
  | some c =>
    refine checked_fail ?_
    rcases wide with none | low | high | many
    · simp [slot] at none
    · simp [firstRefusal, within_false (.inl low)]
    · simp [firstRefusal, within_false (.inr high)]
    · simp [firstRefusal, within_false (low := 0) (.inr many)]

/-- Settles O15: CASSETTE LOAD sets value and counts, zeroes the tallies and sets the state, in service mode. -/
theorem cassetteLoadSetsTheCounts : Obligations.CassetteLoadSetsTheCounts := by
  refine ⟨?_, ?_, ?_, ?_⟩
  case refine_1 =>
    intro ps c s takes bytes slot service value count present still free
    refine yields_done rfl takes bytes ((cassetteLoad_reply slot (by simpa using service) value count).trans
      (if_neg (by simp [present, still, free]))) ?_
    refine ⟨commandLeaves_finish (Touches.modCassette (by simp) _) (by simp), ?_⟩
    rw [answering_cassette, finish_cassette_named]
    simp [Cassette.load]
  case refine_2 =>
    intro ps s takes bytes service
    exact refuses_of rfl takes bytes (checked_fail (service_fail (by simpa using service)))
  case refine_3 =>
    intro ps s takes bytes service wide
    exact refuses_of rfl takes bytes (cassetteLoad_outOfRange (by simpa using service) wide)
  case refine_4 =>
    intro ps c s takes bytes slot service value count barred
    exact refuses_of rfl takes bytes ((cassetteLoad_reply slot (by simpa using service) value count).trans
      (if_pos (by simpa using barred)))

/-- CASSETTE SET of a cassette that exists. -/
theorem cassetteSet_reply (slot : cassetteOf (byteAt ps 0) = some c) : cassetteSet ps s =
    .done (s.modCassette c fun r => { r with
        guard := min (byteAt ps 1) 50, lowMark := min (word2 ps 2) 2500
        lowFlag := r.current < min (word2 ps 2) 2500 })
      (if byteAt ps 1 ≤ 50 ∧ word2 ps 2 ≤ 2500 then .ok else .clamped) .empty (some (.cassette c)) := by
  have result : (if 50 < byteAt ps 1 ∨ 2500 < word2 ps 2 then ResultCode.clamped else .ok) =
      if byteAt ps 1 ≤ 50 ∧ word2 ps 2 ≤ 2500 then .ok else .clamped := by
    split <;> split <;> first | rfl | omega
  simp only [cassetteSet, slot, param, clamp_zero, result]

/-- Settles O16: CASSETTE SET writes guard and low mark, brought into range, and recomputes the low flag. -/
theorem cassetteSetClampsGuardAndLowMark : Obligations.CassetteSetClampsGuardAndLowMark := by
  intro ps c s takes bytes slot
  refine yields_done rfl takes bytes (cassetteSet_reply slot) ?_
  refine ⟨commandLeaves_finish (Touches.modCassette (by simp) _) (by simp), ?_⟩
  rw [answering_cassette, finish_cassette_named]
  simp

/-! ### LEVEL START and LEVEL TRIAL -/

theorem session_of (state : (s.cassette c).state = .leveling) (leveling : (s.cassette c).leveling = some v) :
    (s.cassette c).session = some v := by
  rw [Cassette.session, if_pos state, leveling]

theorem levelStart_reply (quiet : firstRefusal s.quietChecks = none) (slot : cassetteOf (byteAt ps 0) = some c)
    (lockdown : s.lockdown = false) (state : (s.cassette c).state = .unleveled ∨ (s.cassette c).state = .ready)
    (free : (s.cassette c).reserved = 0) (note : (s.cassette c).current ≠ 0) :
    levelStart ps s = .done (startLeveling c s) .ok .empty (some (.cassette c)) := by
  rw [levelStart, checked_pass quiet, slot]
  refine checked_pass ?_
  rcases state with state | state <;> simp [firstRefusal, lockdown, state, free, note]

theorem levelTrial_reply {g : Nat} (quiet : firstRefusal s.quietChecks = none) (slot : cassetteOf (byteAt ps 0) = some c)
    (value : word2 ps 1 ≤ 1023) (session : (s.cassette c).session = some v) (holding : v.phase = .holding)
    (reading : s.path.heldReading = some g) :
    levelTrial ps s = .done
      ((s.modCassette c fun r => { r with leveling := some (v.tried (word2 ps 1) (word2 ps 1 ≤ g)) }).modPath
        fun p => { p with levelingIdle := some levelingIdleTime })
      .ok (.trial (word2 ps 1 ≤ g)) (some (.cassette c)) := by
  have inRange : firstRefusal [(!within 0 1023 (word2 ps 1), ResultCode.badParam)] = none := by
    simp [firstRefusal, within_of (Nat.zero_le _) value]
  rw [levelTrial, checked_pass quiet, slot]
  simp only [param, checked_pass inRange, session, reading, holding, if_true]

/-- Settles O17: LEVEL START opens a session and queues its claim; LEVEL TRIAL answers by the held reading. -/
theorem levelStartAndTrial : Obligations.LevelStartAndTrial := by
  refine ⟨?_, ?_⟩
  case refine_1 =>
    intro ps c s awake bytes slot lockdown state free note
    have reply := levelStart_reply (s := s.released.written) (quietChecks_of_awake awake) slot
      ((taken_reads (g := State.lockdown) (fun _ _ => rfl) s).trans lockdown) (by simpa using state) (by simpa using free)
      (by simpa using note)
    refine yields_done rfl (takes_of_awake awake) bytes reply ?_
    refine ⟨commandLeaves_finish ((Touches.modCassette (by simp) _).trans (joinQueue_touches rfl _ _)) (by simp), ?_, ?_⟩
    · rw [answering_cassette, finish_cassette_named]
      simp [startLeveling, joinQueue]
    · simp [startLeveling, joinQueue]
  case refine_2 =>
    intro ps c v g s awake bytes slot value state leveling holding reading
    have reply := levelTrial_reply (s := s.released.written) (quietChecks_of_awake awake) slot value
      (session_of (by simpa using state) (by simpa using leveling)) holding (by simpa using reading)
    refine yields_done rfl (takes_of_awake awake) bytes reply ?_
    refine ⟨commandLeaves_finish ((Touches.modCassette (by simp) _).trans (Touches.modPath rfl _)) (by simp), ?_, ?_⟩
    · rw [answering_cassette, finish_cassette_named]
      simp [Leveling.tried]
      rfl
    · simp [levelingIdleTime]

end Sys2Proof.Machine
end

section
/-! LEVEL END and the leveling idle expiry. -/

namespace Sys2Proof.Machine
set_option Elab.async false

variable {s : State} {ps : List Byte} {c : CassetteId} {v : Leveling} {n : Nat}

/-! ### What the reject bin and the transport are when a session has ended -/

/-- The bins after notes have gone to the reject bin, counted while it is COUNTED (R98). -/
def Bins.rejected (n : Nat) (b : Bins) : Bins :=
  { b with rejectCount := if b.rejectCounted then b.rejectCount + n else b.rejectCount }

@[simp] theorem addRejects_bins (n : Nat) (s : State) : (addRejects n s).custody.bins = s.custody.bins.rejected n := by
  have counted : (addRejects n s).custody.bins =
      if s.custody.bins.rejectCounted then { s.custody.bins with rejectCount := s.custody.bins.rejectCount + n }
      else s.custody.bins := by simp [addRejects, evalPause]
  rw [counted, Bins.rejected]
  split <;> rfl

@[simp] theorem addRejects_settings (n : Nat) (s : State) : (addRejects n s).custody.settings = s.custody.settings := by
  simp [addRejects, evalPause]

/-- The pause due is a matter of the bins and the settings alone. -/
theorem pauseDue_congr {s t : State} (bins : s.custody.bins = t.custody.bins)
    (settings : s.custody.settings = t.custody.settings) : s.pauseDue = t.pauseDue := by
  rw [State.pauseDue, State.pauseDue, bins, settings]

theorem addRejects_path (n : Nat) (s : State) :
    (addRejects n s).path = { s.path with rejectPause := (addRejects n s).pauseDue } := by
  have due : (addRejects n s).pauseDue =
      (s.modBins fun b => if b.rejectCounted then { b with rejectCount := b.rejectCount + n } else b).pauseDue :=
    pauseDue_congr (by simp [addRejects, evalPause]) (by simp)
  rw [due]
  simp [addRejects, evalPause]

@[simp] theorem testNote_bins (c : CassetteId) (s : State) : (testNote c s).custody.bins = s.custody.bins.rejected 1 := by
  simp [testNote]

@[simp] theorem testNote_settings (c : CassetteId) (s : State) : (testNote c s).custody.settings = s.custody.settings := by
  simp [testNote]

theorem testNote_path_eq (c : CassetteId) (s : State) :
    (testNote c s).path = { s.path with rejectPause := (testNote c s).pauseDue } :=
  addRejects_path 1 _

/-- A session that gives up the claim it waits with, or an attempt. -/
theorem endLeveling_bins (c : CassetteId) (s : State) : (endLeveling c s).custody.bins =
    if s.holdsNote c then s.custody.bins.rejected 1 else s.custody.bins := by
  have back : (endLeveling c s).custody.bins = (if s.holdsNote c then testNote c s else s).custody.bins := by
    rw [endLeveling_eq]
    dsimp only
    split <;> rfl
  rw [back]
  split <;> simp

/-- The session gives its place on the transport up, with the note it held spent. -/
theorem endLeveling_path_spent (holder : s.path.holder = some (.leveling c)) (reading : s.path.heldReading.isSome = true) :
    (endLeveling c s).path =
      { s.path.freed s with
        queue := s.path.queue.filter (· != .leveling c), rejectPause := (endLeveling c s).pauseDue } := by
  have held : s.holdsNote c = true := by simp [State.holdsNote, holder, reading]
  have ended : endLeveling c s =
      releaseTransport (dropClaim (.leveling c) ((testNote c s).modCassette c Cassette.returned)) := by
    rw [endLeveling_eq, held, if_pos holder]
    rfl
  have due : (endLeveling c s).pauseDue = (testNote c s).pauseDue := by
    rw [ended]
    rfl
  rw [due, ended]
  simp only [releaseTransport, dropClaim, State.modPath_path, State.modPath_custody, State.modCassette_path,
    State.modCassette_settings, testNote_path_eq c s, testNote_settings, NotePath.freed]
  rfl

/-- The session gives its place on the transport up, having held no note. -/
theorem endLeveling_path_empty (holder : s.path.holder = some (.leveling c)) (reading : s.path.heldReading = none) :
    (endLeveling c s).path = { s.path.freed s with queue := s.path.queue.filter (· != .leveling c) } := by
  have held : s.holdsNote c = false := by simp [State.holdsNote, reading]
  rw [endLeveling_eq, held, if_pos holder]
  rfl

/-- A session that does not hold the transport gives up the claim it waits with. -/
theorem endLeveling_path_waiting (holder : s.path.holder ≠ some (.leveling c)) :
    (endLeveling c s).path = { s.path with queue := s.path.queue.filter (· != .leveling c) } := by
  have held : s.holdsNote c = false := by simp [State.holdsNote, holder]
  rw [endLeveling_eq, held, if_neg holder]
  rfl

/-- A session without a note at the gauge leaves the bins alone. -/
theorem endLeveling_noteless_touches {f : Footprint} (h : c ∈ f.cassettes) (p : f.path = true)
    (held : s.holdsNote c = false) : Touches f s (endLeveling c s) := by
  have back : Touches f s (dropClaim (.leveling c) (s.modCassette c Cassette.returned)) :=
    (Touches.modCassette h _).trans (dropClaim_touches p _ _)
  rw [endLeveling_eq, held]
  dsimp only
  split
  · exact back.trans (releaseTransport_touches p _)
  · exact back

/-- A note spent from a session leaves the cassette EMPTY, READY or UNLEVELED by its count and reference. -/
theorem spent_returned (r : Cassette) : (r.spent true).returned = { r with
    current := r.current - 1, testNotes := r.testNotes + 1
    lowFlag := r.lowFlag || decide (r.lowMark ≤ r.current ∧ r.current - 1 < r.lowMark)
    state := if r.current - 1 = 0 then .empty else if r.reference ≠ 0 then .ready else .unleveled
    leveling := none } := by
  simp [Cassette.spent, Cassette.returned, Cassette.lower, Cassette.afterLeveling]

/-! ### LEVEL END -/

/-- The reference that LEVEL END leaves: its own, or with abandon the one that stood. -/
def Cassette.committed (n : Nat) (r : Cassette) : Cassette :=
  { r with reference := if n = 0 then r.reference else n }

theorem commitReference_eq (c : CassetteId) (n : Nat) (s : State) :
    commitReference c n s = s.modCassette c (Cassette.committed n) := by
  unfold commitReference
  split
  next zero =>
    have same : Cassette.committed n = id := by funext r; simp [Cassette.committed, zero]
    rw [same, State.modCassette_id]
  next some =>
    have same : (fun r : Cassette => { r with reference := n }) = Cassette.committed n := by
      funext r; simp [Cassette.committed, some]
    rw [same]

theorem levelEnd_reply (quiet : firstRefusal s.quietChecks = none) (slot : cassetteOf (byteAt ps 0) = some c)
    (reference : word2 ps 1 = 0 ∨ (64 ≤ word2 ps 1 ∧ word2 ps 1 ≤ 960)) (session : (s.cassette c).session = some v)
    (phase : v.phase = .holding ∨ (v.phase = .waiting ∧ word2 ps 1 = 0)) :
    levelEnd ps s = .done (endLeveling c (s.modCassette c (Cassette.committed (word2 ps 1)))) .ok .empty
      (some (.cassette c)) := by
  have inRange : firstRefusal [(word2 ps 1 != 0 && !within 64 960 (word2 ps 1), ResultCode.badParam)] = none := by
    rcases reference with zero | ⟨low, high⟩
    · simp [firstRefusal, zero]
    · simp [firstRefusal, within_of low high]
  have inPhase : firstRefusal [(v.phase == .fetching || (v.phase == .waiting && word2 ps 1 != 0), .wrongState)] = none := by
    rcases phase with phase | ⟨phase, zero⟩ <;> simp [firstRefusal, *]
  rw [levelEnd, checked_pass quiet, slot]
  simp only [param, checked_pass inRange, session, checked_pass inPhase, commitReference_eq]

/-- The idle timer that is out ends the session that holds the transport (R40). -/
theorem levelingExpiry_eq (holder : s.path.holder = some (.leveling c)) (idle : s.path.levelingIdle.isSome = true) :
    levelingExpiry s = endLeveling c s := by
  obtain ⟨left, idle⟩ := Option.isSome_iff_exists.mp idle
  rw [levelingExpiry, holder, idle]

/-- A cassette that an event moves is marked by it. -/
theorem finish_cassette_moved {s t : State} {access : Option RecordRef} (moved : (s.cassette c).same (t.cassette c) = false) :
    (finish s t none access).cassette c = { t.cassette c with mark := true } := by
  rw [finish_cassette, cassetteMoved, moved]
  rfl

@[simp] theorem finish_pauseDue (s t : State) (named access : Option RecordRef) :
    (finish s t named access).pauseDue = t.pauseDue :=
  pauseDue_congr (by simp) (by simp)

@[simp] theorem answering_pauseDue (r : ResultCode) (p : Payload) (s : State) : (s.answering r p).pauseDue = s.pauseDue := rfl

/-- Settles O18: LEVEL END in HOLDING, and the leveling idle expiry, spend the held note and release the transport. -/
theorem levelEndSpendsTheHeldNote : Obligations.LevelEndSpendsTheHeldNote := by
  refine ⟨?_, ?_, ?_⟩
  case refine_1 =>
    intro ps c v s awake bytes slot reference state leveling holding holder reading
    have reply := levelEnd_reply (s := s.released.written) (quietChecks_of_awake awake) slot reference
      (session_of (by simpa using state) (by simpa using leveling)) (.inl holding)
    have holds : (s.released.written.modCassette c (Cassette.committed (word2 ps 1))).holdsNote c = true := by
      simp [State.holdsNote, holder, reading]
    refine yields_done rfl (takes_of_awake awake) bytes reply ?_
    refine ⟨commandLeaves_finish
      ((Touches.modCassette (by simp) _).trans (endLeveling_touches (by simp) rfl rfl _)) (by simp), ?_, ?_, ?_⟩
    · rw [answering_cassette, finish_cassette_named, endLeveling_cassette, if_pos rfl, holds, spent_returned]
      simp [Cassette.committed]
    · simp [endLeveling_bins, holds, Bins.rejected]
    · rw [answering_path, finish_path, endLeveling_path_spent (by simpa using holder) (by simpa using reading)]
      simp [NotePath.freed]
  case refine_2 =>
    intro ps c v s awake bytes slot zero state leveling waiting holder
    have reply := levelEnd_reply (s := s.released.written) (quietChecks_of_awake awake) slot (.inl zero)
      (session_of (by simpa using state) (by simpa using leveling)) (.inr ⟨waiting, zero⟩)
    have apart : (s.released.written.modCassette c (Cassette.committed (word2 ps 1))).path.holder ≠ some (.leveling c) := by
      simpa using holder
    have holds : (s.released.written.modCassette c (Cassette.committed (word2 ps 1))).holdsNote c = false := by
      simp [State.holdsNote, holder]
    refine yields_done rfl (takes_of_awake awake) bytes reply ?_
    refine ⟨commandLeaves_finish
      ((Touches.modCassette (by simp) _).trans (endLeveling_noteless_touches (by simp) rfl holds)) (by simp), ?_, ?_⟩
    · rw [answering_cassette, finish_cassette_named, endLeveling_cassette, if_pos rfl, holds]
      simp [Cassette.spent, Cassette.returned, Cassette.afterLeveling, Cassette.committed, zero]
    · rw [answering_path, finish_path, endLeveling_path_waiting apart]
      simp
  case refine_3 =>
    intro c s heeds holder idle reading
    have holds : s.holdsNote c = true := by simp [State.holdsNote, holder, reading]
    refine yields_of (event_heeded heeds) ?_
    rw [levelingExpiry_eq holder idle]
    refine ⟨eventLeaves_finish (endLeveling_touches (by simp) rfl rfl _), ?_, ?_, ?_⟩
    · rw [finish_cassette_moved, endLeveling_cassette, if_pos rfl, holds, spent_returned]
      rw [endLeveling_cassette, if_pos rfl, holds, spent_returned]
      simp [Cassette.same]
    · simp [endLeveling_bins, holds, Bins.rejected]
    · rw [finish_path, endLeveling_path_spent holder reading]
      simp [NotePath.freed]

end Sys2Proof.Machine
end

section
/-! Seating, and the travel of the shutters. -/

namespace Sys2Proof.Machine
set_option Elab.async false

variable {s t : State} {c k : CassetteId}

/-! ### The shutters that close -/

/-- A shutter that stands open or opens. -/
def Shutter.ajar (h : Shutter) : Bool := h == .opened || h == .opening

/-- A cassette whose shutter has been told to close. -/
def Cassette.shutting (r : Cassette) : Cassette := if r.shutter.ajar then { r with shutter := .closing } else r

/-- A cassette record and the travel of its shutter, after the shutter has been told to close. -/
def closingView (v : Cassette × Option Nat) : Cassette × Option Nat :=
  if v.1.shutter.ajar then ({ v.1 with shutter := .closing }, some shutterTravelTime) else v

theorem closeShutter_eq (c : CassetteId) (s : State) : closeShutter c s =
    if (s.cassette c).shutter.ajar then
      (s.modCassette c fun r => { r with shutter := .closing }).modPath fun p =>
        { p with shutterTravel := tableSet p.shutterTravel c (some shutterTravelTime) }
    else s := by
  unfold closeShutter
  cases shutter : (s.cassette c).shutter <;> simp [Shutter.ajar]

theorem closeShutters_view (s : State) (c : CassetteId) :
    ((closeShutters s).cassette c, (closeShutters s).path.shutterTravel.get c) =
      closingView (s.cassette c, s.path.shutterTravel.get c) := by
  refine forEach_at (fun s : State => (s.cassette c, s.path.shutterTravel.get c)) closeShutter c closingView ?_ ?_ s
  · intro k s apart
    rw [closeShutter_eq]
    split <;> simp [State.modCassette_cassette, apart, tableSet_get]
  · intro s
    rw [closeShutter_eq, closingView]
    split <;> simp

/-- Every shutter that stands open or opens closes (R34, R35). -/
theorem closeShutters_cassette (s : State) (c : CassetteId) : (closeShutters s).cassette c = (s.cassette c).shutting := by
  have view : (closeShutters s).cassette c = (closingView (s.cassette c, s.path.shutterTravel.get c)).1 :=
    congrArg Prod.fst (closeShutters_view s c)
  rw [view, closingView, Cassette.shutting]
  split <;> rfl

theorem closeShutters_travel (s : State) (c : CassetteId) : (closeShutters s).path.shutterTravel.get c =
    if (s.cassette c).shutter.ajar then some shutterTravelTime else s.path.shutterTravel.get c := by
  have view : (closeShutters s).path.shutterTravel.get c = (closingView (s.cassette c, s.path.shutterTravel.get c)).2 :=
    congrArg Prod.snd (closeShutters_view s c)
  rw [view, closingView]
  split <;> rfl

/-- Beyond the cassettes, closing shutters change their travels alone. -/
theorem closeShutters_path (s : State) :
    (closeShutters s).path = { s.path with shutterTravel := (closeShutters s).path.shutterTravel } := by
  refine forEach_keeps (fun t => t.path = { s.path with shutterTravel := t.path.shutterTravel }) closeShutter ?_ s rfl
  intro k t path
  rw [closeShutter_eq]
  split
  · simp only [State.modPath_path, State.modCassette_path]
    rw [path]
  · exact path

theorem shutting_marked (s t : State) (access : Option RecordRef)
    (moved : t.cassette c = (s.cassette c).shutting) :
    (finish s t none access).cassette c =
      if (s.cassette c).shutter.ajar then { s.cassette c with shutter := .closing, mark := true } else s.cassette c := by
  rw [finish_cassette, cassetteMoved, moved, Cassette.shutting]
  split
  next ajar =>
    have other : (s.cassette c).shutter ≠ .closing := by
      intro closing
      simp [Shutter.ajar, closing] at ajar
    simp [Cassette.same, other]
  · simp [Cassette.same]

/-! ### The pick attempt that a shutter lets begin -/

theorem pickTarget_congr (path : t.path.state = s.path.state ∧ t.path.holder = s.path.holder ∧ t.path.entry = s.path.entry)
    (orders : ∀ i, t.order i = s.order i) (leveling : ∀ c, (t.cassette c).leveling = (s.cassette c).leveling) :
    t.pickTarget = s.pickTarget := by
  obtain ⟨state, holder, entry⟩ := path
  unfold State.pickTarget
  simp only [state, holder, entry, orders, leveling]

/-- An attempt begins from the cassette to pick from, unless one is in flight (R84). -/
theorem beginAttempt_path (s : State) :
    (beginAttempt s).path = { s.path with attempt := s.path.attempt.or (s.pickTarget.bind s.freshAttempt) } := by
  rw [beginAttempt_eq]
  split
  next begins =>
    obtain ⟨c, target, none, shutter, lockdown, rails⟩ := begins
    simp [target, none, State.freshAttempt, shutter, lockdown, rails, pickWindow]
  next still =>
    have same : s.path.attempt.or (s.pickTarget.bind s.freshAttempt) = s.path.attempt := by
      cases attempt : s.path.attempt with
      | some a => rfl
      | none =>
        rw [Option.none_or, Option.bind_eq_none_iff]
        intro c target
        refine if_neg fun ready => still ?_
        exact ⟨c, target, attempt, ready⟩
    rw [same]

@[simp] theorem beginAttempt_cassette (s : State) (c : CassetteId) : (beginAttempt s).cassette c = s.cassette c := by
  rw [beginAttempt_eq]
  split <;> rfl

@[simp] theorem completeQuiet_cassette (s : State) (c : CassetteId) : (completeQuiet s).cassette c = s.cassette c := by
  unfold completeQuiet
  split <;> rfl

@[simp] theorem completeQuiet_path (s : State) : (completeQuiet s).path = s.path := by
  unfold completeQuiet
  split <;> rfl

/-- A quiet entry is completed when every shutter is SHUT (R183). -/
theorem completeQuiet_sup_shut (entering : s.sup.mode = .enteringQuiet) (shut : ∀ c, (s.cassette c).shutter = .shut) :
    (completeQuiet s).sup = { s.sup with mode := .quiet, rails := false, quietDwell := some quietDwellTime } := by
  have all : tableAll (fun r => r.shutter == .shut) s.custody.cassettes = true := by
    simpa [tableAll_iff, State.cassette] using shut
  rw [completeQuiet, if_pos ⟨entering, all⟩]
  rfl

/-- Out of a quiet entry, or with a shutter that is not SHUT, nothing is completed. -/
theorem completeQuiet_still (still : s.sup.mode = .enteringQuiet → ∃ c, (s.cassette c).shutter ≠ .shut) :
    completeQuiet s = s := by
  refine if_neg fun ⟨entering, all⟩ => ?_
  obtain ⟨c, ajar⟩ := still entering
  exact ajar (by simpa [State.cassette] using (tableAll_iff _ _).mp all c)

/-! ### Arrivals -/

/-- An event that moves one shutter marks its cassette. -/
theorem finish_cassette_shutter {h : Shutter} {access : Option RecordRef}
    (moved : t.cassette c = { s.cassette c with shutter := h }) (other : (s.cassette c).shutter ≠ h) :
    (finish s t none access).cassette c = { s.cassette c with shutter := h, mark := true } := by
  have apart : (s.cassette c).same (t.cassette c) = false := by simp [moved, Cassette.same, other]
  rw [finish_cassette_moved apart, moved]

/-- A shutter that has opened, before picking is looked at. -/
def openArrived (c : CassetteId) (s : State) : State :=
  (s.modPath fun p => { p with shutterTravel := tableSet p.shutterTravel c none }).modCassette c
    fun r => { r with shutter := .opened }

theorem shutterTravelEnd_opening (opening : (s.cassette c).shutter = .opening) :
    shutterTravelEnd c s = beginAttempt (openArrived c s) := by
  rw [shutterTravelEnd, opening]
  rfl

theorem openArrived_touches {f : Footprint} (cs : c ∈ f.cassettes) (p : f.path = true) (s : State) :
    Touches f s (openArrived c s) :=
  (Touches.modPath p _).trans (.modCassette cs _)

theorem openArrived_leveling (c : CassetteId) (s : State) (k : CassetteId) :
    ((openArrived c s).cassette k).leveling = (s.cassette k).leveling := by
  rw [openArrived, State.modCassette_cassette]
  split <;> simp

/-- A shutter that has closed, before the quiet entry is looked at. -/
def shutArrived (c : CassetteId) (s : State) : State :=
  (s.modPath fun p => { p with shutterTravel := tableSet p.shutterTravel c none }).modCassette c
    fun r => { r with shutter := .shut }

theorem shutterTravelEnd_closing (closing : (s.cassette c).shutter = .closing) :
    shutterTravelEnd c s = completeQuiet (shutArrived c s) := by
  rw [shutterTravelEnd, closing]
  rfl

theorem shutArrived_touches {f : Footprint} (cs : c ∈ f.cassettes) (p : f.path = true) (s : State) :
    Touches f s (shutArrived c s) :=
  (Touches.modPath p _).trans (.modCassette cs _)

/-- The arrival of a CLOSING shutter that completes no quiet entry. -/
theorem yields_shut (heeds : s.heeds = true) (closing : (s.cassette c).shutter = .closing)
    (still : completeQuiet (shutArrived c s) = shutArrived c s) :
    Yields (.shutterTravelEnd c) s fun t => EventLeaves { cassettes := [c], path := true } s t ∧
      t.cassette c = { s.cassette c with shutter := .shut, mark := true } ∧
      t.path = { s.path with shutterTravel := tableSet s.path.shutterTravel c none } := by
  refine yields_of (event_heeded heeds) ?_
  rw [shutterTravelEnd_closing closing, still]
  refine ⟨eventLeaves_finish (shutArrived_touches (by simp) rfl s), ?_, by simp [shutArrived]⟩
  exact finish_cassette_shutter (by simp [shutArrived]) (by simp [closing])

/-- Settles O20: a seated cassette goes UNCOUNTED; a travelling shutter arrives; the idle expiry closes every open
shutter. -/
theorem seatingAndShutterTravel : Obligations.SeatingAndShutterTravel := by
  refine ⟨?_, ?_, ?_, ?_, ?_, ?_⟩
  case refine_1 =>
    intro c s heeds absent
    refine yields_of (fieldEvent_heeded heeds) ?_
    have seated : seatCassette c (s.modLevels fun v => { v with seated := tableSet v.seated c true }) =
        (shutNow c (s.modLevels fun v => { v with seated := tableSet v.seated c true })).modCassette c
          fun r => { r with state := .uncounted, value := 0 } := if_pos (by simpa using absent)
    rw [seated]
    refine ⟨eventLeaves_finish (((Touches.modLevels rfl _).trans (shutNow_touches (by simp) rfl _)).trans
      (.modCassette (by simp) _)), ?_, by simp [shutNow]⟩
    have moved : (s.cassette c).same { s.cassette c with state := .uncounted, value := 0, shutter := .shut } = false := by
      simp [Cassette.same, absent]
    rw [finish_cassette_moved] <;> simp [shutNow, moved]
  case refine_2 =>
    intro c s heeds opening
    refine yields_of (event_heeded heeds) ?_
    rw [shutterTravelEnd_opening opening]
    have target : (openArrived c s).pickTarget = s.pickTarget :=
      pickTarget_congr (by simp [openArrived]) (by simp [openArrived]) (openArrived_leveling c s)
    have fresh : (openArrived c s).freshAttempt = (s.modCassette c fun r => { r with shutter := .opened }).freshAttempt := rfl
    have path : (finish s (beginAttempt (openArrived c s)) none none).path = { s.path with
        shutterTravel := tableSet s.path.shutterTravel c none
        attempt := s.path.attempt.or (s.pickTarget.bind (s.modCassette c fun r => { r with
          shutter := .opened }).freshAttempt) } := by
      rw [finish_path, beginAttempt_path, target, fresh]
      simp [openArrived]
    refine ⟨eventLeaves_finish ((openArrived_touches (by simp) rfl s).trans (beginAttempt_touches rfl _)), ?_, ?_, path⟩
    · exact finish_cassette_shutter (by simp [openArrived]) (by simp [opening])
    · intro own none rails lockdown
      have unlocked : (s.modCassette c fun r => { r with shutter := .opened }).lockdown = false := lockdown
      rw [path, own, none, Option.none_or, Option.bind_some, State.freshAttempt, if_pos]
      exact ⟨by simp, unlocked, rails⟩
  case refine_3 =>
    intro c s heeds closing awake
    refine yields_shut heeds closing (completeQuiet_still fun entering => ?_)
    exact absurd (by simpa [shutArrived] using entering) awake
  case refine_4 =>
    intro c s heeds closing entering shut
    refine yields_of (event_heeded heeds) ?_
    rw [shutterTravelEnd_closing closing]
    refine ⟨eventLeaves_finish ((shutArrived_touches (by simp) rfl s).trans (completeQuiet_touches rfl _)), ?_, ?_, ?_⟩
    · exact finish_cassette_shutter (by simp [shutArrived]) (by simp [closing])
    · rw [finish_sup, completeQuiet_sup_shut (by simpa [shutArrived] using entering)]
      · simp [shutArrived, quietDwellTime]
      · intro d
        by_cases here : c = d
        · simp [shutArrived, here]
        · simpa [shutArrived, State.modCassette_cassette, here] using (shut d).resolve_left (Ne.symm here)
    · simp [shutArrived]
  case refine_5 =>
    intro c d s heeds closing entering apart ajar
    refine yields_shut heeds closing (completeQuiet_still fun _ => ⟨d, ?_⟩)
    simpa [shutArrived, State.modCassette_cassette, Ne.symm apart] using ajar
  case refine_6 =>
    intro s heeds idle
    obtain ⟨left, idle⟩ := Option.isSome_iff_exists.mp idle
    refine yields_of (event_heeded heeds) ?_
    have expires : shutterIdleExpiry s = closeShutters (s.modPath fun p => { p with shutterIdle := none }) := by
      rw [shutterIdleExpiry, idle]
    rw [expires]
    refine ⟨eventLeaves_finish ((Touches.modPath rfl _).trans (closeShutters_touches mem_everyCassette rfl _)), ?_, ?_, ?_⟩
    · intro c
      rw [shutting_marked s _ none (by rw [closeShutters_cassette]; simp)]
      simp [Shutter.ajar]
    · intro c
      rw [finish_path, closeShutters_travel]
      simp [Shutter.ajar, shutterTravelTime]
    · rw [finish_path, closeShutters_path]
      simp

end Sys2Proof.Machine
end

section
/-! Quiet entry, quiet exit and their timers. -/

namespace Sys2Proof.Machine
set_option Elab.async false

variable {s : State} {ps : List Byte}

/-! ### Quiet entry -/

/-- Every block of the part is at rest, so that quiet entry may begin (R183). -/
theorem restingChecks_pass (dwell : s.sup.quietDwell = none) (service : s.alarm.service = false)
    (sessions : ∀ l, (s.lane l).session = .closed) (orders : s.anyOrder (fun o => o.state.moving) = false)
    (drawers : ∀ l, ((s.lane l).drawer = .closed ∨ (s.lane l).drawer = .jammed) ∧ (s.lane l).claim = false)
    (envelopes : ∀ e ∈ s.custody.envelopes, e.state ≠ .intake ∧ e.state ≠ .conveying) (clear : s.conveyor.clearance = none)
    (free : s.path.state = .free) (queue : s.path.queue = []) (leveling : ∀ c, (s.cassette c).state ≠ .leveling) :
    firstRefusal s.restingChecks = none := by
  have closed : tableAny (fun r => r.session != .closed) s.custody.lanes = false := by
    simpa [tableAny_false_iff, State.lane] using sessions
  have out : tableAny (fun r => (r.drawer != .closed && r.drawer != .jammed) || r.claim) s.custody.lanes = false := by
    refine (tableAny_false_iff _ _).mpr fun l => ?_
    obtain ⟨drawer | drawer, claim⟩ := drawers l <;> simp [State.lane] at drawer claim <;> simp [drawer, claim]
  have conveyed : s.custody.envelopes.any (fun e => e.state == .intake || e.state == .conveying) = false := by
    simpa using envelopes
  have levels : tableAny (fun r => r.state == .leveling) s.custody.cassettes = false := by
    simpa [tableAny_false_iff, State.cassette] using leveling
  simp [State.restingChecks, firstRefusal, dwell, service, closed, orders, out, conveyed, clear, free, queue, levels]

/-- With the dwell running, in service mode, or with a block not at rest, quiet entry is refused (R183, R184). -/
theorem restingChecks_fail (barred : s.sup.quietDwell.isSome = true ∨ s.alarm.service = true ∨
    (∃ l, (s.lane l).session ≠ .closed) ∨ s.anyOrder (fun o => o.state.moving) = true ∨ s.path.state ≠ .free) :
    firstRefusal s.restingChecks = some (if s.sup.quietDwell.isSome then .tooSoon else .wrongState) := by
  have unclosed (l : LaneId) (session : (s.lane l).session ≠ .closed) :
      tableAny (fun r => r.session != .closed) s.custody.lanes = true :=
    (tableAny_iff _ _).mpr ⟨l, by simpa [State.lane] using session⟩
  cases dwell : s.sup.quietDwell.isSome with
  | true => simp [State.restingChecks, firstRefusal, dwell]
  | false =>
    rcases barred with dwelling | service | ⟨l, session⟩ | orders | busy
    · simp [dwell] at dwelling
    · simp [State.restingChecks, firstRefusal, dwell, service]
    · simp [State.restingChecks, firstRefusal, dwell, unclosed l session]
    · simp [State.restingChecks, firstRefusal, dwell, orders]
    · simp [State.restingChecks, firstRefusal, dwell, busy]

theorem awake_mode (awake : s.awake = true) : s.sup.mode = .active := by
  simp only [State.awake, Bool.and_eq_true, beq_iff_eq] at awake
  exact awake.2

theorem quietEnter_active (mode : s.sup.mode = .active) :
    quietEnter ps s = checked s.restingChecks none (.done (enterQuiet s) .ok .empty none) := by
  rw [quietEnter, mode]

/-- Quiet entry with its shutters told to close, before it is looked at whether they all stand SHUT. -/
def quietBegun (s : State) : State :=
  closeShutters ((s.modSup fun u => { u with mode := .enteringQuiet }).modPath fun p => { p with shutterIdle := none })

theorem enterQuiet_eq (s : State) : enterQuiet s = completeQuiet (quietBegun s) := rfl

theorem quietBegun_cassette (s : State) (c : CassetteId) : (quietBegun s).cassette c = (s.cassette c).shutting := by
  rw [quietBegun, closeShutters_cassette]
  simp

theorem quietBegun_path (s : State) : (quietBegun s).path =
    { s.path with shutterIdle := none, shutterTravel := (quietBegun s).path.shutterTravel } := by
  conv_lhs => rw [quietBegun, closeShutters_path]
  rw [State.modPath_path, State.modSup_path, quietBegun]

theorem closeShutters_sup (s : State) : (closeShutters s).sup = s.sup :=
  (closeShutters_touches (f := { cassettes := [0, 1, 2, 3, 4, 5], path := true }) mem_everyCassette rfl s).sup.resolve_left
    (by simp)

theorem quietBegun_sup (s : State) : (quietBegun s).sup = { s.sup with mode := .enteringQuiet } := by
  rw [quietBegun, closeShutters_sup]
  simp

/-- A shutter that is told to close stands SHUT if it did before. -/
theorem Cassette.shutting_shut (r : Cassette) : r.shutting.shutter = .shut ↔ r.shutter = .shut := by
  unfold Cassette.shutting
  cases shutter : r.shutter <;> simp [Shutter.ajar, shutter]

/-- Quiet entry ends at once when every shutter was SHUT (R183). -/
theorem enterQuiet_sup (s : State) : (enterQuiet s).sup =
    if ∀ c, (s.cassette c).shutter = .shut
    then { s.sup with mode := .quiet, rails := false, quietDwell := some quietDwellTime }
    else { s.sup with mode := .enteringQuiet } := by
  rw [enterQuiet_eq]
  split
  next shut =>
    rw [completeQuiet_sup_shut (by rw [quietBegun_sup])
      (fun c => by rw [quietBegun_cassette, Cassette.shutting_shut]; exact shut c), quietBegun_sup]
  next ajar =>
    obtain ⟨c, ajar⟩ := not_forall.mp ajar
    rw [completeQuiet_still fun _ => ⟨c, by rwa [quietBegun_cassette, Ne, Cassette.shutting_shut]⟩, quietBegun_sup]

theorem enterQuiet_touches (s : State) :
    Touches { cassettes := [0, 1, 2, 3, 4, 5], path := true, sup := true } s (enterQuiet s) :=
  (((Touches.modSup rfl _).trans (.modPath rfl _)).trans (closeShutters_touches mem_everyCassette rfl _)).trans
    (completeQuiet_touches rfl _)

/-! ### Quiet exit -/

theorem quietExit_quiet (mode : s.sup.mode = .quiet) :
    quietExit ps s = checked [(s.sup.quietDwell.isSome, .tooSoon)] none (.done (wake s) .ok .empty none) := by
  rw [quietExit, mode]

/-- A taken command that its rule answers OK without effect. -/
theorem yields_idle {c : Instr} {code : Byte} {required : List Byte → Nat} {body : List Byte → State → Reply}
    (hc : exec c s = station code required body ps s) (takes : s.takes = true) (bytes : carries (required ps) ps = true)
    (reply : body ps s.released.written = .done s.released.written .ok .empty none) :
    Yields c s fun t => CommandLeaves {} okEmpty s t :=
  yields_done hc takes bytes reply (commandLeaves_finish (Touches.refl _ _) (by simp))

/-- Settles O51: QUIET ENTER at rest closes the shutters and goes quiet; QUIET EXIT wakes the part after the dwell. -/
theorem quietEntryAndExit : Obligations.QuietEntryAndExit := by
  refine ⟨?_, ?_, ?_, ?_, ?_, ?_, ?_, ?_, ?_⟩
  case refine_1 =>
    intro ps s awake bytes dwell service sessions orders drawers envelopes clear free queue leveling
    have resting : firstRefusal s.released.written.restingChecks = none := restingChecks_pass (by simpa using dwell)
      (by simpa using service) (by simpa using sessions)
      ((taken_reads (g := (State.anyOrder · _)) (fun _ _ => rfl) s).trans orders)
      (by simpa using drawers) (by simpa using envelopes) (by simpa using clear) (by simpa using free) (by simpa using queue)
      (by simpa using leveling)
    refine yields_done rfl (takes_of_awake awake) bytes
      ((quietEnter_active (by simpa using awake_mode awake)).trans (checked_pass resting)) ?_
    refine ⟨commandLeaves_finish (enterQuiet_touches _) (by simp), ?_, ?_, ?_, ?_⟩
    · intro c
      rw [answering_cassette,
        shutting_marked _ _ none (by rw [enterQuiet_eq, completeQuiet_cassette, quietBegun_cassette])]
      simp [Shutter.ajar]
    · intro c
      rw [answering_path, finish_path, enterQuiet_eq, completeQuiet_path, quietBegun, closeShutters_travel]
      simp [Shutter.ajar, shutterTravelTime]
    · rw [answering_path, finish_path, enterQuiet_eq, completeQuiet_path, quietBegun_path]
      simp
    · have sup := enterQuiet_sup s.released.written
      simp only [taken_cassette, taken_sup, quietDwellTime] at sup
      rw [← sup]
      simp [State.answering]
  case refine_2 =>
    intro ps s awake bytes barred
    have resting := restingChecks_fail (s := s.released.written)
      (by rw [taken_reads (g := (State.anyOrder · _)) fun _ _ => rfl]; simpa using barred)
    rw [taken_sup] at resting
    exact refuses_of rfl (takes_of_awake awake) bytes
      ((quietEnter_active (by simpa using awake_mode awake)).trans (checked_fail resting))
  case refine_3 =>
    intro ps s takes bytes mode
    refine yields_idle rfl takes bytes ?_
    rcases mode with mode | mode <;> simp [quietEnter, mode]
  case refine_4 =>
    intro ps s takes bytes mode
    refine ⟨refuses_of (p := .empty) (target := none) rfl takes bytes ?_, yields_idle rfl takes bytes ?_⟩
    · simp [quietEnter, mode]
    · simp [quietExit, mode]
  case refine_5 =>
    intro ps s awake bytes
    exact yields_idle rfl (takes_of_awake awake) bytes (by simp [quietExit, awake_mode awake])
  case refine_6 =>
    intro ps s takes bytes early
    refine refuses_of (p := .empty) (target := none) rfl takes bytes ?_
    rcases early with mode | ⟨mode, dwell⟩
    · simp [quietExit, mode]
    · rw [quietExit_quiet (by simpa using mode)]
      exact checked_fail (by simp [firstRefusal, dwell])
  case refine_7 =>
    intro ps s takes bytes mode dwell
    refine yields_done rfl takes bytes
      ((quietExit_quiet (by simpa using mode)).trans (checked_pass (by simp [firstRefusal, dwell]))) ?_
    exact ⟨commandLeaves_finish (Touches.modSup rfl _) (by simp), by simp [State.answering, wake, railSettleTime]⟩
  case refine_8 =>
    intro s heeds mode settle
    refine yields_of (event_heeded heeds) ?_
    have ends : railExpiry s = s.modSup fun u =>
        { u with mode := .active, railSettle := none, quietDwell := some quietDwellTime } := if_pos ⟨mode, settle⟩
    rw [ends]
    exact ⟨eventLeaves_finish (Touches.modSup rfl _), by simp [quietDwellTime]⟩
  case refine_9 =>
    intro s heeds
    exact yields_of (event_heeded heeds) ⟨eventLeaves_finish (Touches.modSup rfl _), by simp [dwellExpiry]⟩

end Sys2Proof.Machine
end

section
/-! The grant of the transport. -/

namespace Sys2Proof.Machine
set_option Elab.async false

variable {s t : State} {f : Footprint} {c k : CassetteId} {i : OrderSlot} {o : Order} {v : Leveling}

/-! ### What a pick attempt depends on -/

/-- Lockdown stands or not with the zones. -/
theorem Touches.lockdown (h : Touches f s t) (zones : f.zones = []) : t.lockdown = s.lockdown := by
  have same : t.custody.zones = s.custody.zones := table_ext fun z => (h.zones z).resolve_left (by simp [zones])
  rw [State.lockdown, State.lockdown, same]

/-- What leaves the zones and the rails alone leaves it to the shutter whether an attempt may begin. -/
theorem Touches.freshAttempt (h : Touches f s t) (zones : f.zones = []) (sup : f.sup = false)
    (shutter : (t.cassette c).shutter = .opened ↔ (s.cassette c).shutter = .opened) :
    t.freshAttempt c = s.freshAttempt c := by
  rw [State.freshAttempt, State.freshAttempt, h.lockdown zones, h.sup.resolve_left (by simp [sup])]
  simp only [shutter]

/-- The cassette that an order which holds the transport picks from. -/
theorem pickTarget_of_order (state : s.path.state = .picking) (holder : s.path.holder = some (.order i))
    (order : s.order i = some o) :
    s.pickTarget = ((s.path.entry.bind fun n => o.mix[n]?).map (·.slot)) := by
  rw [State.pickTarget, state, holder]
  simp only [order]
  cases s.path.entry <;> rfl

/-- The cassette of a leveling session that fetches its note. -/
theorem pickTarget_of_session (state : s.path.state = .leveling) (holder : s.path.holder = some (.leveling c))
    (leveling : (s.cassette c).leveling = some v) (fetching : v.phase = .fetching) : s.pickTarget = some c := by
  rw [State.pickTarget, state, holder]
  simp only [leveling, fetching, if_true]

/-! ### The shutters that open -/

/-- A cassette record and the travel of its shutter, after the shutter has been told to open. -/
def openingView (v : Cassette × Option Nat) : Cassette × Option Nat :=
  if v.1.shutter.ajar then v else ({ v.1 with shutter := .opening }, some shutterTravelTime)

theorem Shutter.not_ajar_iff (h : Shutter) : h.ajar = false ↔ h = .shut ∨ h = .closing := by
  cases h <;> simp [Shutter.ajar]

theorem openShutter_eq (c : CassetteId) (s : State) : openShutter c s =
    if (s.cassette c).shutter.ajar then s
    else (s.modCassette c fun r => { r with shutter := .opening }).modPath fun p =>
      { p with shutterTravel := tableSet p.shutterTravel c (some shutterTravelTime) } := by
  unfold openShutter
  cases shutter : (s.cassette c).shutter <;> simp [Shutter.ajar]

theorem openShutter_view (c : CassetteId) (s : State) :
    ((openShutter c s).cassette c, (openShutter c s).path.shutterTravel.get c) =
      openingView (s.cassette c, s.path.shutterTravel.get c) := by
  rw [openShutter_eq, openingView]
  split <;> simp

theorem openShutter_view_other (apart : k ≠ c) (s : State) :
    ((openShutter k s).cassette c, (openShutter k s).path.shutterTravel.get c) =
      (s.cassette c, s.path.shutterTravel.get c) := by
  rw [openShutter_eq]
  split <;> simp [State.modCassette_cassette, apart, tableSet_get]

/-- Beyond the cassette, an opening shutter changes its travel alone. -/
theorem openShutter_path (c : CassetteId) (s : State) :
    (openShutter c s).path = { s.path with shutterTravel := (openShutter c s).path.shutterTravel } := by
  rw [openShutter_eq]
  split <;> simp

/-- A told shutter is OPEN only if it was. -/
theorem openingView_opened (w : Cassette × Option Nat) : (openingView w).1.shutter = .opened ↔ w.1.shutter = .opened := by
  unfold openingView
  cases shutter : w.1.shutter <;> simp [Shutter.ajar, shutter]

/-- An event that tells a shutter to open marks its cassette if it was not open or opening. -/
theorem finish_cassette_opening {w : Option Nat} {access : Option RecordRef}
    (moved : t.cassette c = (openingView (s.cassette c, w)).1) : (finish s t none access).cassette c =
      if (s.cassette c).shutter.ajar then s.cassette c else { s.cassette c with shutter := .opening, mark := true } := by
  cases ajar : (s.cassette c).shutter.ajar with
  | true =>
    rw [finish_cassette_of_eq] <;> simp [moved, openingView, ajar]
  | false =>
    have still : (s.cassette c).shutter ≠ .opening := fun opening => by simp [Shutter.ajar, opening] at ajar
    have opens : t.cassette c = { s.cassette c with shutter := .opening } := by simp [moved, openingView, ajar]
    rw [finish_cassette_shutter opens still]
    simp

/-! ### The grant to an order -/

/-- The shutters of the cassettes that an order needs open. -/
def openNeeded (o : Order) (s : State) : State := forEach (fun c s => if 0 < o.need c then openShutter c s else s) s

theorem grantOrder_eq (i : OrderSlot) (o : Order) (s : State) : grantOrder i o s = openNeeded o
    (takeTransport (.order i) .picking o.nextEntry (s.modOrder i fun o => { o with state := .picking })) := rfl

theorem openNeeded_view (o : Order) (s : State) (c : CassetteId) :
    ((openNeeded o s).cassette c, (openNeeded o s).path.shutterTravel.get c) =
      if 0 < o.need c then openingView (s.cassette c, s.path.shutterTravel.get c)
      else (s.cassette c, s.path.shutterTravel.get c) := by
  refine forEach_at (fun s : State => (s.cassette c, s.path.shutterTravel.get c))
    (fun c s => if 0 < o.need c then openShutter c s else s) c (fun w => if 0 < o.need c then openingView w else w) ?_ ?_ s
  · intro k s apart
    split
    · exact openShutter_view_other apart s
    · rfl
  · intro s
    split
    · exact openShutter_view c s
    · rfl

theorem openNeeded_path (o : Order) (s : State) :
    (openNeeded o s).path = { s.path with shutterTravel := (openNeeded o s).path.shutterTravel } := by
  refine forEach_keeps (fun t => t.path = { s.path with shutterTravel := t.path.shutterTravel }) _ ?_ s rfl
  intro c t path
  dsimp only
  split
  · rw [openShutter_path, path]
  · exact path

theorem openNeeded_touches (cs : ∀ c, c ∈ f.cassettes) (p : f.path = true) (o : Order) (s : State) :
    Touches f s (openNeeded o s) :=
  .forEach (fun c s => by
    split
    · exact openShutter_touches (cs c) p s
    · exact .refl f s) s

theorem takeTransport_touches (p : f.path = true) (c : Claim) (st : PathState) (n : Option Nat) (s : State) :
    Touches f s (takeTransport c st n s) :=
  (dropClaim_touches p c s).trans (.modPath p _)

/-- What a grant to an order may change. -/
def grantRoom (i : OrderSlot) : Footprint := { cassettes := [0, 1, 2, 3, 4, 5], orders := [i], path := true }

theorem grantOrder_touches (i : OrderSlot) (o : Order) (s : State) : Touches (grantRoom i) s (grantOrder i o s) :=
  ((Touches.modOrder (List.mem_singleton.mpr rfl) _).trans (takeTransport_touches rfl _ _ _ _)).trans
    (openNeeded_touches mem_everyCassette rfl o _)

theorem grantOrder_order (order : s.order i = some o) : (grantOrder i o s).order i = some { o with state := .picking } := by
  have kept := ((openNeeded_touches (f := { cassettes := [0, 1, 2, 3, 4, 5], path := true }) mem_everyCassette rfl o
    (takeTransport (.order i) .picking o.nextEntry (s.modOrder i fun o => { o with state := .picking }))).orders
      i).resolve_left (by simp)
  rw [grantOrder_eq, kept]
  simp [takeTransport, dropClaim, order]

theorem grantOrder_view (i : OrderSlot) (o : Order) (s : State) (c : CassetteId) :
    ((grantOrder i o s).cassette c, (grantOrder i o s).path.shutterTravel.get c) =
      if 0 < o.need c then openingView (s.cassette c, s.path.shutterTravel.get c)
      else (s.cassette c, s.path.shutterTravel.get c) := by
  rw [grantOrder_eq, openNeeded_view]
  simp [takeTransport, dropClaim]

theorem grantOrder_path (i : OrderSlot) (o : Order) (s : State) : (grantOrder i o s).path = { s.path with
    state := .picking, holder := some (.order i), entry := o.nextEntry, misses := 0, shutterIdle := none
    queue := s.path.queue.filter (· != .order i), shutterTravel := (grantOrder i o s).path.shutterTravel } := by
  conv_lhs => rw [grantOrder_eq, openNeeded_path]
  simp [takeTransport, dropClaim, grantOrder_eq]

theorem grantOrder_travel (i : OrderSlot) (o : Order) (s : State) (c : CassetteId) :
    (grantOrder i o s).path.shutterTravel.get c =
      if 0 < o.need c ∧ ((s.cassette c).shutter = .shut ∨ (s.cassette c).shutter = .closing) then some shutterTravelTime
      else s.path.shutterTravel.get c := by
  have travel := congrArg Prod.snd (grantOrder_view i o s c)
  dsimp only at travel
  rw [travel, openingView]
  simp only [← Shutter.not_ajar_iff]
  by_cases needs : 0 < o.need c <;> cases ajar : (s.cassette c).shutter.ajar <;> simp [needs, ajar]

/-- A grant marks the cassettes whose shutters it opens. -/
theorem finish_cassette_granted {access : Option RecordRef} (moved : t.cassette c = (grantOrder i o s).cassette c) :
    (finish s t none access).cassette c =
      if 0 < o.need c ∧ ((s.cassette c).shutter = .shut ∨ (s.cassette c).shutter = .closing)
      then { s.cassette c with shutter := .opening, mark := true } else s.cassette c := by
  have cassette := congrArg Prod.fst (grantOrder_view i o s c)
  dsimp only at cassette
  simp only [← Shutter.not_ajar_iff]
  by_cases needs : 0 < o.need c
  · rw [if_pos needs] at cassette
    rw [finish_cassette_opening (moved.trans cassette)]
    cases ajar : (s.cassette c).shutter.ajar <;> simp [needs, ajar]
  · rw [if_neg needs] at cassette
    rw [finish_cassette_of_eq (moved.trans cassette)]
    simp [needs]

/-- The first attempt of a granted order begins at once if the shutter of its cassette stands OPEN (R84). -/
theorem beginAttempt_granted (order : s.order i = some o) : (beginAttempt (grantOrder i o s)).path =
    { (grantOrder i o s).path with
      attempt := s.path.attempt.or ((o.nextEntry.bind fun k => o.mix[k]?).bind fun e => s.freshAttempt e.slot) } := by
  have path := grantOrder_path i o s
  have target : (grantOrder i o s).pickTarget = ((o.nextEntry.bind fun n => o.mix[n]?).map (·.slot)) := by
    rw [pickTarget_of_order (by rw [path]) (by rw [path]) (grantOrder_order order), path]
  have fresh (c : CassetteId) : (grantOrder i o s).freshAttempt c = s.freshAttempt c := by
    refine (grantOrder_touches i o s).freshAttempt rfl rfl ?_
    have view := congrArg (fun w : Cassette × Option Nat => w.1.shutter = .opened) (grantOrder_view i o s c)
    dsimp only at view
    rw [view]
    split
    · rw [openingView_opened]
    · rfl
  have attempt : (grantOrder i o s).path.attempt = s.path.attempt := by rw [path]
  rw [beginAttempt_path, target, attempt]
  cases o.nextEntry.bind fun n => o.mix[n]? with
  | none => rfl
  | some e => simp [fresh]

/-! ### The grant to a leveling session -/

/-- The session goes to FETCHING and takes the transport (R37, R81). -/
def sessionGranted (c : CassetteId) (s : State) : State :=
  takeTransport (.leveling c) .leveling none (s.modCassette c fun r => { r with
    leveling := r.leveling.map fun v => { v with phase := .fetching } })

theorem grantLeveling_eq (c : CassetteId) (s : State) : grantLeveling c s = openShutter c (sessionGranted c s) := rfl

theorem sessionGranted_cassette (leveling : (s.cassette c).leveling = some v) : (sessionGranted c s).cassette c =
    { s.cassette c with leveling := some { v with phase := .fetching } } := by
  simp [sessionGranted, takeTransport, dropClaim, leveling]

theorem grantLeveling_touches (c : CassetteId) (s : State) :
    Touches { cassettes := [c], path := true } s (grantLeveling c s) :=
  ((Touches.modCassette (List.mem_singleton.mpr rfl) _).trans (takeTransport_touches rfl _ _ _ _)).trans
    (openShutter_touches (List.mem_singleton.mpr rfl) rfl _)

/-- The cassette of a granted session, whose shutter opens. -/
theorem grantLeveling_cassette (leveling : (s.cassette c).leveling = some v) : (grantLeveling c s).cassette c =
    { s.cassette c with
      leveling := some { v with phase := .fetching }
      shutter := if (s.cassette c).shutter = .shut ∨ (s.cassette c).shutter = .closing then .opening
        else (s.cassette c).shutter } := by
  rw [grantLeveling_eq, openShutter_eq, sessionGranted_cassette leveling]
  cases shutter : (s.cassette c).shutter <;> simp [Shutter.ajar, shutter, sessionGranted_cassette leveling]

theorem grantLeveling_path (leveling : (s.cassette c).leveling = some v) : (grantLeveling c s).path = { s.path with
    state := .leveling, holder := some (.leveling c), entry := none, misses := 0, shutterIdle := none
    queue := s.path.queue.filter (· != .leveling c)
    shutterTravel := if (s.cassette c).shutter = .shut ∨ (s.cassette c).shutter = .closing
      then tableSet s.path.shutterTravel c (some shutterTravelTime) else s.path.shutterTravel } := by
  have path : (sessionGranted c s).path = { s.path with
      state := .leveling, holder := some (.leveling c), entry := none, misses := 0, shutterIdle := none
      queue := s.path.queue.filter (· != .leveling c) } := by
    simp [sessionGranted, takeTransport, dropClaim]
  rw [grantLeveling_eq, openShutter_eq, sessionGranted_cassette leveling]
  cases shutter : (s.cassette c).shutter <;> simp [Shutter.ajar, shutter, path]

theorem beginAttempt_session (leveling : (s.cassette c).leveling = some v) : (beginAttempt (grantLeveling c s)).path =
    { (grantLeveling c s).path with attempt := s.path.attempt.or (s.freshAttempt c) } := by
  have path := grantLeveling_path leveling
  have cassette := grantLeveling_cassette leveling
  have target : (grantLeveling c s).pickTarget = some c :=
    pickTarget_of_session (v := { v with phase := .fetching }) (by rw [path]) (by rw [path]) (by rw [cassette]) rfl
  have fresh : (grantLeveling c s).freshAttempt c = s.freshAttempt c := by
    refine (grantLeveling_touches c s).freshAttempt rfl rfl ?_
    rw [cassette]
    cases (s.cassette c).shutter <;> simp
  have attempt : (grantLeveling c s).path.attempt = s.path.attempt := by rw [path]
  rw [beginAttempt_path, target, Option.bind_some, fresh, attempt]

/-! ### The choice of the arbiter -/

theorem grantee_of (free : s.path.state = .free) (mode : s.sup.mode = .active) (lockdown : s.lockdown = false)
    (pause : s.path.rejectPause = false) : s.grantee = s.path.queue.find? fun c => s.grantable c && s.serves c := by
  rw [State.grantee, if_pos]
  simp [State.mayGrant, free, mode, lockdown, pause]

theorem grantee_none (barred : s.path.state ≠ .free ∨ s.sup.mode ≠ .active ∨ s.lockdown = true ∨
    s.path.rejectPause = true ∨ s.path.queue.find? (fun c => s.grantable c && s.serves c) = none) :
    s.grantee = none := by
  unfold State.grantee
  split
  next may =>
    obtain ⟨⟨⟨free, mode⟩, lockdown⟩, pause⟩ : ((s.path.state = .free ∧ s.sup.mode = .active) ∧
      s.lockdown = false) ∧ s.path.rejectPause = false := by simpa [State.mayGrant] using may
    simpa [free, mode, lockdown, pause] using barred
  · rfl

/-- Settles O39: the arbiter grants the oldest grantable claim: an order goes PICKING, a leveling session FETCHING, and
the shutters open. -/
theorem grantTakesTheOldestGrantableClaim : Obligations.GrantTakesTheOldestGrantableClaim := by
  refine ⟨?_, ?_, ?_⟩
  case refine_1 =>
    intro i o s heeds free mode lockdown pause oldest order queued
    have grants : grant s = beginAttempt (grantOrder i o s) := by
      rw [grant, grantee_of free mode lockdown pause, oldest]
      simp only [order]
    have picks : (beginAttempt (grantOrder i o s)).order i = some { o with state := .picking } := by
      rw [((beginAttempt_touches (f := { path := true }) rfl _).orders i).resolve_left (by simp), grantOrder_order order]
    refine yields_of (event_heeded heeds) ?_
    rw [grants]
    refine ⟨eventLeaves_finish ((grantOrder_touches i o s).trans (beginAttempt_touches rfl _)), ?_, ?_, ?_, ?_⟩
    · have moved : orderMoved s (beginAttempt (grantOrder i o s)) none i = true := by
        simp [orderMoved, order, picks, Order.same, queued]
      rw [finish_order, moved, picks]
      rfl
    · rw [finish_path, beginAttempt_granted order, grantOrder_path]
    · intro c
      rw [finish_path, beginAttempt_granted order]
      exact grantOrder_travel i o s c
    · exact fun c => finish_cassette_granted (beginAttempt_cassette _ c)
  case refine_2 =>
    intro c v s heeds free mode lockdown pause oldest leveling waiting
    have grants : grant s = beginAttempt (grantLeveling c s) := by
      rw [grant, grantee_of free mode lockdown pause, oldest]
    have cassette : (beginAttempt (grantLeveling c s)).cassette c = _ :=
      (beginAttempt_cassette _ c).trans (grantLeveling_cassette leveling)
    refine yields_of (event_heeded heeds) ?_
    rw [grants]
    refine ⟨eventLeaves_finish ((grantLeveling_touches c s).trans (beginAttempt_touches rfl _)), ?_, ?_⟩
    · rw [finish_cassette_moved, cassette]
      rw [cassette]
      have moved : some { v with phase := .fetching } ≠ some v := fun same => by
        have phase := congrArg (fun w : Option Leveling => w.map (·.phase)) same
        simp [waiting] at phase
      simp [Cassette.same, leveling, Ne.symm moved]
    · rw [finish_path, beginAttempt_session leveling, grantLeveling_path leveling]
      rfl
  case refine_3 =>
    intro s heeds barred
    have still : grant s = s := by rw [grant, grantee_none barred]
    refine yields_of (event_heeded heeds) ?_
    rw [still]
    exact eventLeaves_finish (Touches.refl _ s)

end Sys2Proof.Machine
end

section
/-! The sessions that an event completes, and what the purge and the end of an aborted order leave. -/

namespace Sys2Proof.Machine
set_option Elab.async false

variable {s t u : State} {f : Footprint} {c k : CassetteId} {i : OrderSlot} {o : Order} {l : LaneId}
  {named access : Option RecordRef}

/-! ### The completion of sessions leaves all but the lanes alone -/

theorem completeSessions_alone (s : State) : Touches { closes := true } s (completeSessions s) :=
  completeSessions_touches rfl s

@[simp] theorem completeSessions_cassette (s : State) (c : CassetteId) : (completeSessions s).cassette c = s.cassette c :=
  ((completeSessions_alone s).cassettes c).resolve_left (by simp)

@[simp] theorem completeSessions_order (s : State) (i : OrderSlot) : (completeSessions s).order i = s.order i :=
  ((completeSessions_alone s).orders i).resolve_left (by simp)

@[simp] theorem completeSessions_zone (s : State) (z : ZoneId) : (completeSessions s).zone z = s.zone z :=
  ((completeSessions_alone s).zones z).resolve_left (by simp)

@[simp] theorem completeSessions_placement (s : State) : (completeSessions s).custody.placement = s.custody.placement :=
  (completeSessions_alone s).placement.resolve_left (by simp)

@[simp] theorem completeSessions_bins (s : State) : (completeSessions s).custody.bins = s.custody.bins :=
  (completeSessions_alone s).bins.resolve_left (by simp)

@[simp] theorem completeSessions_settings (s : State) : (completeSessions s).custody.settings = s.custody.settings :=
  (completeSessions_alone s).settings.resolve_left (by simp)

@[simp] theorem completeSessions_tripList (s : State) : (completeSessions s).custody.tripList = s.custody.tripList :=
  (completeSessions_alone s).trips.resolve_left (by simp)

@[simp] theorem completeSessions_path (s : State) : (completeSessions s).path = s.path :=
  (completeSessions_alone s).path.resolve_left (by simp)

@[simp] theorem completeSessions_alarm (s : State) : (completeSessions s).alarm = s.alarm :=
  (completeSessions_alone s).alarm.resolve_left (by simp)

@[simp] theorem completeSessions_sup (s : State) : (completeSessions s).sup = s.sup :=
  (completeSessions_alone s).sup.resolve_left (by simp)

@[simp] theorem completeSessions_laneWork (s : State) (l : LaneId) : (completeSessions s).laneWork l = s.laneWork l :=
  ((completeSessions_alone s).work l).resolve_left (by simp)

@[simp] theorem completeSessions_pauseDue (s : State) : (completeSessions s).pauseDue = s.pauseDue :=
  pauseDue_congr (by simp) (by simp)

/-! ### A lane at rest -/

/-- The completion of sessions changes nothing of a lane but its session. -/
theorem completeSessions_lane_rest (s : State) (l : LaneId) :
    (completeSessions s).lane l = { s.lane l with session := ((completeSessions s).lane l).session } := by
  rw [completeSessions_lane_eq, Lane.completed]
  cases (s.lane l).session <;> cases s.laneAtRest l <;> rfl

/-- Marks are no matter of the rest of a lane. -/
theorem finish_order_any (p : Order → Bool) (blind : ∀ o : Order, p { o with mark := true } = p o) (i : OrderSlot) :
    ((finish s t named access).order i).any p = (t.order i).any p := by
  rw [finish_order]
  split
  · cases t.order i <;> simp [blind]
  · rfl

/-- Nothing but its mark is changed of a lane at the end of an event. -/
theorem finish_lane_rest (l : LaneId) :
    (finish s t named access).lane l = { t.lane l with mark := ((finish s t named access).lane l).mark } := by
  rw [finish_lane]
  split <;> rfl

/-- The marks of an event are no matter of the rest of a lane. -/
theorem atRest_marks : AtRest (finish s t named access) l ↔ AtRest t l := by
  rw [AtRest, AtRest, finish_lane_rest]
  exact and_congr (forall_congr' fun i => by rw [finish_order_any _ fun _ => rfl]) Iff.rfl

/-- The completion of sessions is no matter of the rest of a lane. -/
theorem atRest_completeSessions : AtRest (completeSessions t) l ↔ AtRest t l := by
  rw [AtRest, AtRest, completeSessions_lane_rest]
  exact and_congr (forall_congr' fun i => by rw [completeSessions_order]) Iff.rfl

/-- A lane is at rest after the event when the event's own effect left it so. -/
theorem atRest_finish : AtRest (finish s (completeSessions t) named access) l ↔ AtRest t l :=
  atRest_marks.trans atRest_completeSessions

/-- An event that leaves the sessions alone, but for those it completes, settles them (R104). -/
theorem sessionSettles_finish (same : (t.lane l).session = (s.lane l).session) :
    SessionSettles s (finish u (completeSessions t) named access) l := by
  rw [SessionSettles, atRest_finish, finish_lane_rest, ← same]
  exact completeSessions_settles l t

theorem Touches.lane (h : Touches f s t) (lanes : f.lanes = []) (closes : f.closes = false) (l : LaneId) :
    t.lane l = s.lane l := by
  rcases h.lanes l with named | same | ⟨closes', -⟩
  · simp [lanes] at named
  · exact same
  · simp [closes] at closes'

/-- An event whose own effect touches no lane settles every session. -/
theorem sessionSettles_of_touches (h : Touches f s t) (lanes : f.lanes = []) (closes : f.closes = false) (l : LaneId) :
    SessionSettles s (finish u (completeSessions t) named access) l :=
  sessionSettles_finish (by rw [h.lane lanes closes])

/-- An event that closes a session for a cause leaves it CLOSED when its lane is at rest, and else CLOSING (R103, R104). -/
theorem sessionCloses_finish {cause : CloseCause} (closing : (t.lane l).session = .closing cause) :
    SessionCloses (finish s (completeSessions t) named access) l cause := by
  have settles := completeSessions_settles l t
  rw [SessionCloses, atRest_finish, finish_lane_rest]
  simpa [closing] using settles

/-! ### An order that is aborted in PICKING -/

/-- An order that holds the transport and is aborted before it has accepted a note. -/
theorem abortPicking_empty {r : Reason} (picking : s.pickingOrder = some (i, o)) (empty : o.acceptedTotal = 0) :
    abortPicking r s = releaseTransport (endOrder i (fun o => { o with state := .aborting, reason := some r }.endPurge)
      (releaseReservations i s)) := by
  rw [abortPicking, picking]
  exact if_pos empty

/-- An order that holds the transport and is aborted with accepted notes. -/
theorem abortPicking_notes {r : Reason} (picking : s.pickingOrder = some (i, o)) (notes : o.acceptedTotal ≠ 0) :
    abortPicking r s =
      ((releaseReservations i s).modOrder i fun o => { o with state := .aborting, reason := some r }).modPath
        NotePath.purged := by
  rw [abortPicking, picking]
  exact if_neg notes

/-- The order that is aborted: at its end without notes, and at the start of its purge with some (R68, R94). -/
def Order.aborted (r : Reason) (o : Order) : Order :=
  if o.acceptedTotal = 0 then
    { { o with state := .aborting, reason := some r }.endPurge with holdDeadline := none, presentDeadline := none }
  else { o with state := .aborting, reason := some r }

theorem abortPicking_order {r : Reason} (picking : s.pickingOrder = some (i, o)) :
    (abortPicking r s).order i = some (o.aborted r) := by
  have order := (pickingOrder_some picking).2.2
  unfold Order.aborted
  split
  next empty => simp [abortPicking_empty picking empty, releaseTransport, endOrder_order, order]
  next notes => simp [abortPicking_notes picking notes, order]

/-- The aborted order, when neither the session nor a lane lock is the reason. -/
theorem Order.aborted_eq {r : Reason} (session : r ≠ .sessionClosed) (lock : r ≠ .laneLock) (o : Order) :
    o.aborted r = if o.acceptedTotal = 0 then
      { o with
        state := .failed, reason := some r, unresolved := 0, holdDeadline := none, presentDeadline := none }
      else { o with state := .aborting, reason := some r } := by
  unfold Order.aborted
  split
  next empty =>
    have same : { o with state := .aborting, reason := some r }.acceptedTotal = o.acceptedTotal := rfl
    simp [Order.endPurge, session, lock, same, empty]
  · rfl

theorem abortPicking_cassette {r : Reason} (picking : s.pickingOrder = some (i, o)) (c : CassetteId) :
    (abortPicking r s).cassette c = { s.cassette c with reserved := (s.cassette c).reserved - o.need c } := by
  have released := releaseReservations_cassette (pickingOrder_some picking).2.2 c
  rw [← released]
  by_cases empty : o.acceptedTotal = 0
  · rw [abortPicking_empty picking empty]
    rfl
  · rw [abortPicking_notes picking empty]
    rfl

theorem abortPicking_placement {r : Reason} (picking : s.pickingOrder = some (i, o)) :
    (abortPicking r s).custody.placement =
      if o.acceptedTotal = 0 then s.custody.placement.filter (· != i) else s.custody.placement := by
  split
  next empty => simp [abortPicking_empty picking empty, releaseTransport]
  next notes => simp [abortPicking_notes picking notes]

theorem releaseReservations_settings (i : OrderSlot) (s : State) :
    (releaseReservations i s).custody.settings = s.custody.settings := by
  obtain ⟨v, e⟩ := releaseReservations_rest i s
  rw [e]

theorem abortPicking_path {r : Reason} (picking : s.pickingOrder = some (i, o)) : (abortPicking r s).path =
    if o.acceptedTotal = 0 then { s.path.freed s with queue := s.path.queue.filter (· != .order i) }
    else s.path.purged := by
  split
  next empty =>
    have settings : (endOrder i (fun o => { o with state := .aborting, reason := some r }.endPurge)
        (releaseReservations i s)).custody.settings = s.custody.settings := releaseReservations_settings i s
    rw [abortPicking_empty picking empty, releaseTransport, settings]
    simp [NotePath.freed, second]
  next notes => simp [abortPicking_notes picking notes]

/-- The aborted order alone changes. -/
theorem abortPicking_touches_one {r : Reason} (picking : s.pickingOrder = some (i, o)) (cs : ∀ c, c ∈ f.cassettes)
    (os : i ∈ f.orders) (pl : f.placement = true) (p : f.path = true) : Touches f s (abortPicking r s) := by
  by_cases empty : o.acceptedTotal = 0
  · rw [abortPicking_empty picking empty]
    exact ((releaseReservations_touches cs i s).trans (endOrder_touches os pl p _ _)).trans (releaseTransport_touches p _)
  · rw [abortPicking_notes picking empty]
    exact ((releaseReservations_touches cs i s).trans (.modOrder os _)).trans (.modPath p _)

end Sys2Proof.Machine
end

section
/-! The SHORT cascade: which holder fails, and what it leaves alone. -/

namespace Sys2Proof.Machine
set_option Elab.async false

variable {s t u : State} {c : CassetteId} {i j k : OrderSlot} {o p : Order} {list : List OrderSlot}

/-! ### One holder -/

/-- What a waiting order holds reserved. -/
theorem heldNeed_of_waits (order : s.order i = some o) (waits : o.state = .held ∨ o.state = .queued) :
    s.heldNeed c i = o.need c := by
  simp only [State.heldNeed, order]
  exact if_pos waits

theorem heldNeed_of_not_waits (order : s.order i = some o) (waits : ¬(o.state = .held ∨ o.state = .queued)) :
    s.heldNeed c i = 0 := by
  simp only [State.heldNeed, order]
  exact if_neg waits

theorem heldNeed_congr (same : t.order i = s.order i) : t.heldNeed c i = s.heldNeed c i := by
  simp only [State.heldNeed, same]

/-- A holder fails when it holds something of a cassette whose notes do not cover what is reserved (R32). -/
theorem failHolder_eq (c : CassetteId) (s : State) (i : OrderSlot) : failHolder c s i =
    if (s.cassette c).current < (s.cassette c).reserved ∧ 0 < s.heldNeed c i then stopOrder i .failed .short s else s := by
  unfold failHolder
  cases order : s.order i with
  | none => simp [State.heldNeed, order]
  | some o =>
    by_cases waits : o.state = .held ∨ o.state = .queued
    · simp [heldNeed_of_waits order waits, waits]
    · simp [heldNeed_of_not_waits order waits, waits]

theorem failHolder_order_other (apart : k ≠ i) (c : CassetteId) (s : State) : (failHolder c s i).order k = s.order k := by
  rw [failHolder_eq]
  split
  · exact stopOrder_order_other apart _ _ s
  · rfl

theorem failHolder_current (c k : CassetteId) (s : State) (i : OrderSlot) :
    ((failHolder c s i).cassette k).current = (s.cassette k).current :=
  (failHolder_cassette c k s i).1

/-- What is reserved is short after the turn of a holder just as it would be without what the holder held. -/
theorem failHolder_short (c : CassetteId) (s : State) (i : OrderSlot) (later : Nat) :
    (s.cassette c).current < ((failHolder c s i).cassette c).reserved - later ↔
      (s.cassette c).current < (s.cassette c).reserved - (s.heldNeed c i + later) := by
  rw [failHolder_eq]
  split
  next fails =>
    cases order : s.order i with
    | none => simp [State.heldNeed, order] at fails
    | some o =>
      have held : s.heldNeed c i = o.need c := by
        by_contra other
        refine absurd fails.2 ?_
        rw [heldNeed_of_not_waits order fun waits => other (heldNeed_of_waits order waits)]
        exact lt_irrefl 0
      rw [stopOrder_cassette order, held]
      dsimp only
      omega
  next stands => omega

/-! ### A passage through holders -/

theorem foldl_failHolder_current (c k : CassetteId) : ∀ (list : List OrderSlot) (s : State),
    ((list.foldl (failHolder c) s).cassette k).current = (s.cassette k).current
  | [], _ => rfl
  | i :: list, s => (foldl_failHolder_current c k list _).trans (failHolder_current c k s i)

theorem foldl_failHolder_order (c : CassetteId) : ∀ (list : List OrderSlot) (s : State), k ∉ list →
    (list.foldl (failHolder c) s).order k = s.order k
  | [], _, _ => rfl
  | i :: list, s, out => by
    rw [List.mem_cons, not_or] at out
    obtain ⟨apart, out⟩ := out
    exact (foldl_failHolder_order c list _ out).trans (failHolder_order_other apart c s)

/-- An order that does not wait is passed over. -/
theorem foldl_failHolder_order_still (c : CassetteId) (list : List OrderSlot) (order : s.order k = some o)
    (still : ¬(o.state = .held ∨ o.state = .queued)) : (list.foldl (failHolder c) s).order k = some o := by
  induction list generalizing s with
  | nil => exact order
  | cons i list ih =>
    refine ih ?_
    by_cases here : k = i
    · subst here
      rw [failHolder_eq, heldNeed_of_not_waits order still]
      simpa using order
    · rw [failHolder_order_other here, order]

/-- After a passage what is reserved is short just as it would be without what the holders held. -/
theorem foldl_failHolder_short (c : CassetteId) : ∀ (list : List OrderSlot) (s : State), list.Nodup →
    ((s.cassette c).current < ((list.foldl (failHolder c) s).cassette c).reserved ↔
      (s.cassette c).current < (s.cassette c).reserved - (list.map (s.heldNeed c)).sum)
  | [], s, _ => by simp
  | i :: list, s, once => by
    obtain ⟨out, once⟩ := List.nodup_cons.mp once
    have later := foldl_failHolder_short c list (failHolder c s i) once
    have same : list.map ((failHolder c s i).heldNeed c) = list.map (s.heldNeed c) :=
      List.map_congr_left fun k m => heldNeed_congr (failHolder_order_other (fun e => out (by rwa [← e])) c s)
    rw [failHolder_current, same, failHolder_short] at later
    simpa using later

/-- A passage shrinks the placement order. -/
theorem foldl_failHolder_placement (c : CassetteId) : ∀ (list : List OrderSlot) (s : State),
    k ∈ (list.foldl (failHolder c) s).custody.placement → k ∈ s.custody.placement
  | [], _, m => m
  | i :: list, s, m => by
    have before := foldl_failHolder_placement c list _ m
    rw [failHolder_eq] at before
    split at before
    · rw [stopOrder_placement] at before
      exact (List.mem_filter.mp before).1
    · exact before

/-- A passage changes nothing of the transport but its queue. -/
theorem foldl_failHolder_path (c : CassetteId) : ∀ (list : List OrderSlot) (s : State),
    (list.foldl (failHolder c) s).path = { s.path with queue := (list.foldl (failHolder c) s).path.queue }
  | [], _ => rfl
  | i :: list, s => by
    have turn : (failHolder c s i).path = { s.path with queue := (failHolder c s i).path.queue } := by
      rw [failHolder_eq]
      split
      · simp [stopOrder]
      · rfl
    have later := foldl_failHolder_path c list (failHolder c s i)
    rw [turn] at later
    exact later

theorem foldl_failHolder_cassette (c k : CassetteId) : ∀ (list : List OrderSlot) (s : State),
    (list.foldl (failHolder c) s).cassette k =
      { s.cassette k with reserved := ((list.foldl (failHolder c) s).cassette k).reserved }
  | [], _ => rfl
  | i :: list, s => by
    have turn : (failHolder c s i).cassette k =
        { s.cassette k with reserved := ((failHolder c s i).cassette k).reserved } := by
      rw [failHolder_eq]
      split
      next fails =>
        cases order : s.order i with
        | none => simp [State.heldNeed, order] at fails
        | some o => rw [stopOrder_cassette order]
      · rfl
    have later := foldl_failHolder_cassette c k list (failHolder c s i)
    rw [turn] at later
    exact later

/-! ### The fate of one holder -/

/-- A holder that the cascade fails (R32). -/
def Order.failedShort (o : Order) : Order :=
  { o with state := .failed, reason := some .short, holdDeadline := none, presentDeadline := none }

/-- The cascade as it passes a waiting holder: the younger holders come first, and the holder fails exactly when the notes
do not cover what is reserved without them. -/
theorem cascade_fate {older younger : List OrderSlot} (list : s.custody.placement = older ++ j :: younger)
    (once : s.custody.placement.Nodup) (order : s.order j = some p) (waits : p.state = .held ∨ p.state = .queued)
    (needs : 0 < p.need c) :
    if (s.cassette c).current < (s.cassette c).reserved - (younger.map (s.heldNeed c)).sum
    then (s.custody.placement.reverse.foldl (failHolder c) s).order j = some p.failedShort ∧
      j ∉ (s.custody.placement.reverse.foldl (failHolder c) s).custody.placement
    else (s.custody.placement.reverse.foldl (failHolder c) s).order j = some p := by
  rw [list] at once
  obtain ⟨-, tail, apart⟩ := List.nodup_append.mp once
  obtain ⟨outYounger, onceYounger⟩ := List.nodup_cons.mp tail
  have outOlder : j ∉ older.reverse := fun m => apart j (List.mem_reverse.mp m) j (by simp) rfl
  have passage : s.custody.placement.reverse.foldl (failHolder c) s =
      older.reverse.foldl (failHolder c) (failHolder c (younger.reverse.foldl (failHolder c) s) j) := by
    rw [list]
    simp
  rw [passage]
  have reached : (younger.reverse.foldl (failHolder c) s).order j = some p :=
    (foldl_failHolder_order c _ s (by simpa using outYounger)).trans order
  have short := foldl_failHolder_short c younger.reverse s (List.nodup_reverse.mpr onceYounger)
  have still := foldl_failHolder_current c c younger.reverse s
  rw [List.map_reverse, List.sum_reverse, ← still] at short
  have held := heldNeed_of_waits (c := c) reached waits
  rw [← still]
  generalize younger.reverse.foldl (failHolder c) s = t at *
  simp only [← short]
  split
  next lacks =>
    have fails : failHolder c t j = stopOrder j .failed .short t := by
      rw [failHolder_eq, held]
      exact if_pos ⟨lacks, needs⟩
    refine ⟨?_, fun m => ?_⟩
    · rw [foldl_failHolder_order c _ _ outOlder, fails, stopOrder_order reached]
      rfl
    · have placed := foldl_failHolder_placement c _ _ m
      rw [fails, stopOrder_placement] at placed
      simp at placed
  next covers =>
    have stands : failHolder c t j = t := by
      rw [failHolder_eq]
      exact if_neg fun fails => covers fails.1
    rw [foldl_failHolder_order c _ _ outOlder, stands, reached]

/-- What the younger holders hold, read off the placement order. -/
theorem youngerNeed_eq {older younger : List OrderSlot} (list : s.custody.placement = older ++ j :: younger)
    (once : s.custody.placement.Nodup) : s.youngerNeed c j = (younger.map (s.heldNeed c)).sum := by
  rw [list] at once
  have out : j ∉ older := fun m => (List.nodup_append.mp once).2.2 j m j (by simp) rfl
  rw [State.youngerNeed, list, List.idxOf_append_of_notMem out, List.idxOf_cons_self, Nat.add_zero]
  simp

/-! ### The cascade -/

theorem shortCascade_eq (c : CassetteId) (s : State) :
    shortCascade c s = (abortShort c s).custody.placement.reverse.foldl (failHolder c) (abortShort c s) := rfl

theorem abortShort_of_covered (covered : (s.cassette c).reserved ≤ (s.cassette c).current) : abortShort c s = s := by
  unfold abortShort
  split
  · exact if_neg fun short => absurd short.1 (Nat.not_lt.mpr covered)
  · rfl

theorem abortShort_of_sated (picking : s.pickingOrder = some (i, o)) (sated : o.need c ≤ (s.cassette c).current) :
    abortShort c s = s := by
  rw [abortShort, picking]
  exact if_neg fun short => absurd short.2 (Nat.not_lt.mpr sated)

theorem abortShort_of_done (done : s.pickingOrder = none) : abortShort c s = s := by
  rw [abortShort, done]

theorem abortShort_of_short (picking : s.pickingOrder = some (i, o))
    (short : (s.cassette c).current < (s.cassette c).reserved) (needs : (s.cassette c).current < o.need c) :
    abortShort c s = abortPicking .short s := by
  rw [abortShort, picking]
  exact if_pos ⟨short, needs⟩

/-- A cassette whose notes cover what is reserved lets every order stand. -/
theorem shortCascade_of_covered (covered : (s.cassette c).reserved ≤ (s.cassette c).current) : shortCascade c s = s := by
  rw [shortCascade_eq, abortShort_of_covered covered]
  generalize s.custody.placement.reverse = list
  induction list with
  | nil => rfl
  | cons i list ih =>
    have turn : failHolder c s i = s := by
      rw [failHolder_eq]
      exact if_neg fun short => absurd short.1 (Nat.not_lt.mpr covered)
    rw [List.foldl_cons, turn, ih]

/-- An order that does not wait after the first step of the cascade is left as it is then. -/
theorem shortCascade_order_still (order : (abortShort c s).order k = some o)
    (still : ¬(o.state = .held ∨ o.state = .queued)) : (shortCascade c s).order k = some o :=
  foldl_failHolder_order_still c _ order still

theorem shortCascade_path (c : CassetteId) (s : State) :
    (shortCascade c s).path = { (abortShort c s).path with queue := (shortCascade c s).path.queue } :=
  foldl_failHolder_path c _ _

theorem shortCascade_cassette (c k : CassetteId) (s : State) : (shortCascade c s).cassette k =
    { (abortShort c s).cassette k with reserved := ((shortCascade c s).cassette k).reserved } :=
  foldl_failHolder_cassette c k _ _

theorem shortCascade_placement (m : k ∈ (shortCascade c s).custody.placement) : k ∈ (abortShort c s).custody.placement :=
  foldl_failHolder_placement c _ _ m

/-- The fate of a waiting holder in a cascade whose first step took at most the picking order out of the placement
order. -/
theorem shortCascade_fate (once : s.custody.placement.Nodup) (placed : j ∈ s.custody.placement)
    (first : (abortShort c s).custody.placement = s.custody.placement ∨
      ∃ i, (abortShort c s).custody.placement = s.custody.placement.filter (· != i) ∧ i ≠ j ∧ s.heldNeed c i = 0)
    (same : ∀ k, (abortShort c s).heldNeed c k = s.heldNeed c k)
    (order : (abortShort c s).order j = some p) (waits : p.state = .held ∨ p.state = .queued) (needs : 0 < p.need c) :
    if ((abortShort c s).cassette c).current < ((abortShort c s).cassette c).reserved - s.youngerNeed c j
    then (shortCascade c s).order j = some p.failedShort ∧ j ∉ (shortCascade c s).custody.placement
    else (shortCascade c s).order j = some p := by
  obtain ⟨older, younger, list⟩ := List.append_of_mem placed
  have need : s.youngerNeed c j = (younger.map (s.heldNeed c)).sum := youngerNeed_eq list once
  have heldNeed : (abortShort c s).heldNeed c = s.heldNeed c := funext same
  rcases first with whole | ⟨i, less, apart, idle⟩
  · have fate := cascade_fate (whole.trans list) (whole ▸ once) order waits needs
    rwa [heldNeed, ← need] at fate
  · have filtered : (abortShort c s).custody.placement =
        older.filter (· != i) ++ j :: younger.filter (· != i) := by
      rw [less, list, List.filter_append, List.filter_cons, if_pos (by simpa using Ne.symm apart)]
    have fate := cascade_fate filtered (less ▸ once.filter _) order waits needs
    have sum : ((younger.filter (· != i)).map (s.heldNeed c)).sum = (younger.map (s.heldNeed c)).sum := by
      clear list need fate filtered
      induction younger with
      | nil => rfl
      | cons k younger ih =>
        by_cases here : k = i
        · subst here
          simpa [idle] using ih
        · simpa [here] using ih
    rwa [heldNeed, sum, ← need] at fate

end Sys2Proof.Machine
end

section
/-! A note at the gauge for a leveling session, and the pick window that expires. -/

namespace Sys2Proof.Machine
set_option Elab.async false

variable {s t : State} {f : Footprint} {c : CassetteId} {i j k : OrderSlot} {o p : Order} {v : Leveling} {a : Attempt}

/-! ### A note for a leveling session -/

/-- A note is acted on at the gauge outside phase SETTLE. -/
theorem noteReachesGauge_heeded {g : Reading} (heeds : s.heeds = true) :
    exec (.noteReachesGauge g) s = .next (finish s (noteAtGauge g.val s) none none) := by
  have awake : s.sup.phase ≠ some .settle := by simpa [State.heeds] using heeds
  exact (if_neg awake).trans (event_heeded heeds)

/-- The note stands at the gauge, and the session holds it (R37). -/
def noteHeld (c : CassetteId) (g : Nat) (s : State) : State :=
  (s.modCassette c fun r => { r with leveling := r.leveling.map fun v => { v with phase := .holding } }).modPath fun p =>
    { p with attempt := none, misses := 0, heldReading := some g, levelingIdle := some levelingIdleTime }

theorem noteAtGauge_leveling (g : Nat) (state : s.path.state = .leveling) (holder : s.path.holder = some (.leveling c))
    (leveling : (s.cassette c).leveling = some v) (fetching : v.phase = .fetching) (attempt : s.path.attempt = some a) :
    noteAtGauge g s = if a.last then endLeveling c (noteHeld c g s) else noteHeld c g s := by
  have none : s.pickingOrder = none := by rw [State.pickingOrder, state]
  rw [noteAtGauge, attempt, none, state, pickTarget_of_session state holder leveling fetching]
  rfl

theorem noteHeld_touches (cs : c ∈ f.cassettes) (p : f.path = true) (g : Nat) (s : State) : Touches f s (noteHeld c g s) :=
  (Touches.modCassette cs _).trans (.modPath p _)

theorem noteHeld_cassette (leveling : (s.cassette c).leveling = some v) (g : Nat) :
    (noteHeld c g s).cassette c = { s.cassette c with leveling := some { v with phase := .holding } } := by
  simp [noteHeld, leveling]

/-- Settles O42: a note that reaches the gauge for a leveling session in FETCHING is held unclassified; from the last
attempt it is spent. -/
theorem gaugeHoldsTheLevelingNote : Obligations.GaugeHoldsTheLevelingNote := by
  refine ⟨?_, ?_⟩
  case refine_1 =>
    intro g c v a s heeds state holder leveling fetching attempt last
    refine yields_of (noteReachesGauge_heeded heeds) ?_
    rw [noteAtGauge_leveling g.val state holder leveling fetching attempt, if_neg (by simp [last])]
    refine ⟨eventLeaves_finish (noteHeld_touches (by simp) rfl _ _), ?_, by simp [noteHeld, levelingIdleTime]⟩
    have moved : some { v with phase := .holding } ≠ some v := fun same => by
      have phase := congrArg (fun w : Option Leveling => w.map (·.phase)) same
      simp [fetching] at phase
    rw [finish_cassette_moved, noteHeld_cassette leveling]
    rw [noteHeld_cassette leveling]
    simp [Cassette.same, leveling, Ne.symm moved]
  case refine_2 =>
    intro g c v a s heeds state holder leveling fetching attempt last
    refine yields_of (noteReachesGauge_heeded heeds) ?_
    rw [noteAtGauge_leveling g.val state holder leveling fetching attempt, if_pos last]
    have held : (noteHeld c g.val s).holdsNote c = true := by simp [State.holdsNote, noteHeld, holder]
    have ended : (endLeveling c (noteHeld c g.val s)).cassette c =
        { (s.cassette c).spent true |>.returned with leveling := none } := by
      rw [endLeveling_cassette, if_pos rfl, held, noteHeld_cassette leveling, spent_returned, spent_returned]
    refine ⟨eventLeaves_finish ((noteHeld_touches (by simp) rfl _ _).trans (endLeveling_touches (by simp) rfl rfl _)),
      ?_, ?_, ?_⟩
    · rw [finish_cassette_moved, ended, spent_returned]
      rw [ended, spent_returned]
      simp [Cassette.same]
    · rw [finish_bins, endLeveling_bins, held]
      rfl
    · rw [finish_path, finish_pauseDue,
        endLeveling_path_spent (by simpa [noteHeld] using holder) (by simp [noteHeld])]
      simp [noteHeld, NotePath.freed]

/-! ### The pick window of an order -/

theorem pickWindowExpiry_picking (state : s.path.state = .picking) (target : s.pickTarget = some c)
    (attempt : s.path.attempt = some a) : pickWindowExpiry s =
      completeSessions (if a.last then abortPicking .lockdown (attemptOver s) else missOrder c s) := by
  rw [pickWindowExpiry, attempt, state, target]

theorem pickWindowExpiry_leveling (state : s.path.state = .leveling) (target : s.pickTarget = some c)
    (attempt : s.path.attempt = some a) : pickWindowExpiry s =
      if a.last then endLeveling c (attemptOver s)
      else if a.noMiss then beginAttempt (attemptOver s) else missLeveling c s := by
  rw [pickWindowExpiry, attempt, state, target]

/-- A miss is counted, and the next attempt may begin (R85). -/
def missed (n : Nat) (s : State) : State := (attemptOver s).modPath fun p => { p with misses := n }

theorem missed_target (n : Nat) (s : State) : (missed n s).pickTarget = s.pickTarget :=
  pickTarget_congr (by simp [missed, attemptOver]) (by simp [missed, attemptOver]) (by simp [missed, attemptOver])

theorem missed_touches (p : f.path = true) (n : Nat) (s : State) : Touches f s (missed n s) :=
  (Touches.modPath p _).trans (.modPath p _)

theorem missed_next (n : Nat) (target : s.pickTarget = some c) :
    (beginAttempt (missed n s)).path = { s.path with misses := n, attempt := s.freshAttempt c } := by
  have fresh : (missed n s).freshAttempt c = s.freshAttempt c :=
    (missed_touches (f := { path := true }) rfl n s).freshAttempt rfl rfl (by simp [missed, attemptOver])
  rw [beginAttempt_path, missed_target, target, Option.bind_some, fresh]
  simp [missed, attemptOver]

theorem attemptOver_picking (picking : s.pickingOrder = some (i, o)) : (attemptOver s).pickingOrder = some (i, o) := by
  obtain ⟨state, holder, order⟩ := pickingOrder_some picking
  exact pickingOrder_of state holder order

/-- The cassette of which the whole count is written off. -/
def Cassette.writtenOut (r : Cassette) : Cassette :=
  { r.lower r.current with writtenOff := r.writtenOff + r.current, state := .empty }

/-- The third miss in a row: the attempt is over and the cassette is written off (R27). -/
def thirdMiss (c : CassetteId) (s : State) : State := writeOff c (attemptOver s)

theorem thirdMiss_cassette (c d : CassetteId) (s : State) :
    (thirdMiss c s).cassette d = if c = d then (s.cassette d).writtenOut else s.cassette d :=
  State.modCassette_cassette (attemptOver s) c Cassette.writtenOut d

theorem thirdMiss_touches (cs : c ∈ f.cassettes) (p : f.path = true) (s : State) : Touches f s (thirdMiss c s) :=
  (Touches.modPath p _).trans (writeOff_touches cs _)

theorem thirdMiss_picking (picking : s.pickingOrder = some (i, o)) : (thirdMiss c s).pickingOrder = some (i, o) :=
  attemptOver_picking picking

theorem pickWindowExpiry_third (state : s.path.state = .picking) (target : s.pickTarget = some c)
    (attempt : s.path.attempt = some a) (last : a.last = false) (misses : s.path.misses = 2) :
    pickWindowExpiry s = completeSessions (shortCascade c (thirdMiss c s)) := by
  rw [pickWindowExpiry_picking state target attempt, last, missOrder, if_pos misses]
  rfl

/-- The third miss aborts the order that is picked, since it still needs notes from the cassette (R27, R32). -/
theorem abortShort_thirdMiss (picking : s.pickingOrder = some (i, o)) (needs : 0 < o.need c)
    (reserved : 0 < (s.cassette c).reserved) : abortShort c (thirdMiss c s) = abortPicking .short (thirdMiss c s) := by
  have empty : ((thirdMiss c s).cassette c).current = 0 := by
    rw [thirdMiss_cassette, if_pos rfl]
    simp [Cassette.writtenOut, Cassette.lower]
  have held : ((thirdMiss c s).cassette c).reserved = (s.cassette c).reserved := by
    rw [thirdMiss_cassette, if_pos rfl]
    rfl
  exact abortShort_of_short (thirdMiss_picking picking) (by rw [empty, held]; exact reserved) (by rw [empty]; exact needs)

/-- The state of an aborted order, when neither the session nor a lane lock is the reason. -/
theorem Order.aborted_state {r : Reason} (session : r ≠ .sessionClosed) (lock : r ≠ .laneLock) (o : Order) :
    (o.aborted r).state = .failed ∨ (o.aborted r).state = .aborting := by
  rw [Order.aborted_eq session lock]
  split <;> simp

theorem Order.aborted_mark (r : Reason) (o : Order) : (o.aborted r).mark = o.mark := by
  unfold Order.aborted
  split <;> rfl

theorem Order.aborted_still {r : Reason} (session : r ≠ .sessionClosed) (lock : r ≠ .laneLock) (o : Order) :
    ¬((o.aborted r).state = .held ∨ (o.aborted r).state = .queued) := by
  rcases Order.aborted_state session lock o with state | state <;> simp [state]

theorem Order.aborted_not_picking {r : Reason} (session : r ≠ .sessionClosed) (lock : r ≠ .laneLock) (o : Order) :
    (o.aborted r).state ≠ .picking := by
  rcases Order.aborted_state session lock o with state | state <;> simp [state]

/-- The order that was picked is marked when it is aborted. -/
theorem finish_order_aborted {q : Order} {r : Reason} (order : s.order i = some o) (picks : o.state = .picking)
    (ends : t.order i = some (q.aborted r)) (mark : q.mark = o.mark) (session : r ≠ .sessionClosed)
    (lock : r ≠ .laneLock) : (finish s t none none).order i = some (if q.acceptedTotal = 0 then
      { q with
        state := .failed, reason := some r, unresolved := 0, holdDeadline := none, presentDeadline := none, mark := true }
      else { q with state := .aborting, reason := some r, mark := true }) := by
  rw [finish_order_moved order ends ((Order.aborted_mark r q).trans mark)
    (by rw [picks]; exact Order.aborted_not_picking session lock q), Order.aborted_eq session lock]
  split <;> rfl

theorem failedShort_moved (waits : p.state = .held ∨ p.state = .queued) : p.failedShort.state ≠ p.state := by
  rcases waits with waits | waits <;> simp [Order.failedShort, waits]

/-- Of the placement order, the abort of the order that is picked takes at most that order. -/
theorem abortPicking_first {r : Reason} (picking : s.pickingOrder = some (i, o)) (picks : o.state = .picking)
    (apart : i ≠ j) : (abortPicking r s).custody.placement = s.custody.placement ∨
      ∃ i, (abortPicking r s).custody.placement = s.custody.placement.filter (· != i) ∧ i ≠ j ∧
        s.heldNeed c i = 0 := by
  rw [abortPicking_placement picking]
  split
  · exact .inr ⟨i, rfl, apart, heldNeed_of_not_waits (pickingOrder_some picking).2.2 (by simp [picks])⟩
  · exact .inl rfl

theorem abortPicking_order_other {r : Reason} (picking : s.pickingOrder = some (i, o)) (apart : k ≠ i) :
    (abortPicking r s).order k = s.order k :=
  ((abortPicking_touches_one (f := { cassettes := positions _, orders := [i], placement := true, path := true }) picking
    mem_positions (by simp) rfl rfl).orders k).resolve_left (by simp [apart])

/-- An abort leaves what every waiting order holds. -/
theorem abortPicking_heldNeed {r : Reason} (picking : s.pickingOrder = some (i, o)) (picks : o.state = .picking)
    (session : r ≠ .sessionClosed) (lock : r ≠ .laneLock) (k : OrderSlot) :
    (abortPicking r s).heldNeed c k = s.heldNeed c k := by
  by_cases here : k = i
  · subst here
    rw [heldNeed_of_not_waits (abortPicking_order picking) (Order.aborted_still session lock o),
      heldNeed_of_not_waits (pickingOrder_some picking).2.2 (by simp [picks])]
  · exact heldNeed_congr (abortPicking_order_other picking here)

/-! ### The third miss -/

/-- A cascade that aborts the picked order SHORT: the order, and the transport but for its queue (R32, R68). -/
theorem shortCascade_aborts (picking : s.pickingOrder = some (i, o)) (first : abortShort c s = abortPicking .short s) :
    (shortCascade c s).order i = some (o.aborted .short) ∧
      (shortCascade c s).path = { (if o.acceptedTotal = 0 then s.path.freed s else s.path.purged) with
        queue := (shortCascade c s).path.queue } := by
  refine ⟨?_, ?_⟩
  · refine shortCascade_order_still ?_ (Order.aborted_still (by decide) (by decide) o)
    rw [first, abortPicking_order picking]
  · conv_lhs => rw [shortCascade_path, first, abortPicking_path picking]
    split <;> rfl

/-- The cassette of a third miss, but for what is reserved. -/
theorem thirdMiss_writes_off (picking : s.pickingOrder = some (i, o)) (needs : 0 < o.need c)
    (reserved : 0 < (s.cassette c).reserved) : (shortCascade c (thirdMiss c s)).cassette c =
      { (s.cassette c).writtenOut with reserved := ((shortCascade c (thirdMiss c s)).cassette c).reserved } := by
  conv_lhs => rw [shortCascade_cassette, abortShort_thirdMiss picking needs reserved,
    abortPicking_cassette (thirdMiss_picking picking), thirdMiss_cassette, if_pos rfl]

/-- Settles O43: an expired pick window is a miss; the third in a row writes the cassette off and ends the pick. -/
theorem missesAndWriteOff : Obligations.MissesAndWriteOff := by
  refine ⟨?_, ?_, ?_, ?_, ?_, ?_, ?_⟩
  case refine_1 =>
    intro i o c a s heeds state holder order target attempt last misses
    refine yields_of (event_heeded heeds) ?_
    have counts : pickWindowExpiry s = completeSessions (beginAttempt (missed (s.path.misses + 1) s)) := by
      rw [pickWindowExpiry_picking state target attempt, last, missOrder, if_neg misses]
      rfl
    rw [counts]
    refine ⟨eventLeaves_finish (((missed_touches rfl _ s).trans (beginAttempt_touches rfl _)).trans
      (completeSessions_touches rfl _)), sessionSettles_of_touches ((missed_touches (f := { path := true }) rfl _ s).trans
        (beginAttempt_touches rfl _)) rfl rfl, ?_, ?_⟩
    · rw [finish_path, completeSessions_path, missed_next _ target]
    · rw [finish_path, completeSessions_path, missed_next _ target]
  case refine_2 =>
    intro i o c a s heeds state holder order picks target attempt last misses needs held notes
    have picking := pickingOrder_of state holder order
    have reserved : 0 < (s.cassette c).reserved := needs.trans_le held
    obtain ⟨ends, path⟩ := shortCascade_aborts (thirdMiss_picking picking) (abortShort_thirdMiss picking needs reserved)
    have written := thirdMiss_writes_off picking needs reserved
    refine yields_of (event_heeded heeds) ?_
    rw [pickWindowExpiry_third state target attempt last misses]
    have moved : (s.cassette c).same ((completeSessions (shortCascade c (thirdMiss c s))).cassette c) = false := by
      rw [completeSessions_cassette, written]
      have other : (s.cassette c).current ≠ 0 := Nat.ne_of_gt notes
      simp [Cassette.same, Cassette.writtenOut, Cassette.lower, other]
    rw [finish_cassette_moved moved, completeSessions_cassette, written, finish_path, completeSessions_path, path,
      finish_order_aborted order picks (by rw [completeSessions_order, ends]) rfl (by decide) (by decide)]
    refine ⟨by simp [Cassette.writtenOut, Cassette.lower], rfl, rfl, rfl, ?_⟩
    split <;> simp [NotePath.freed, NotePath.purged]
  case refine_3 =>
    intro i j o p c a s heeds state holder order picks target attempt last misses needs reserved waiting apart waits holds
      placed once
    have picking := pickingOrder_of state holder order
    have aborts := thirdMiss_picking (c := c) picking
    have first := abortShort_thirdMiss picking needs reserved
    have fate := shortCascade_fate (s := thirdMiss c s) (c := c) (j := j) (p := p) once placed
      (by rw [first]; exact abortPicking_first aborts picks (Ne.symm apart))
      (by rw [first]; exact abortPicking_heldNeed aborts picks (by decide) (by decide))
      (by rw [first, abortPicking_order_other aborts apart]; exact waiting) waits holds
    rw [first, abortPicking_cassette aborts, thirdMiss_cassette, if_pos rfl] at fate
    have younger : (thirdMiss c s).youngerNeed c j = s.youngerNeed c j := rfl
    have short : (s.cassette c).writtenOut.current < (s.cassette c).writtenOut.reserved - o.need c - s.youngerNeed c j ↔
        o.need c + s.youngerNeed c j < (s.cassette c).reserved := by
      simp only [Cassette.writtenOut, Cassette.lower]
      omega
    simp only [younger, short] at fate
    refine yields_of (event_heeded heeds) ?_
    rw [pickWindowExpiry_third state target attempt last misses]
    split
    next lacks =>
      rw [if_pos lacks] at fate
      rw [finish_order_moved (q := p.failedShort) waiting (by rw [completeSessions_order, fate.1]) rfl
        (failedShort_moved waits)]
      exact ⟨rfl, by simpa using fate.2⟩
    next covers =>
      rw [if_neg covers] at fate
      rw [finish_order_of_eq (by rw [completeSessions_order, fate, waiting]), waiting]
  case refine_4 =>
    intro c v a s heeds state holder leveling fetching attempt last misses
    have target := pickTarget_of_session state holder leveling fetching
    refine yields_of (event_heeded heeds) ?_
    have counts : pickWindowExpiry s =
        beginAttempt (missed (if a.noMiss then s.path.misses else s.path.misses + 1) s) := by
      rw [pickWindowExpiry_leveling state target attempt, last]
      cases noMiss : a.noMiss with
      | true => rfl
      | false =>
        have few : s.path.misses ≠ 2 := by simpa [noMiss] using misses
        simp only [missLeveling, if_neg few]
        rfl
    rw [counts]
    refine ⟨eventLeaves_finish ((missed_touches rfl _ s).trans (beginAttempt_touches rfl _)), ?_⟩
    rw [finish_path, missed_next _ target]
  case refine_5 =>
    intro c v a s heeds state holder leveling fetching attempt last noMiss misses reading
    have target := pickTarget_of_session state holder leveling fetching
    refine yields_of (event_heeded heeds) ?_
    have ends : pickWindowExpiry s = endLeveling c (thirdMiss c s) := by
      rw [pickWindowExpiry_leveling state target attempt, last, noMiss]
      simp only [missLeveling, if_pos misses]
      rfl
    have held : (thirdMiss c s).holdsNote c = false := by simp [State.holdsNote, thirdMiss, writeOff, attemptOver, reading]
    rw [ends]
    refine ⟨eventLeaves_finish ((thirdMiss_touches (by simp) rfl s).trans
      (endLeveling_noteless_touches (by simp) rfl held)), ?_, ?_⟩
    · rw [finish_cassette_moved, endLeveling_cassette, if_pos rfl, held, thirdMiss_cassette, if_pos rfl]
      · simp [Cassette.spent, Cassette.returned, Cassette.writtenOut, Cassette.lower, Cassette.afterLeveling]
        rw [Bool.and_comm]
      · rw [endLeveling_cassette, if_pos rfl]
        simp [Cassette.same, Cassette.returned, leveling]
    · rw [finish_path, endLeveling_path_empty (by simpa [thirdMiss, writeOff, attemptOver] using holder)
        (by simpa [thirdMiss, writeOff, attemptOver] using reading)]
      simp [thirdMiss, writeOff, attemptOver, NotePath.freed]
  case refine_6 =>
    intro c v a s heeds state holder leveling fetching attempt last reading
    have target := pickTarget_of_session state holder leveling fetching
    refine yields_of (event_heeded heeds) ?_
    rw [pickWindowExpiry_leveling state target attempt, if_pos last]
    have held : (attemptOver s).holdsNote c = false := by simp [State.holdsNote, attemptOver, reading]
    refine ⟨eventLeaves_finish ((Touches.modPath rfl _).trans (endLeveling_noteless_touches (by simp) rfl held)), ?_, ?_⟩
    · rw [finish_cassette_moved, endLeveling_cassette, if_pos rfl, held]
      · simp [Cassette.spent, Cassette.returned, attemptOver, Cassette.afterLeveling]
      · rw [endLeveling_cassette, if_pos rfl]
        simp [Cassette.same, Cassette.returned, leveling]
    · rw [finish_path, endLeveling_path_empty (by simpa [attemptOver] using holder) (by simpa [attemptOver] using reading)]
      simp [attemptOver, NotePath.freed]
  case refine_7 =>
    intro i o c a s heeds state holder order picks target attempt last
    have picking := attemptOver_picking (pickingOrder_of state holder order)
    refine yields_of (event_heeded heeds) ?_
    rw [pickWindowExpiry_picking state target attempt, if_pos last]
    have touches : Touches { cassettes := positions _, orders := [i], placement := true, path := true } s
        (abortPicking .lockdown (attemptOver s)) :=
      (Touches.modPath rfl _).trans (abortPicking_touches_one picking mem_positions (by simp) rfl rfl)
    refine ⟨eventLeaves_finish (((Touches.modPath rfl _).trans
      (abortPicking_touches_one picking mem_positions (by simp) rfl rfl)).trans (completeSessions_touches rfl _)), ?_,
      sessionSettles_of_touches touches rfl rfl, ?_⟩
    · intro d
      rw [finish_cassette_reserved (x := (s.cassette d).reserved - o.need d) _ (by simp)]
      rw [completeSessions_cassette, abortPicking_cassette picking]
      rfl
    · rw [finish_order_aborted order picks (by rw [completeSessions_order, abortPicking_order picking]) rfl (by decide)
          (by decide),
        finish_path, completeSessions_path, finish_placement, completeSessions_placement, abortPicking_path picking,
        abortPicking_placement picking]
      split <;> exact ⟨rfl, rfl, rfl⟩

end Sys2Proof.Machine
end

section
/-! A SINGLE at the gauge. -/

namespace Sys2Proof.Machine
set_option Elab.async false

variable {s t : State} {f : Footprint} {c d : CassetteId} {i j : OrderSlot} {o : Order} {k g : Nat} {e : MixEntry}
  {a : Attempt}

/-! ### The class of a note -/

theorem classify_single {t : Nat} (above : t ≤ 2 * g) (below : 2 * g < 3 * t) (sound : g ≠ 1023) :
    classify g t = .single := by
  have many : ¬(g = 1023 ∨ 5 * t ≤ 2 * g) := by omega
  rw [classify, if_neg (Nat.not_lt.mpr above), if_neg many, if_pos below]

/-- A note for the order that is picked. -/
theorem noteAtGauge_order (picking : s.pickingOrder = some (i, o)) (entry : s.path.entry = some k) (mix : o.mix[k]? = some e)
    (attempt : s.path.attempt = some a) : noteAtGauge g s = completeSessions (gaugeOrder i k e a g s) := by
  rw [noteAtGauge, attempt, picking, entry]
  simp only [mix]

/-! ### The note that is accepted -/

/-- The cassette that gives a note to the order (R25). -/
def Cassette.gave (r : Cassette) : Cassette := { r.lower 1 with accepted := r.accepted + 1, reserved := r.reserved - 1 }

/-- The note goes to the stacker, and the order has one more (R25, R85). -/
def noteAccepted (i : OrderSlot) (k : Nat) (c : CassetteId) (s : State) : State := acceptNote i k c (noteArrived false s)

theorem noteAccepted_touches (cs : c ∈ f.cassettes) (os : i ∈ f.orders) (p : f.path = true) (s : State) :
    Touches f s (noteAccepted i k c s) :=
  ((Touches.modPath p _).trans (.modCassette cs _)).trans (.modOrder os _)

theorem noteAccepted_cassette (i : OrderSlot) (k : Nat) (c d : CassetteId) (s : State) :
    (noteAccepted i k c s).cassette d = if c = d then (s.cassette d).gave else s.cassette d :=
  State.modCassette_cassette (noteArrived false s) c Cassette.gave d

theorem noteAccepted_order (order : s.order i = some o) : (noteAccepted i k c s).order i = some (o.accept k) := by
  simp [noteAccepted, acceptNote, noteArrived, order, Order.accept]

@[simp] theorem noteAccepted_path (i : OrderSlot) (k : Nat) (c : CassetteId) (s : State) : (noteAccepted i k c s).path =
    { s.path with attempt := none, misses := 0, rejectDiverter := false } := rfl

theorem noteAccepted_picking (picking : s.pickingOrder = some (i, o)) :
    (noteAccepted i k c s).pickingOrder = some (i, o.accept k) := by
  obtain ⟨state, holder, order⟩ := pickingOrder_some picking
  exact pickingOrder_of state holder (noteAccepted_order order)

theorem gaugeOrder_single (single : classify g (s.cassette e.slot).reference = .single) : gaugeOrder i k e a g s =
    if a.last then abortPicking .lockdown (noteAccepted i k e.slot s) else pickOn i (noteAccepted i k e.slot s) := by
  rw [gaugeOrder, single]
  rfl

/-- The mix list of an order that has accepted a note is another. -/
theorem Order.accept_mix (mix : o.mix[k]? = some e) : o.accept k ≠ o := fun same => by
  have entry : (o.accept k).mix[k]? = some { e with accepted := e.accepted + 1 } := by
    simp [Order.accept, List.getElem?_modify, mix]
  rw [same, mix, Option.some.injEq] at entry
  have accepted := congrArg MixEntry.accepted entry
  dsimp only at accepted
  omega

theorem sum_accepted_modify : ∀ (mix : List MixEntry) (k : Nat) (e : MixEntry), mix[k]? = some e →
    ((mix.modify k fun e => { e with accepted := e.accepted + 1 }).map (·.accepted)).sum = (mix.map (·.accepted)).sum + 1
  | [], _, _, h => by simp at h
  | a :: mix, 0, e, h => by simp; omega
  | a :: mix, k + 1, e, h => by
    have later := sum_accepted_modify mix k e (by simpa using h)
    simp only [List.modify_succ_cons, List.map_cons, List.sum_cons, later]
    omega

/-- An order that has accepted a note has notes to purge. -/
theorem Order.accept_notes (mix : o.mix[k]? = some e) : (o.accept k).acceptedTotal ≠ 0 := by
  have sum : (o.accept k).acceptedTotal = o.acceptedTotal + 1 := sum_accepted_modify o.mix k e mix
  omega

/-! ### How the order goes on -/

/-- The order picks on at its first incomplete entry (R84). -/
def pickedOn (n : Nat) (s : State) : State := beginAttempt (s.modPath fun p => { p with entry := some n, misses := 0 })

theorem pickOn_next {n : Nat} (order : s.order i = some o) (next : o.nextEntry = some n) : pickOn i s = pickedOn n s := by
  rw [pickOn, order]
  simp only [next]
  rfl

theorem pickOn_complete (order : s.order i = some o) (next : o.nextEntry = none) : pickOn i s = startRouting i o.lane s := by
  rw [pickOn, order]
  simp only [next]

theorem pickedOn_path {n : Nat} (picking : s.pickingOrder = some (i, o)) (still : s.path.attempt = none) :
    (pickedOn n s).path = { s.path with
      entry := some n, misses := 0, attempt := (o.mix[n]?).bind fun x => s.freshAttempt x.slot } := by
  obtain ⟨state, holder, order⟩ := pickingOrder_some picking
  have fresh (c : CassetteId) :
      (s.modPath fun p => { p with entry := some n, misses := 0 }).freshAttempt c = s.freshAttempt c := rfl
  have target : (s.modPath fun p => { p with entry := some n, misses := 0 }).pickTarget = (o.mix[n]?).map (·.slot) :=
    pickTarget_of_order state holder order
  rw [pickedOn, beginAttempt_path, target]
  cases entry : o.mix[n]? <;> simp [still, fresh]

theorem pickedOn_touches (p : f.path = true) (n : Nat) (s : State) : Touches f s (pickedOn n s) :=
  (Touches.modPath p _).trans (beginAttempt_touches p _)

theorem startRouting_touches (os : i ∈ f.orders) (p : f.path = true) (l : LaneId) (s : State) :
    Touches f s (startRouting i l s) :=
  (Touches.modOrder os _).trans (.modPath p _)

theorem pickedOn_order (n : Nat) (s : State) (j : OrderSlot) : (pickedOn n s).order j = s.order j :=
  ((pickedOn_touches (f := { path := true }) rfl n s).orders j).resolve_left (by simp)

theorem pickOn_touches (os : i ∈ f.orders) (p : f.path = true) (s : State) : Touches f s (pickOn i s) := by
  cases order : s.order i with
  | none => rw [pickOn, order]; exact .refl f s
  | some o =>
    cases next : o.nextEntry with
    | some n => rw [pickOn_next order next]; exact pickedOn_touches p n s
    | none => rw [pickOn_complete order next]; exact startRouting_touches os p _ s

theorem pickOn_cassette (i : OrderSlot) (s : State) (c : CassetteId) : (pickOn i s).cassette c = s.cassette c :=
  ((pickOn_touches (f := { orders := [i], path := true }) (by simp) rfl s).cassettes c).resolve_left (by simp)

/-- A cassette that has given a note, with its figures and its mark. -/
theorem finish_cassette_gave (gave : t.cassette c = (s.cassette c).gave) (note : 1 ≤ (s.cassette c).current) :
    (finish s t none none).cassette c = { s.cassette c with
      current := (s.cassette c).current - 1, accepted := (s.cassette c).accepted + 1, reserved := (s.cassette c).reserved - 1
      lowFlag := (s.cassette c).lowFlag ||
        decide ((s.cassette c).lowMark ≤ (s.cassette c).current ∧ (s.cassette c).current - 1 < (s.cassette c).lowMark)
      state := if (s.cassette c).current = 1 ∧ ((s.cassette c).state = .ready ∨ (s.cassette c).state = .leveling)
        then .empty else (s.cassette c).state
      mark := true } := by
  have last : (s.cassette c).current - 1 = 0 ↔ (s.cassette c).current = 1 := by omega
  rw [finish_cassette_moved, gave]
  · simp [Cassette.gave, Cassette.lower, last]
  · rw [gave]
    simp [Cassette.same, Cassette.gave]

/-- Settles O40: a SINGLE at the gauge moves one note of the cassette and of the reservation to the order, which picks on
or routes. -/
theorem gaugeAcceptsSingles : Obligations.GaugeAcceptsSingles := by
  refine ⟨?_, ?_⟩
  case refine_1 =>
    intro g i o k e a s heeds state holder order picks entry mix attempt last above below sound note
    have picking := pickingOrder_of state holder order
    have accepted := noteAccepted_order (k := k) (c := e.slot) order
    have fresh (c : CassetteId) : (noteAccepted i k e.slot s).freshAttempt c = s.freshAttempt c := by
      refine (noteAccepted_touches (f := { cassettes := [e.slot], orders := [i], path := true }) (by simp) (by simp) rfl
        s).freshAttempt rfl rfl ?_
      rw [noteAccepted_cassette]
      split <;> rfl
    have touches : Touches { cassettes := [e.slot], orders := [i], path := true } s (pickOn i (noteAccepted i k e.slot s)) :=
      (noteAccepted_touches (by simp) (by simp) rfl s).trans (pickOn_touches (by simp) rfl _)
    refine yields_of (noteReachesGauge_heeded heeds) ?_
    rw [noteAtGauge_order picking entry mix attempt, gaugeOrder_single (classify_single above below sound),
      if_neg (by simp [last])]
    refine ⟨eventLeaves_finish (((noteAccepted_touches (by simp) (by simp) rfl s).trans
      (pickOn_touches (by simp) rfl _)).trans (completeSessions_touches rfl _)), sessionSettles_of_touches touches rfl rfl,
      finish_cassette_gave ?_ note, ?_⟩
    · rw [completeSessions_cassette, pickOn_cassette, noteAccepted_cassette, if_pos rfl]
    · change match (o.accept k).nextEntry with
        | some j => _
        | none => _
      cases next : (o.accept k).nextEntry with
      | some n =>
        have path := pickedOn_path (n := n) (noteAccepted_picking (k := k) (c := e.slot) picking) rfl
        simp only [fresh] at path
        dsimp only
        rw [pickOn_next accepted next, finish_path, completeSessions_path, path]
        refine ⟨?_, rfl, rfl⟩
        rw [finish_order_changed (q := o.accept k) order (by rw [completeSessions_order, pickedOn_order, accepted]) rfl,
          decide_eq_true (Order.accept_mix mix), Bool.or_true]
        rfl
      | none =>
        dsimp only
        rw [pickOn_complete accepted next, finish_path, completeSessions_path,
          finish_order_moved (q := { o.accept k with state := .routing }) order _ rfl (by simp [picks])]
        · exact ⟨rfl, rfl⟩
        · rw [completeSessions_order]
          simp [startRouting, accepted]
  case refine_2 =>
    intro g i o k e a s heeds state holder order picks entry mix attempt last above below sound
    have picking := pickingOrder_of state holder order
    have accepted := noteAccepted_picking (k := k) (c := e.slot) picking
    have notes := Order.accept_notes mix
    refine yields_of (noteReachesGauge_heeded heeds) ?_
    rw [noteAtGauge_order picking entry mix attempt, gaugeOrder_single (classify_single above below sound), if_pos last]
    refine ⟨?_, ?_, ?_⟩
    · obtain ⟨mark, marked⟩ := finish_cassette_but_mark (before := s)
        (after := completeSessions (abortPicking .lockdown (noteAccepted i k e.slot s))) e.slot
      rw [marked, completeSessions_cassette, abortPicking_cassette accepted, noteAccepted_cassette, if_pos rfl]
      rfl
    · rw [finish_order_aborted (q := o.accept k) order picks (by rw [completeSessions_order, abortPicking_order accepted])
        rfl (by decide) (by decide), if_neg notes]
      rfl
    · rw [finish_path, completeSessions_path, abortPicking_path accepted, if_neg notes]
      rfl

end Sys2Proof.Machine
end

section
/-! A THIN, DOUBLE or MULTIPLE at the gauge. -/

namespace Sys2Proof.Machine
set_option Elab.async false

variable {s t : State} {f : Footprint} {c d : CassetteId} {i j : OrderSlot} {o p : Order} {k g n q : Nat} {e : MixEntry}
  {a : Attempt} {r : Reason}

/-! ### The class of a reject -/

/-- A reading of one of the reject classes, with the estimate of the class (R88). -/
def RejectReading (g q t : Nat) : Prop :=
  (q = 1 ∧ 2 * g < t) ∨ (q = 2 ∧ g ≠ 1023 ∧ 3 * t ≤ 2 * g ∧ 2 * g < 5 * t) ∨
    (q = 3 ∧ t ≤ 2 * g ∧ (g = 1023 ∨ 5 * t ≤ 2 * g))

theorem classify_reject {t : Nat} (reading : RejectReading g q t) :
    classify g t ≠ .single ∧ (classify g t).estimate = q ∧ 1 ≤ q := by
  rcases reading with ⟨rfl, thin⟩ | ⟨rfl, sound, above, below⟩ | ⟨rfl, above, many⟩
  · rw [classify, if_pos thin]
    simp [GaugeClass.estimate]
  · rw [classify, if_neg (by omega), if_neg (by omega), if_neg (by omega)]
    simp [GaugeClass.estimate]
  · rw [classify, if_neg (by omega), if_pos many]
    simp [GaugeClass.estimate]

/-! ### The debit -/

/-- A cassette debited by a reject (R26). -/
def Cassette.debited (n : Nat) (r : Cassette) : Cassette := { r.lower n with rejectNotes := r.rejectNotes + n }

/-- The reject figures of an order after a reject (R89). -/
def Order.charged (n : Nat) (o : Order) : Order :=
  { o with rejectItems := o.rejectItems + 1, rejectNotes := o.rejectNotes + n }

/-- The note goes to the reject bin, against the cassette and the order, before the limit and the cascade are looked at
(R26, R85, R89). -/
def noteRejected (i : OrderSlot) (c : CassetteId) (n : Nat) (s : State) : State :=
  (addRejects n ((noteArrived true s).modCassette c (Cassette.debited n))).modOrder i (Order.charged n)

theorem noteRejected_touches (cs : c ∈ f.cassettes) (os : i ∈ f.orders) (b : f.bins = true) (p : f.path = true) (n : Nat)
    (s : State) : Touches f s (noteRejected i c n s) :=
  (((Touches.modPath p _).trans (.modCassette cs _)).trans (addRejects_touches b p n _)).trans (.modOrder os _)

theorem noteRejected_cassette (i : OrderSlot) (c d : CassetteId) (n : Nat) (s : State) :
    (noteRejected i c n s).cassette d = if c = d then (s.cassette d).debited n else s.cassette d := by
  have kept : (noteRejected i c n s).cassette d = ((noteArrived true s).modCassette c (Cassette.debited n)).cassette d := by
    simp [noteRejected, addRejects, evalPause]
  rw [kept, State.modCassette_cassette]
  rfl

theorem noteRejected_order (order : s.order i = some o) : (noteRejected i c n s).order i = some (o.charged n) := by
  simp [noteRejected, addRejects, evalPause, noteArrived, order]

theorem noteRejected_order_other (apart : j ≠ i) : (noteRejected i c n s).order j = s.order j := by
  simp [noteRejected, addRejects, evalPause, noteArrived, State.modOrder_order, Ne.symm apart]

@[simp] theorem noteRejected_bins (i : OrderSlot) (c : CassetteId) (n : Nat) (s : State) :
    (noteRejected i c n s).custody.bins = s.custody.bins.rejected n := by
  simp [noteRejected, noteArrived]

@[simp] theorem noteRejected_placement (i : OrderSlot) (c : CassetteId) (n : Nat) (s : State) :
    (noteRejected i c n s).custody.placement = s.custody.placement := by
  simp [noteRejected, addRejects, evalPause, noteArrived]

@[simp] theorem noteRejected_settings (i : OrderSlot) (c : CassetteId) (n : Nat) (s : State) :
    (noteRejected i c n s).custody.settings = s.custody.settings := by
  simp [noteRejected, noteArrived]

theorem noteRejected_path (i : OrderSlot) (c : CassetteId) (n : Nat) (s : State) : (noteRejected i c n s).path =
    { s.path with
      attempt := none, misses := 0, rejectDiverter := true, rejectPause := (noteRejected i c n s).pauseDue } :=
  addRejects_path n _

theorem noteRejected_picking (picking : s.pickingOrder = some (i, o)) :
    (noteRejected i c n s).pickingOrder = some (i, o.charged n) := by
  obtain ⟨state, holder, order⟩ := pickingOrder_some picking
  exact pickingOrder_of (by rw [noteRejected_path]; exact state) (by rw [noteRejected_path]; exact holder)
    (noteRejected_order order)

theorem Order.charged_apart (n : Nat) (o : Order) : o.charged n ≠ o := fun same => by
  have items := congrArg Order.rejectItems same
  simp [Order.charged] at items

theorem Order.charged_total (n : Nat) (o : Order) : (o.charged n).acceptedTotal = o.acceptedTotal := rfl

/-- A reject leaves what every waiting order holds. -/
theorem noteRejected_heldNeed (order : s.order i = some o) (picks : o.state = .picking) (j : OrderSlot) :
    (noteRejected i c n s).heldNeed d j = s.heldNeed d j := by
  by_cases here : j = i
  · subst here
    rw [heldNeed_of_not_waits (noteRejected_order order) (by simp [Order.charged, picks]),
      heldNeed_of_not_waits order (by simp [picks])]
  · exact heldNeed_congr (noteRejected_order_other here)

/-! ### The limit and the cascade -/

/-- The reject that reaches the limit aborts the order (R89). -/
def limited (s : State) (o : Order) (t : State) : State :=
  if o.rejectItems + 1 = s.custody.settings.maxRejects then abortPicking .rejects t else t

theorem rejectNote_eq (order : s.order i = some o) (estimate : Nat) :
    rejectNote i c estimate (noteArrived true s) = shortCascade c (limited s o
      (noteRejected i c (min estimate (s.cassette c).current) s)) := by
  have counted := noteRejected_order (c := c) (n := min estimate (s.cassette c).current) order
  have unfolded : rejectNote i c estimate (noteArrived true s) = shortCascade c
      (match (noteRejected i c (min estimate (s.cassette c).current) s).order i with
        | some o => if o.rejectItems = s.custody.settings.maxRejects
          then abortPicking .rejects (noteRejected i c (min estimate (s.cassette c).current) s)
          else noteRejected i c (min estimate (s.cassette c).current) s
        | none => noteRejected i c (min estimate (s.cassette c).current) s) := rfl
  rw [unfolded, counted]
  rfl

/-- What the last attempt ends with, and any other goes on with (R84, R86). -/
def gaugeEnds (last : Bool) (s : State) : State := if last then abortPicking .lockdown s else beginAttempt s

theorem noteAtGauge_reject (picking : s.pickingOrder = some (i, o)) (entry : s.path.entry = some k)
    (mix : o.mix[k]? = some e) (attempt : s.path.attempt = some a)
    (reading : RejectReading g q (s.cassette e.slot).reference) : noteAtGauge g s = completeSessions (gaugeEnds a.last
      (shortCascade e.slot (limited s o (noteRejected i e.slot (min q (s.cassette e.slot).current) s)))) := by
  obtain ⟨reject, estimate, -⟩ := classify_reject reading
  have ends : gaugeOrder i k e a g s = gaugeEnds a.last (rejectNote i e.slot q (noteArrived true s)) := by
    rw [← estimate, gaugeOrder]
    generalize classify g (s.cassette e.slot).reference = cls at reject
    cases cls
    case single => exact absurd rfl reject
    all_goals rfl
  rw [noteAtGauge_order picking entry mix attempt, ends, rejectNote_eq (pickingOrder_some picking).2.2]

/-- With the transport in a purge, or FREE, the end of the attempt brings nothing more. -/
theorem gaugeEnds_still (last : Bool) (rests : s.path.state ≠ .picking ∧ s.path.state ≠ .leveling) :
    gaugeEnds last s = s := by
  cases last with
  | true =>
    have none : s.pickingOrder = none := by
      rw [State.pickingOrder]
      split
      next state _ => exact absurd state rests.1
      · rfl
    rw [gaugeEnds, if_pos rfl, abortPicking, none]
  | false =>
    have none : s.pickTarget = none := by
      rw [State.pickTarget]
      split
      next state _ => exact absurd state rests.1
      next state _ => exact absurd state rests.2
      · rfl
    rw [gaugeEnds, if_neg (by simp), beginAttempt, none]

/-- A reject that reaches the limit: the order is aborted REJECTS, and the cascade passes it over. -/
theorem limit_reached (picking : s.pickingOrder = some (i, o)) (limit : o.rejectItems + 1 = s.custody.settings.maxRejects) :
    (shortCascade c (limited s o (noteRejected i c n s))).order i = some ((o.charged n).aborted .rejects) ∧
      (shortCascade c (limited s o (noteRejected i c n s))).path =
        { (if o.acceptedTotal = 0 then (noteRejected i c n s).path.freed (noteRejected i c n s)
            else (noteRejected i c n s).path.purged) with
          queue := (shortCascade c (limited s o (noteRejected i c n s))).path.queue } ∧
      (j ∈ (shortCascade c (limited s o (noteRejected i c n s))).custody.placement →
        j ∈ if o.acceptedTotal = 0 then s.custody.placement.filter (· != i) else s.custody.placement) := by
  have charged := noteRejected_picking (c := c) (n := n) picking
  have total : (o.charged n).acceptedTotal = o.acceptedTotal := rfl
  have stops : limited s o (noteRejected i c n s) = abortPicking .rejects (noteRejected i c n s) := if_pos limit
  have first := abortShort_of_done (c := c) (abortPicking_done (r := .rejects) charged)
  rw [stops]
  refine ⟨?_, ?_, fun m => ?_⟩
  · refine shortCascade_order_still ?_ (Order.aborted_still (by decide) (by decide) _)
    rw [first, abortPicking_order charged]
  · conv_lhs => rw [shortCascade_path, first, abortPicking_path charged, total]
    split <;> rfl
  · have placed := shortCascade_placement m
    rwa [first, abortPicking_placement charged, total, noteRejected_placement] at placed

theorem limited_below (below : o.rejectItems + 1 ≠ s.custody.settings.maxRejects) (t : State) : limited s o t = t :=
  if_neg below

/-- The figures of a debited cassette, with its mark. -/
theorem finish_cassette_debited {x : Nat} (moved : t.cassette c = { (s.cassette c).debited n with reserved := x })
    (one : 1 ≤ n) (held : n ≤ (s.cassette c).current) : (finish s t none none).cassette c = { s.cassette c with
      current := (s.cassette c).current - n, rejectNotes := (s.cassette c).rejectNotes + n, reserved := x
      lowFlag := (s.cassette c).lowFlag ||
        decide ((s.cassette c).lowMark ≤ (s.cassette c).current ∧ (s.cassette c).current - n < (s.cassette c).lowMark)
      state := if (s.cassette c).current = n ∧ ((s.cassette c).state = .ready ∨ (s.cassette c).state = .leveling)
        then .empty else (s.cassette c).state
      mark := true } := by
  have emptied : (s.cassette c).current - n = 0 ↔ (s.cassette c).current = n := by omega
  rw [finish_cassette_moved, moved]
  · simp [Cassette.debited, Cassette.lower, emptied]
  · rw [moved]
    have other : n ≠ 0 := by omega
    simp [Cassette.same, Cassette.debited, other]

/-! ### The orders and the transport after a reject -/

/-- A reject below the limit, from a cassette whose notes cover what is reserved, sets off no cascade. -/
theorem rejected_covered (below : o.rejectItems + 1 ≠ s.custody.settings.maxRejects)
    (covered : (s.cassette c).reserved ≤ (s.cassette c).current - n) :
    shortCascade c (limited s o (noteRejected i c n s)) = noteRejected i c n s := by
  rw [limited_below below, shortCascade_of_covered]
  rw [noteRejected_cassette, if_pos rfl]
  exact covered

theorem youngerNeed_congr (placement : t.custody.placement = s.custody.placement)
    (same : ∀ k, t.heldNeed c k = s.heldNeed c k) (j : OrderSlot) : t.youngerNeed c j = s.youngerNeed c j := by
  rw [State.youngerNeed, State.youngerNeed, placement, funext same]

/-- The fate of a waiting holder of the cassette of a reject from which the order picks on (R32). -/
theorem rejected_fate (picking : s.pickingOrder = some (i, o)) (picks : o.state = .picking)
    (sated : o.need c ≤ (s.cassette c).current - n) (waiting : s.order j = some p) (apart : j ≠ i)
    (waits : p.state = .held ∨ p.state = .queued) (holds : 0 < p.need c) (placed : j ∈ s.custody.placement)
    (once : s.custody.placement.Nodup) :
    (shortCascade c (noteRejected i c n s)).pickingOrder = some (i, o.charged n) ∧
      if (s.cassette c).current - n < (s.cassette c).reserved - s.youngerNeed c j
      then (shortCascade c (noteRejected i c n s)).order j = some p.failedShort ∧
        j ∉ (shortCascade c (noteRejected i c n s)).custody.placement
      else (shortCascade c (noteRejected i c n s)).order j = some p := by
  have order := (pickingOrder_some picking).2.2
  have charged := noteRejected_picking (c := c) (n := n) picking
  have debited := noteRejected_cassette i c c n s
  rw [if_pos rfl] at debited
  have first : abortShort c (noteRejected i c n s) = noteRejected i c n s :=
    abortShort_of_sated charged (by rw [debited]; exact sated)
  have younger : (noteRejected i c n s).youngerNeed c j = s.youngerNeed c j :=
    youngerNeed_congr (noteRejected_placement _ _ _ _) (noteRejected_heldNeed order picks) j
  have fate := shortCascade_fate (s := noteRejected i c n s) (c := c) (j := j) (p := p) (by simpa using once)
    (by simpa using placed) (.inl (by rw [first])) (fun k => by rw [first])
    (by rw [first, noteRejected_order_other apart, waiting]) waits holds
  rw [first, debited, younger] at fate
  refine ⟨?_, fate⟩
  obtain ⟨state, holder, -⟩ := pickingOrder_some charged
  refine pickingOrder_of (by rw [shortCascade_path, first, state]) (by rw [shortCascade_path, first, holder])
    (shortCascade_order_still (by rw [first, noteRejected_order order]) (by simp [Order.charged, picks]))

theorem abortPicking_alone (r : Reason) (s : State) : Touches
    { cassettes := positions _, orders := positions _, placement := true, path := true } s (abortPicking r s) :=
  abortPicking_touches mem_positions mem_positions rfl rfl r s

/-- The end of the attempt leaves every other order as it is. -/
theorem gaugeEnds_spares (picking : s.pickingOrder = some (i, o)) (apart : j ≠ i) (last : Bool) :
    (gaugeEnds last s).order j = s.order j ∧
      (j ∈ (gaugeEnds last s).custody.placement → j ∈ s.custody.placement) ∧
      (last = false → (gaugeEnds last s).path = { s.path with attempt := (gaugeEnds last s).path.attempt }) := by
  cases last with
  | true =>
    rw [gaugeEnds, if_pos rfl]
    refine ⟨abortPicking_order_other picking apart, fun m => ?_, fun more => by simp at more⟩
    rw [abortPicking_placement picking] at m
    split at m
    · exact (List.mem_filter.mp m).1
    · exact m
  | false =>
    rw [gaugeEnds, if_neg (by simp)]
    have alone := beginAttempt_touches (f := { path := true }) rfl s
    refine ⟨(alone.orders j).resolve_left (by simp), fun m => ?_, fun _ => ?_⟩
    · rwa [alone.placement.resolve_left (by simp)] at m
    · rw [beginAttempt_path]

/-- The next attempt after a reject, from the same cassette (R84). -/
theorem beginAttempt_rejected (picking : s.pickingOrder = some (i, o)) (entry : s.path.entry = some k)
    (mix : o.mix[k]? = some e) (n : Nat) : (beginAttempt (noteRejected i e.slot n s)).path = { s.path with
      misses := 0, attempt := s.freshAttempt e.slot, rejectDiverter := true
      rejectPause := (noteRejected i e.slot n s).pauseDue } := by
  obtain ⟨state, holder, order⟩ := pickingOrder_some picking
  have path := noteRejected_path i e.slot n s
  have target : (noteRejected i e.slot n s).pickTarget = some e.slot := by
    rw [pickTarget_of_order (by rw [path]; exact state) (by rw [path]; exact holder) (noteRejected_order order), path]
    simp [entry, Order.charged, mix]
  have fresh : (noteRejected i e.slot n s).freshAttempt e.slot = s.freshAttempt e.slot := by
    refine (noteRejected_touches (f := { cassettes := [e.slot], orders := [i], bins := true, path := true }) (by simp)
      (by simp) rfl rfl n s).freshAttempt rfl rfl ?_
    rw [noteRejected_cassette, if_pos rfl]
    rfl
  rw [beginAttempt_path, target, Option.bind_some, fresh, path]
  rfl

/-- Settles O41: a THIN, DOUBLE or MULTIPLE at the gauge debits the cassette its estimate, into the reject bin and against
the order. -/
theorem gaugeRejectsDebitTheCassette : Obligations.GaugeRejectsDebitTheCassette := by
  refine ⟨?_, ?_, ?_, ?_, ?_, ?_⟩
  case refine_1 =>
    intro g q i o k e a s heeds state holder order picks entry mix attempt last reading notes below covered
    have picking := pickingOrder_of state holder order
    have one : 1 ≤ min q (s.cassette e.slot).current := le_min (classify_reject reading).2.2 notes
    have held : min q (s.cassette e.slot).current ≤ (s.cassette e.slot).current := Nat.min_le_right _ _
    refine yields_of (noteReachesGauge_heeded heeds) ?_
    rw [noteAtGauge_reject picking entry mix attempt reading, rejected_covered below covered, gaugeEnds,
      if_neg (by simp [last])]
    dsimp only
    generalize min q (s.cassette e.slot).current = n at *
    have touches : Touches { cassettes := [e.slot], orders := [i], bins := true, path := true } s
        (beginAttempt (noteRejected i e.slot n s)) :=
      (noteRejected_touches (by simp) (by simp) rfl rfl n s).trans (beginAttempt_touches rfl _)
    have bins : (beginAttempt (noteRejected i e.slot n s)).custody.bins = s.custody.bins.rejected n :=
      ((beginAttempt_touches (f := { path := true }) rfl _).bins.resolve_left (by simp)).trans (noteRejected_bins _ _ _ _)
    have due : (beginAttempt (noteRejected i e.slot n s)).pauseDue = (noteRejected i e.slot n s).pauseDue :=
      pauseDue_congr ((beginAttempt_touches (f := { path := true }) rfl _).bins.resolve_left (by simp))
        ((beginAttempt_touches (f := { path := true }) rfl _).settings.resolve_left (by simp))
    have charged : (beginAttempt (noteRejected i e.slot n s)).order i = some (o.charged n) :=
      (((beginAttempt_touches (f := { path := true }) rfl _).orders i).resolve_left (by simp)).trans (noteRejected_order order)
    refine ⟨eventLeaves_finish (((noteRejected_touches (by simp) (by simp) rfl rfl n s).trans
      (beginAttempt_touches rfl _)).trans (completeSessions_touches rfl _)), sessionSettles_of_touches touches rfl rfl,
      finish_cassette_debited (x := (s.cassette e.slot).reserved) ?_ one held, ?_, ?_, ?_⟩
    · rw [completeSessions_cassette, beginAttempt_cassette, noteRejected_cassette, if_pos rfl]
      rfl
    · rw [finish_order_changed (q := o.charged n) order (by rw [completeSessions_order, charged]) rfl,
        decide_eq_true (o.charged_apart n), Bool.or_true]
      rfl
    · rw [finish_bins, completeSessions_bins, bins]
      rfl
    · rw [finish_path, completeSessions_path, finish_pauseDue, completeSessions_pauseDue, due,
        beginAttempt_rejected picking entry mix]
  case refine_2 =>
    intro g q i o k e a s heeds state holder order picks entry mix attempt reading limit notes
    have picking := pickingOrder_of state holder order
    refine yields_of (noteReachesGauge_heeded heeds) ?_
    rw [noteAtGauge_reject picking entry mix attempt reading]
    generalize min q (s.cassette e.slot).current = n
    obtain ⟨ends, path, -⟩ := limit_reached (c := e.slot) (n := n) (j := i) picking limit
    rw [if_neg notes] at path
    rw [gaugeEnds_still _ (by rw [path]; simp [NotePath.purged]), finish_path, completeSessions_path, path,
      finish_order_aborted (q := o.charged n) order picks (by rw [completeSessions_order, ends]) rfl (by decide) (by decide),
      noteRejected_path, Order.charged_total, if_neg notes]
    exact ⟨rfl, rfl, holder, rfl, rfl⟩
  case refine_3 =>
    intro g q i o k e a s heeds state holder order picks entry mix attempt reading limit empty
    have picking := pickingOrder_of state holder order
    refine yields_of (noteReachesGauge_heeded heeds) ?_
    rw [noteAtGauge_reject picking entry mix attempt reading]
    generalize min q (s.cassette e.slot).current = n
    obtain ⟨ends, path, placed⟩ := limit_reached (c := e.slot) (n := n) (j := i) picking limit
    rw [if_pos empty] at path placed
    rw [gaugeEnds_still _ (by rw [path]; simp [NotePath.freed]), finish_path, completeSessions_path, path,
      finish_order_aborted (q := o.charged n) order picks (by rw [completeSessions_order, ends]) rfl (by decide) (by decide),
      finish_placement, completeSessions_placement, Order.charged_total, if_pos empty]
    exact ⟨rfl, rfl, rfl, rfl, fun m => by simpa using placed m⟩
  case refine_4 =>
    intro g q i o k e a s heeds state holder order picks entry mix attempt reading below
    have picking := pickingOrder_of state holder order
    rw [Yields, noteReachesGauge_heeded heeds, noteAtGauge_reject picking entry mix attempt reading, limited_below below]
    generalize min q (s.cassette e.slot).current = n
    intro short needs
    have charged := noteRejected_picking (c := e.slot) (n := n) picking
    have debited := noteRejected_cassette i e.slot e.slot n s
    rw [if_pos rfl] at debited
    obtain ⟨ends, path⟩ := shortCascade_aborts charged
      (abortShort_of_short charged (by rw [debited]; exact short) (by rw [debited]; exact needs))
    rw [Order.charged_total] at path
    have rests : (shortCascade e.slot (noteRejected i e.slot n s)).path.state ≠ .picking ∧
        (shortCascade e.slot (noteRejected i e.slot n s)).path.state ≠ .leveling := by
      rw [path]
      split <;> simp [NotePath.freed, NotePath.purged]
    dsimp only
    rw [gaugeEnds_still _ rests, finish_path, completeSessions_path, path,
      finish_order_aborted (q := o.charged n) order picks (by rw [completeSessions_order, ends]) rfl (by decide) (by decide),
      noteRejected_path, Order.charged_total]
    split
    · exact ⟨rfl, rfl, rfl⟩
    · exact ⟨rfl, rfl, holder, rfl, rfl⟩
  case refine_5 =>
    intro g q j p i o k e a s heeds state holder order picks entry mix attempt reading below
    have picking := pickingOrder_of state holder order
    rw [Yields, noteReachesGauge_heeded heeds, noteAtGauge_reject picking entry mix attempt reading, limited_below below]
    generalize min q (s.cassette e.slot).current = n
    intro sated waiting apart waits holds placed once
    obtain ⟨still, fate⟩ := rejected_fate (n := n) picking picks sated waiting apart waits holds placed once
    obtain ⟨alone, placement, path⟩ := gaugeEnds_spares still apart a.last
    dsimp only
    rw [finish_path, completeSessions_path, finish_placement, completeSessions_placement]
    refine ⟨fun more => ?_, ?_⟩
    · rw [path more]
      obtain ⟨state, holder, -⟩ := pickingOrder_some still
      exact ⟨state, holder⟩
    · split
      next lacks =>
        rw [if_pos lacks] at fate
        rw [finish_order_moved (q := p.failedShort) waiting (by rw [completeSessions_order, alone, fate.1]) rfl
          (failedShort_moved waits)]
        exact ⟨rfl, fun m => fate.2 (placement m)⟩
      next covers =>
        rw [if_neg covers] at fate
        rw [finish_order_of_eq (by rw [completeSessions_order, alone, fate, waiting]), waiting]
  case refine_6 =>
    intro g q i o k e a s heeds state holder order picks entry mix attempt last reading notes below covered
    have picking := pickingOrder_of state holder order
    have one : 1 ≤ min q (s.cassette e.slot).current := le_min (classify_reject reading).2.2 notes
    have held : min q (s.cassette e.slot).current ≤ (s.cassette e.slot).current := Nat.min_le_right _ _
    refine yields_of (noteReachesGauge_heeded heeds) ?_
    rw [noteAtGauge_reject picking entry mix attempt reading, rejected_covered below covered, gaugeEnds, if_pos last]
    dsimp only
    generalize min q (s.cassette e.slot).current = n at *
    have charged := noteRejected_picking (c := e.slot) (n := n) picking
    have bins : (abortPicking .lockdown (noteRejected i e.slot n s)).custody.bins = s.custody.bins.rejected n :=
      ((abortPicking_alone .lockdown _).bins.resolve_left (by simp)).trans (noteRejected_bins _ _ _ _)
    have due : (abortPicking .lockdown (noteRejected i e.slot n s)).pauseDue = (noteRejected i e.slot n s).pauseDue :=
      pauseDue_congr ((abortPicking_alone .lockdown _).bins.resolve_left (by simp))
        ((abortPicking_alone .lockdown _).settings.resolve_left (by simp))
    have touches : Touches { cassettes := positions _, orders := [i], placement := true, bins := true, path := true } s
        (abortPicking .lockdown (noteRejected i e.slot n s)) :=
      (noteRejected_touches (mem_positions _) (by simp) rfl rfl n s).trans
        (abortPicking_touches_one charged mem_positions (by simp) rfl rfl)
    refine ⟨eventLeaves_finish (((noteRejected_touches (mem_positions _) (by simp) rfl rfl n s).trans
      (abortPicking_touches_one charged mem_positions (by simp) rfl rfl)).trans (completeSessions_touches rfl _)),
      sessionSettles_of_touches touches rfl rfl, finish_cassette_debited ?_ one held, fun d apart => ?_, ?_, ?_⟩
    · rw [completeSessions_cassette, abortPicking_cassette charged, noteRejected_cassette, if_pos rfl]
      rfl
    · rw [finish_cassette_reserved (x := (s.cassette d).reserved - o.need d) _ (by simp)]
      rw [completeSessions_cassette, abortPicking_cassette charged, noteRejected_cassette, if_neg (Ne.symm apart)]
      rfl
    · rw [finish_bins, completeSessions_bins, bins]
      rfl
    · rw [finish_order_aborted (q := o.charged n) order picks (by rw [completeSessions_order, abortPicking_order charged])
          rfl (by decide) (by decide),
        finish_path, completeSessions_path, finish_pauseDue, completeSessions_pauseDue, due, finish_placement,
        completeSessions_placement, abortPicking_path charged, abortPicking_placement charged, noteRejected_path,
        noteRejected_placement, Order.charged_total]
      split
      · exact ⟨rfl, by simp [NotePath.freed], rfl⟩
      · exact ⟨rfl, by simp [NotePath.purged], rfl⟩

end Sys2Proof.Machine
end

section
/-! Passages that stop orders: a close of the lane, a removed cassette. -/

namespace Sys2Proof.Machine
set_option Elab.async false

variable {s t : State} {f : Footprint} {c : CassetteId} {i k : OrderSlot} {o : Order} {stops : Order → Bool} {v : OrderState}
  {r : Reason}

/-! ### A passage that stops orders -/

/-- An order is stopped if it is one of those to be stopped. -/
def stopIf (stops : Order → Bool) (v : OrderState) (r : Reason) (i : OrderSlot) (s : State) : State :=
  if (s.order i).any stops then stopOrder i v r s else s

/-- An order that a passage stops. -/
def Order.stopped (v : OrderState) (r : Reason) (o : Order) : Order :=
  { o with state := v, reason := some r, holdDeadline := none, presentDeadline := none }

/-- A claim of one of the orders to be stopped. -/
def State.claimOf (s : State) (stops : Order → Bool) : Claim → Bool
  | .order i => (s.order i).any stops
  | .leveling _ => false

/-- What the orders of a list that are to be stopped hold reserved of a cassette. -/
def State.stoppedNeed (s : State) (stops : Order → Bool) (c : CassetteId) (list : List OrderSlot) : Nat :=
  ((list.filter fun i => (s.order i).any stops).map (s.needOf c)).sum

/-- The transport with some claims taken from its queue. -/
def NotePath.dequeue (p : NotePath) (gone : Claim → Bool) : NotePath := { p with queue := p.queue.filter fun q => !gone q }

theorem NotePath.dequeue_eq {p : NotePath} {gone keep : Claim → Bool} (same : ∀ q, keep q = !gone q) :
    { p with queue := p.queue.filter keep } = p.dequeue gone := by
  rw [NotePath.dequeue, funext same]

theorem NotePath.dequeue_none {p : NotePath} {gone : Claim → Bool} (none : ∀ q, gone q = false) : p.dequeue gone = p := by
  simp [NotePath.dequeue, none]

theorem NotePath.dequeue_dequeue (p : NotePath) (gone more : Claim → Bool) :
    (p.dequeue gone).dequeue more = p.dequeue fun q => gone q || more q := by
  simp only [NotePath.dequeue, List.filter_filter]
  congr 2
  funext q
  cases gone q <;> cases more q <;> rfl

theorem any_stops {i : OrderSlot} : (s.order i).any stops = true ↔ ∃ o, s.order i = some o ∧ stops o = true :=
  Option.any_eq_true _ _

theorem stopIf_order_other (apart : k ≠ i) (s : State) : (stopIf stops v r i s).order k = s.order k := by
  unfold stopIf
  split
  · exact stopOrder_order_other apart v r s
  · rfl

theorem stopIf_order (s : State) : (stopIf stops v r i s).order i =
    if (s.order i).any stops then (s.order i).map (Order.stopped v r) else s.order i := by
  unfold stopIf
  split
  next stopped =>
    obtain ⟨o, order, -⟩ := any_stops.mp stopped
    rw [stopOrder_order order, order]
    rfl
  · rfl

theorem stopIf_placement (s : State) : (stopIf stops v r i s).custody.placement =
    s.custody.placement.filter fun k => !(decide (k = i) && (s.order k).any stops) := by
  unfold stopIf
  split
  next stopped =>
    rw [stopOrder_placement]
    refine List.filter_congr fun k _ => ?_
    by_cases here : k = i
    · subst here; simp [stopped]
    · simp [here]
  next stands =>
    symm
    rw [List.filter_eq_self]
    intro k _
    by_cases here : k = i
    · subst here; simpa using stands
    · simp [here]

theorem stopIf_path (s : State) : (stopIf stops v r i s).path =
    s.path.dequeue fun q => decide (q = .order i) && s.claimOf stops q := by
  unfold stopIf
  split
  next stopped =>
    rw [stopOrder_path]
    refine NotePath.dequeue_eq fun q => ?_
    by_cases here : q = .order i
    · subst here; simp [State.claimOf, stopped]
    · simp [here]
  next stands =>
    refine (NotePath.dequeue_none fun q => ?_).symm
    by_cases here : q = .order i
    · subst here; simpa [State.claimOf] using stands
    · simp [here]

theorem stopIf_cassette (s : State) (c : CassetteId) : (stopIf stops v r i s).cassette c =
    { s.cassette c with reserved := (s.cassette c).reserved - s.stoppedNeed stops c [i] } := by
  unfold stopIf State.stoppedNeed
  split
  next stopped =>
    obtain ⟨o, order, stops⟩ := any_stops.mp stopped
    rw [stopOrder_cassette order]
    simp [order, stops, State.needOf]
  next stands => simp [stands]

/-- A passage along a list of slots. -/
def stopAll (stops : Order → Bool) (v : OrderState) (r : Reason) (list : List OrderSlot) (s : State) : State :=
  list.foldl (fun s i => stopIf stops v r i s) s

theorem stopAll_cons (i : OrderSlot) (list : List OrderSlot) (s : State) :
    stopAll stops v r (i :: list) s = stopAll stops v r list (stopIf stops v r i s) := rfl

variable {list : List OrderSlot}

theorem stopAll_order_outside (s : State) (out : k ∉ list) : (stopAll stops v r list s).order k = s.order k := by
  induction list generalizing s with
  | nil => rfl
  | cons i list ih =>
    rw [List.mem_cons, not_or] at out
    rw [stopAll_cons, ih _ out.2, stopIf_order_other out.1]

theorem stopAll_order_inside (s : State) (once : list.Nodup) (inside : k ∈ list) : (stopAll stops v r list s).order k =
    if (s.order k).any stops then (s.order k).map (Order.stopped v r) else s.order k := by
  induction list generalizing s with
  | nil => cases inside
  | cons i list ih =>
    obtain ⟨out, once⟩ := List.nodup_cons.mp once
    rw [stopAll_cons]
    by_cases here : k = i
    · subst here
      rw [stopAll_order_outside _ out, stopIf_order]
    · rw [ih _ once (List.mem_of_ne_of_mem here inside), stopIf_order_other here]

theorem stopAll_placement (s : State) (once : list.Nodup) : (stopAll stops v r list s).custody.placement =
    s.custody.placement.filter fun k => !(decide (k ∈ list) && (s.order k).any stops) := by
  induction list generalizing s with
  | nil => simp [stopAll]
  | cons i list ih =>
    obtain ⟨out, once⟩ := List.nodup_cons.mp once
    rw [stopAll_cons, ih _ once, stopIf_placement, List.filter_filter]
    refine List.filter_congr fun k _ => ?_
    by_cases here : k = i
    · subst here; simp [out]
    · rw [stopIf_order_other here]; simp [here]

theorem stopAll_path (s : State) (once : list.Nodup) : (stopAll stops v r list s).path =
    s.path.dequeue fun q => decide (∃ i ∈ list, q = .order i) && s.claimOf stops q := by
  induction list generalizing s with
  | nil => exact (NotePath.dequeue_none (by simp)).symm
  | cons i list ih =>
    obtain ⟨out, once⟩ := List.nodup_cons.mp once
    rw [stopAll_cons, ih _ once, stopIf_path, NotePath.dequeue_dequeue]
    refine NotePath.dequeue_eq fun q => congrArg _ ?_
    by_cases here : q = .order i
    · subst here; simp [out]
    · have same : (stopIf stops v r i s).claimOf stops q = s.claimOf stops q := by
        cases q with
        | order k => exact congrArg (Option.any stops) (stopIf_order_other (fun e => here (by rw [e])) s)
        | leveling k => rfl
      simp [here, same]

theorem stoppedNeed_congr (same : ∀ k ∈ list, t.order k = s.order k) :
    t.stoppedNeed stops c list = s.stoppedNeed stops c list := by
  unfold State.stoppedNeed
  rw [List.filter_congr fun k m => by rw [same k m]]
  congr 1
  exact List.map_congr_left fun k m => by rw [State.needOf, State.needOf, same k (List.mem_filter.mp m).1]

theorem stoppedNeed_cons (s : State) (c : CassetteId) (i : OrderSlot) (list : List OrderSlot) :
    s.stoppedNeed stops c (i :: list) = s.stoppedNeed stops c [i] + s.stoppedNeed stops c list := by
  unfold State.stoppedNeed
  by_cases here : (s.order i).any stops <;> simp [here]

theorem stopAll_cassette (s : State) (c : CassetteId) (once : list.Nodup) : (stopAll stops v r list s).cassette c =
    { s.cassette c with reserved := (s.cassette c).reserved - s.stoppedNeed stops c list } := by
  induction list generalizing s with
  | nil => simp [stopAll, State.stoppedNeed]
  | cons i list ih =>
    obtain ⟨out, once⟩ := List.nodup_cons.mp once
    have later : (stopIf stops v r i s).stoppedNeed stops c list = s.stoppedNeed stops c list :=
      stoppedNeed_congr fun k m => stopIf_order_other (fun e => out (by rwa [← e])) s
    rw [stopAll_cons, ih _ once, later, stopIf_cassette, stoppedNeed_cons s c i list, ← Nat.sub_sub]

theorem stopAll_touches (cs : ∀ c, c ∈ f.cassettes) (os : ∀ i, i ∈ f.orders) (pl : f.placement = true)
    (p : f.path = true) (list : List OrderSlot) (s : State) : Touches f s (stopAll stops v r list s) :=
  .foldl (fun i s => by
    unfold stopIf
    split
    · exact stopOrder_touches cs (os i) pl p v r s
    · exact .refl f s) list s

/-! ### A passage along every slot -/

/-- A passage along every slot that stops orders. -/
theorem forEach_stopAll (s : State) : forEach (stopIf stops v r) s = stopAll stops v r (positions _) s := rfl

theorem stopEvery_order (s : State) (k : OrderSlot) : (forEach (stopIf stops v r) s).order k =
    if (s.order k).any stops then (s.order k).map (Order.stopped v r) else s.order k :=
  stopAll_order_inside s positions_nodup (mem_positions k)

theorem stopEvery_placement (s : State) : (forEach (stopIf stops v r) s).custody.placement =
    s.custody.placement.filter fun k => !(s.order k).any stops := by
  rw [forEach_stopAll, stopAll_placement s positions_nodup]
  simp [mem_positions]

theorem stopEvery_path (s : State) : (forEach (stopIf stops v r) s).path = s.path.dequeue (s.claimOf stops) := by
  rw [forEach_stopAll, stopAll_path s positions_nodup]
  refine NotePath.dequeue_eq fun q => congrArg _ ?_
  cases q <;> simp [mem_positions, State.claimOf]

theorem stopEvery_cassette (s : State) (c : CassetteId) : (forEach (stopIf stops v r) s).cassette c =
    { s.cassette c with reserved := (s.cassette c).reserved - s.stoppedNeed stops c (positions _) } :=
  stopAll_cassette s c positions_nodup

end Sys2Proof.Machine
end

section
/-! The close of a session, and SESSION CLOSE. -/

namespace Sys2Proof.Machine
set_option Elab.async false

variable {s t before after : State} {f : Footprint} {c : CassetteId} {i k : OrderSlot} {o q : Order} {l : LaneId}
  {cause : CloseCause} {r : Reason} {named access : Option RecordRef} {ps : List Byte}

/-! ### Marks of an event that names another record -/

/-- An order at the end of an event that names another record: it is marked if it has changed (R9). -/
theorem finish_order_apart (old : before.order i = some o) (new : after.order i = some q) (mark : q.mark = o.mark)
    (apart : named ≠ some (.order i)) :
    (finish before after named access).order i = some { q with mark := q.mark || decide (q ≠ o) } := by
  rw [finish_order, orderMoved, old, new]
  by_cases still : q = o
  · subst still
    simp [Order.same]
  · have moved : o.same q = false := Bool.eq_false_iff.mpr fun same => still (Order.eq_of_same same mark)
    simp [moved, still, apart]

/-- The LANE slots of a lane whose session an event ends are disabled (R165). -/
theorem finish_slot_ended {k : Fin Config.watchCount} (opened : (before.lane l).session = .opened)
    (ended : (after.lane l).session ≠ .opened)
    (scope : ((finish before after named access).watch.slots.get k).scope = some l) :
    ((finish before after named access).watch.slots.get k).enable = false := by
  rw [finish_slot] at scope ⊢
  generalize (after.watch.slots.get k).record _ = w at *
  unfold WatchSlot.afterSessions at scope ⊢
  have same : w.scope = some l := by
    revert scope
    split
    · split <;> exact id
    · exact id
  simp [same, opened, ended]

/-! ### The pieces of a close -/

/-- An order of a lane that has not begun to move notes. -/
def Order.waitsOn (l : LaneId) (o : Order) : Bool := o.lane == l && (o.state == .held || o.state == .queued)

theorem waits_eq (s : State) (l : LaneId) (i : OrderSlot) : s.waits l i = (s.order i).any (Order.waitsOn l) := rfl

theorem claimWaits_eq (s : State) (l : LaneId) : s.claimWaits l = s.claimOf (Order.waitsOn l) := by
  funext q
  cases q <;> rfl

theorem closeOrder_eq (l : LaneId) (r : Reason) : closeOrder l r = stopIf (Order.waitsOn l) .cancelled r := by
  funext i s
  unfold closeOrder stopIf
  cases order : s.order i with
  | none => rfl
  | some o => simp [Order.waitsOn]

/-- An order in a head that is dumped. -/
def Order.dumped (r : Reason) (o : Order) : Order := { o with state := .aborting, reason := some r }

theorem dumpStaged_eq (l : LaneId) (r : Reason) (s : State) : dumpStaged l r s =
    match (s.lane l).head with
    | some i => if (s.order i).any (fun o => o.state == .staged) then dumpHead l i r s else s
    | none => s := by
  unfold dumpStaged
  cases (s.lane l).head with
  | none => rfl
  | some i =>
    dsimp only
    cases s.order i <;> simp

theorem dumpStaged_order (l : LaneId) (r : Reason) (s : State) (k : OrderSlot) : (dumpStaged l r s).order k =
    if (s.lane l).head = some k ∧ (s.order k).any (fun o => o.state == .staged) then (s.order k).map (Order.dumped r)
    else s.order k := by
  rw [dumpStaged_eq]
  cases head : (s.lane l).head with
  | none => simp
  | some i =>
    by_cases here : i = k
    · subst here
      dsimp only
      split
      next staged => simp [staged, dumpHead]; rfl
      next moved => simp [moved]
    · have apart : ¬(some i = some k ∧ (s.order k).any (fun o => o.state == .staged) = true) := by simp [here]
      rw [if_neg apart]
      dsimp only
      split
      · simp [dumpHead, State.modOrder_order, here]
      · rfl

theorem dumpStaged_laneWork (l : LaneId) (r : Reason) (s : State) : (dumpStaged l r s).laneWork l =
    { s.laneWork l with dump := if s.dumpsHead l then some routeLimit else (s.laneWork l).dump } := by
  rw [dumpStaged_eq, State.dumpsHead]
  cases head : (s.lane l).head with
  | none => rfl
  | some i =>
    simp only [Option.any_some]
    split
    · simp [dumpHead]
    · rfl

theorem recallCause_order (l : LaneId) (c : RecallCause) (s : State) (k : OrderSlot) : (recallCause l c s).order k =
    if (s.lane l).drawer = .opened ∧ (s.lane l).load = some k then (s.order k).map (Order.toRecalling c.reason)
    else s.order k := by
  unfold recallCause recallDrawer driveDrawer pendRecall
  cases drawer : (s.lane l).drawer
  case opened =>
    cases load : (s.lane l).load with
    | none => simp
    | some i => by_cases here : i = k <;> simp [State.modOrder_order, here]
  all_goals simp

/-! ### The close -/

/-- The orders of a closing lane have been cancelled, and the pieces in its head and its drawer are still to be dealt
with. -/
def waitingClosed (l : LaneId) (c : CloseCause) (s : State) : State :=
  forEach (closeOrder l c.reason) (s.modLane l fun r => { r with session := .closing c })

theorem closeSession_eq (l : LaneId) (c : CloseCause) (s : State) :
    closeSession l c s = recallCause l c.recall (dumpStaged l c.reason (waitingClosed l c s)) := rfl

theorem waitingClosed_order (l : LaneId) (c : CloseCause) (s : State) (k : OrderSlot) : (waitingClosed l c s).order k =
    if s.waits l k then (s.order k).map (Order.stopped .cancelled c.reason) else s.order k := by
  rw [waitingClosed, closeOrder_eq, stopEvery_order]
  rfl

theorem waitingClosed_lane (l : LaneId) (c : CloseCause) (s : State) :
    (waitingClosed l c s).lane l = { s.lane l with session := .closing c } := by
  have still : Touches { cassettes := positions _, orders := positions _, placement := true, path := true }
      (s.modLane l fun r => { r with session := .closing c }) (waitingClosed l c s) := by
    rw [waitingClosed, closeOrder_eq]
    exact stopAll_touches mem_positions mem_positions rfl rfl _ _
  rw [still.lane rfl rfl]
  simp

theorem waitingClosed_laneWork (l : LaneId) (c : CloseCause) (s : State) :
    (waitingClosed l c s).laneWork l = s.laneWork l := by
  have still : Touches { cassettes := positions _, orders := positions _, placement := true, path := true }
      (s.modLane l fun r => { r with session := .closing c }) (waitingClosed l c s) := by
    rw [waitingClosed, closeOrder_eq]
    exact stopAll_touches mem_positions mem_positions rfl rfl _ _
  exact (still.work l).resolve_left (by simp)

theorem waitingClosed_staged (l : LaneId) (c : CloseCause) (s : State) (k : OrderSlot) :
    ((waitingClosed l c s).order k).any (fun o => o.state == .staged) = (s.order k).any fun o => o.state == .staged := by
  rw [waitingClosed_order, waits_eq]
  cases order : s.order k with
  | none => simp
  | some o =>
    by_cases waits : o.waitsOn l
    · have state : o.state = .held ∨ o.state = .queued := by
        simp only [Order.waitsOn, Bool.and_eq_true, Bool.or_eq_true, beq_iff_eq] at waits
        exact waits.2
      rcases state with state | state <;> simp [waits, Order.stopped, state]
    · simp [waits]

/-- A close leaves a lane CLOSING, with its OPEN drawer recalled (R103). -/
theorem closeSession_lane (l : LaneId) (c : CloseCause) (s : State) : (closeSession l c s).lane l =
    { s.lane l with session := .closing c, drawer := (s.lane l).drawer.recalled } := by
  rw [closeSession_eq, recallCause_lane_eq, dumpStaged_lane, waitingClosed_lane]

/-- A recall cause is no matter of the head dump. -/
theorem LaneWork.recalled_dump (w : LaneWork) (d : Drawer) (c : RecallCause) (x : Option Nat) :
    { w with dump := x }.recalled d c = { w.recalled d c with dump := x } := by
  unfold LaneWork.recalled
  dsimp only
  split
  · rfl
  · split <;> rfl

theorem closeSession_laneWork (l : LaneId) (c : CloseCause) (s : State) : (closeSession l c s).laneWork l =
    { (s.laneWork l).recalled (s.lane l).drawer c.recall with
      dump := if s.dumpsHead l then some routeLimit else (s.laneWork l).dump } := by
  have dumps : (waitingClosed l c s).dumpsHead l = s.dumpsHead l := by
    simp only [State.dumpsHead, waitingClosed_lane, waitingClosed_staged]
  rw [closeSession_eq, recallCause_laneWork_eq, dumpStaged_lane, dumpStaged_laneWork, dumps, waitingClosed_lane,
    waitingClosed_laneWork, LaneWork.recalled_dump]

/-- What a close makes of an order, in the place where it stands (R103). -/
def State.closeFate (s : State) (l : LaneId) (c : CloseCause) (k : OrderSlot) (o : Order) : Order :=
  if o.waitsOn l then o.stopped .cancelled c.reason
  else if (s.lane l).head = some k ∧ o.state = .staged then o.dumped c.reason
  else if (s.lane l).drawer = .opened ∧ (s.lane l).load = some k then o.toRecalling c.recall.reason
  else o

theorem closeSession_order (l : LaneId) (c : CloseCause) (s : State) (k : OrderSlot) :
    (closeSession l c s).order k = (s.order k).map (s.closeFate l c k) := by
  rw [closeSession_eq, recallCause_order, dumpStaged_lane, dumpStaged_order, waitingClosed_staged, waitingClosed_lane,
    waitingClosed_order, waits_eq]
  cases order : s.order k with
  | none => simp
  | some o =>
    unfold State.closeFate
    by_cases waits : o.waitsOn l
    · have state : o.state ≠ .staged := by
        intro state
        simp [Order.waitsOn, state] at waits
      simp [waits, state, Order.stopped, Order.toRecalling]
    · by_cases dumps : (s.lane l).head = some k ∧ o.state = .staged
      · simp [waits, dumps, Order.dumped, Order.toRecalling]
      · have stands : ¬((s.lane l).head = some k ∧ (some o).any (fun o => o.state == .staged) = true) := by
          simpa using dumps
        rw [if_neg stands]
        by_cases recalls : (s.lane l).drawer = .opened ∧ (s.lane l).load = some k <;>
          simp [waits, dumps, recalls]

theorem waitingClosed_rest (l : LaneId) (c : CloseCause) (s : State) : Touches
    { lanes := [l], work := [l], orders := positions _ } (waitingClosed l c s) (closeSession l c s) :=
  (dumpStaged_touches mem_positions (by simp) _ _).trans (recallCause_touches (by simp) (by simp) mem_positions _ _)

theorem closeSession_placement (l : LaneId) (c : CloseCause) (s : State) :
    (closeSession l c s).custody.placement = s.custody.placement.filter fun i => !s.waits l i := by
  rw [(waitingClosed_rest l c s).placement.resolve_left (by simp), waitingClosed, closeOrder_eq, stopEvery_placement]
  rfl

theorem closeSession_path (l : LaneId) (c : CloseCause) (s : State) :
    (closeSession l c s).path = s.path.dequeue (s.claimWaits l) := by
  rw [(waitingClosed_rest l c s).path.resolve_left (by simp), waitingClosed, closeOrder_eq, stopEvery_path, claimWaits_eq]
  rfl

/-- What the waiting orders of a lane hold of a cassette. -/
theorem stoppedNeed_waits (s : State) (l : LaneId) (c : CassetteId) :
    s.stoppedNeed (Order.waitsOn l) c (positions _) = (((positions _).filter (s.waits l)).map (s.heldNeed c)).sum := by
  unfold State.stoppedNeed
  refine congrArg List.sum (List.map_congr_left fun k m => ?_)
  obtain ⟨o, order, waits⟩ := any_stops.mp (List.mem_filter.mp m).2
  have state : o.state = .held ∨ o.state = .queued := by
    simp only [Order.waitsOn, Bool.and_eq_true, Bool.or_eq_true, beq_iff_eq] at waits
    exact waits.2
  rw [heldNeed_of_waits order state, State.needOf, order]
  rfl

theorem closeSession_cassette (l : LaneId) (cause : CloseCause) (s : State) (c : CassetteId) :
    (closeSession l cause s).cassette c = { s.cassette c with
      reserved := (s.cassette c).reserved - (((positions _).filter (s.waits l)).map (s.heldNeed c)).sum } := by
  rw [((waitingClosed_rest l cause s).cassettes c).resolve_left (by simp), waitingClosed, closeOrder_eq, stopEvery_cassette]
  exact congrArg (fun n => { s.cassette c with reserved := (s.cassette c).reserved - n }) (stoppedNeed_waits s l c)

theorem closeSession_alone (l : LaneId) (c : CloseCause) (s : State) : Touches
    { cassettes := positions _, orders := positions _, placement := true, lanes := [l], path := true, work := [l] } s
    (closeSession l c s) :=
  closeSession_touches mem_positions mem_positions rfl rfl (by simp) (by simp) c s

theorem closeSession_lane_other {k : LaneId} (apart : k ≠ l) (c : CloseCause) (s : State) :
    (closeSession l c s).lane k = s.lane k := by
  rcases (closeSession_alone l c s).lanes k with named | same | ⟨closes, -⟩
  · exact absurd (List.mem_singleton.mp named) apart
  · exact same
  · simp at closes

/-- A closed session is no longer OPEN. -/
theorem closeSession_ended (l : LaneId) (c : CloseCause) (s : State) :
    ((completeSessions (closeSession l c s)).lane l).session ≠ .opened := by
  rw [completeSessions_lane_eq, closeSession_lane, Lane.completed]
  dsimp only
  split <;> simp

/-! ### SESSION CLOSE -/

theorem sessionClose_reply (quiet : firstRefusal s.quietChecks = none) (lane : laneOf (byteAt ps 0) = some l) :
    sessionClose ps s = if (s.lane l).session = .opened
      then .done (completeSessions (closeSession l .sessionClosed s)) .ok .empty (some (.lane l))
      else .refuse .wrongState .empty (some (.lane l)) := by
  rw [sessionClose, checked_pass quiet, lane]
  simp only [param]
  split
  next opened => exact checked_pass (by simp [firstRefusal, opened])
  next shut => exact checked_fail (by simp [firstRefusal, shut])

/-- The state in which SESSION CLOSE of an OPEN session ends. -/
def sessionEnded (l : LaneId) (s : State) : State :=
  (finish s.released.written (completeSessions (closeSession l .sessionClosed s.released.written)) (some (.lane l))
    (some (.lane l))).answering .ok .empty

theorem yields_close {P : State → Prop} (awake : s.awake = true) (bytes : carries 1 ps = true)
    (lane : laneOf (byteAt ps 0) = some l) (opened : (s.lane l).session = .opened) (ends : P (sessionEnded l s)) :
    Yields (.sessionClose ps) s P :=
  yields_done rfl (takes_of_awake awake) bytes
    ((sessionClose_reply (s := s.released.written) (quietChecks_of_awake awake) lane).trans
      (if_pos (by simpa using opened))) ends

/-- An order after SESSION CLOSE. -/
theorem sessionEnded_order (order : s.order k = some o) : (sessionEnded l s).order k =
    some { s.closeFate l .sessionClosed k o with
      mark := o.mark || decide (s.closeFate l .sessionClosed k o ≠ o) } := by
  have fate : s.released.written.closeFate l .sessionClosed k o = s.closeFate l .sessionClosed k o := by
    simp [State.closeFate]
  have mark : (s.closeFate l .sessionClosed k o).mark = o.mark := by
    unfold State.closeFate Order.toRecalling
    (repeat' split) <;> rfl
  have new : (completeSessions (closeSession l .sessionClosed s.released.written)).order k =
      some (s.closeFate l .sessionClosed k o) := by
    rw [completeSessions_order, closeSession_order, taken_order, order, ← fate]
    rfl
  rw [sessionEnded, answering_order,
    finish_order_apart (named := some (.lane l)) (by rw [taken_order, order]) new mark (by simp), mark]

/-- An order that SESSION CLOSE takes to another state is marked. -/
theorem sessionEnded_order_moved (order : s.order k = some o) (fate : s.closeFate l .sessionClosed k o = q)
    (moved : q.state ≠ o.state) : (sessionEnded l s).order k = some { q with mark := true } := by
  have other : q ≠ o := fun same => moved (congrArg Order.state same)
  rw [sessionEnded_order order, fate, decide_eq_true other, Bool.or_true]

theorem sessionEnded_order_still (order : s.order k = some o) (fate : s.closeFate l .sessionClosed k o = o) :
    (sessionEnded l s).order k = some o := by
  rw [sessionEnded_order order, fate]
  simp

/-- The lane after SESSION CLOSE. -/
theorem sessionEnded_lane (l : LaneId) (s : State) : (sessionEnded l s).lane l =
    { s.lane l with session := ((sessionEnded l s).lane l).session, drawer := (s.lane l).drawer.recalled } := by
  rw [sessionEnded, answering_lane, finish_lane_named, completeSessions_lane_rest, closeSession_lane, taken_lane]

theorem answering_laneWork (r : ResultCode) (p : Payload) (s : State) (l : LaneId) :
    (s.answering r p).laneWork l = s.laneWork l := rfl

theorem sessionEnded_laneWork (l : LaneId) (s : State) : (sessionEnded l s).laneWork l =
    { (s.laneWork l).recalled (s.lane l).drawer .sessionClosed with
      dump := if s.dumpsHead l then some 3000 else (s.laneWork l).dump } := by
  have dumps : s.released.written.dumpsHead l = s.dumpsHead l := taken_reads (g := (State.dumpsHead · l)) (fun _ _ => rfl) s
  rw [sessionEnded, answering_laneWork, finish_laneWork, completeSessions_laneWork, closeSession_laneWork, dumps,
    taken_laneWork, taken_lane, CloseCause.recall, routeLimit]

theorem sessionEnded_cassette (l : LaneId) (s : State) (c : CassetteId) : (sessionEnded l s).cassette c =
    { s.cassette c with
      reserved := (s.cassette c).reserved - (((positions _).filter (s.waits l)).map (s.heldNeed c)).sum
      mark := (s.cassette c).mark || decide (((sessionEnded l s).cassette c).reserved ≠ (s.cassette c).reserved) } := by
  have held : (((positions _).filter (s.released.written.waits l)).map (s.released.written.heldNeed c)).sum =
      (((positions _).filter (s.waits l)).map (s.heldNeed c)).sum :=
    taken_reads (g := fun s : State => (((positions _).filter (s.waits l)).map (s.heldNeed c)).sum) (fun _ _ => rfl) s
  have ends : (sessionEnded l s).cassette c = { s.cassette c with
      reserved := (s.cassette c).reserved - (((positions _).filter (s.waits l)).map (s.heldNeed c)).sum
      mark := (s.cassette c).mark || (s.cassette c).reserved - (((positions _).filter (s.waits l)).map
        (s.heldNeed c)).sum != (s.cassette c).reserved } := by
    rw [← held, sessionEnded, answering_cassette, ← taken_cassette s c]
    refine finish_cassette_reserved ?_ (by simp)
    rw [completeSessions_cassette, closeSession_cassette]
  rw [ends]
  congr 2
  generalize (s.cassette c).reserved - _ = n
  by_cases same : n = (s.cassette c).reserved <;> simp [same]

theorem sessionEnded_closes (l : LaneId) (s : State) : SessionCloses (sessionEnded l s) l .sessionClosed :=
  sessionCloses_finish (by rw [closeSession_lane])

/-- The session stays CLOSING while something of the lane is in flight. -/
theorem sessionEnded_closing (busy : ((s.lane l).head ≠ none) ∨
    ((s.lane l).drawer = .opened ∨ (s.lane l).drawer = .retracting ∨ (s.lane l).drawer = .extending)) :
    ((sessionEnded l s).lane l).session = .closing .sessionClosed := by
  refine (sessionEnded_closes l s).2 fun rest => ?_
  obtain ⟨-, head, drawer⟩ := rest
  rw [sessionEnded_lane] at head drawer
  rcases busy with held | opened | retracting | extending
  · exact held head
  all_goals simp_all [Drawer.recalled]

/-- Settles O30: SESSION CLOSE takes an OPEN session to CLOSING and deals with every piece of the lane's work. -/
theorem sessionCloseUnwindsTheLane : Obligations.SessionCloseUnwindsTheLane := by
  refine ⟨?_, ?_, ?_, ?_, ?_, ?_, ?_, ?_, ?_, ?_, ?_, ?_⟩
  case refine_1 =>
    intro ps l s awake bytes lane opened
    refine yields_close awake bytes lane opened ?_
    refine ⟨commandLeaves_finish ((closeSession_touches mem_everyCassette mem_positions rfl rfl (by simp) (by simp) _
      _).trans (completeSessions_touches rfl _)) (by simp), sessionEnded_closes l s, fun k apart => ?_,
      fun k scope => finish_slot_ended (by simpa using opened) (closeSession_ended l _ _) scope,
      sessionEnded_lane l s, sessionEnded_laneWork l s, ?_, ?_, sessionEnded_cassette l s⟩
    · refine sessionSettles_finish (s := s) ?_
      rw [closeSession_lane_other apart, taken_lane]
    · rw [sessionEnded, answering_custody, finish_placement, completeSessions_placement, closeSession_placement,
        taken_custody]
      exact List.filter_congr fun i _ => congrArg _ (taken_reads (g := (State.waits · l i)) (fun _ _ => rfl) s)
    · rw [sessionEnded, answering_path, finish_path, completeSessions_path, closeSession_path, taken_path,
        taken_reads (g := (State.claimWaits · l)) fun _ q => funext fun c => by cases c <;> rfl]
      rfl
  case refine_2 =>
    intro ps l i o s awake bytes lane opened order home waits
    refine yields_close awake bytes lane opened ⟨rfl, ?_⟩
    have waiting : o.waitsOn l = true := by simpa [Order.waitsOn, home] using waits
    refine sessionEnded_order_moved (q := o.stopped .cancelled .sessionClosed) order (if_pos waiting) ?_
    rcases waits with waits | waits <;> simp [Order.stopped, waits]
  case refine_3 =>
    intro ps l i o s awake bytes lane opened order elsewhere head load
    refine yields_close awake bytes lane opened ⟨rfl, sessionEnded_order_still order ?_⟩
    have waiting : ¬o.waitsOn l = true := by
      simp only [Order.waitsOn, Bool.and_eq_true, Bool.or_eq_true, beq_iff_eq]
      tauto
    simp [State.closeFate, waiting, head, load]
  case refine_4 =>
    intro ps l i o s awake bytes lane opened order waits head load
    refine yields_close awake bytes lane opened ⟨rfl, sessionEnded_order_still order ?_⟩
    have waiting : ¬o.waitsOn l = true := by simpa [waits_eq, order] using waits
    rw [State.closeFate, if_neg waiting, if_neg fun dumps => head dumps.1 dumps.2]
    split
    next recalls =>
      have other : o.state ≠ .presented := (load recalls.2).resolve_right fun closed => closed recalls.1
      exact if_neg other
    · rfl
  case refine_5 =>
    intro ps l i o s awake bytes lane opened head order staged
    have waiting : ¬o.waitsOn l = true := by simp [Order.waitsOn, staged]
    refine yields_close awake bytes lane opened ⟨rfl, ?_, sessionEnded_closing (.inl (by simp [head])), ?_⟩
    · rw [sessionEnded_laneWork]
      simp [State.dumpsHead, head, order, staged]
    · refine sessionEnded_order_moved (q := o.dumped .sessionClosed) order ?_ (by simp [Order.dumped, staged])
      rw [State.closeFate, if_neg waiting, if_pos ⟨head, staged⟩]
      rfl
  case refine_6 =>
    intro ps l i o s awake bytes lane opened drawer load order presented
    have waiting : ¬o.waitsOn l = true := by simp [Order.waitsOn, presented]
    refine yields_close awake bytes lane opened ⟨rfl, ?_, ?_, sessionEnded_closing (.inr (.inl drawer)), ?_⟩
    · rw [sessionEnded_lane]
      simp [Drawer.recalled, drawer]
    · rw [sessionEnded_laneWork]
      simp [LaneWork.recalled, drawer]
    · refine sessionEnded_order_moved (q := o.toRecalling (some .sessionClosed)) order ?_
        (by simp [Order.toRecalling, presented])
        |>.trans ?_
      · simp [State.closeFate, waiting, presented, drawer, load]
        rfl
      · simp [Order.toRecalling, presented]
  case refine_7 =>
    intro ps l s awake bytes lane opened drawer
    refine yields_close awake bytes lane opened ⟨rfl, ?_, ?_⟩
    · rw [sessionEnded_lane]
      simp [Drawer.recalled, drawer]
    · rw [sessionEnded_laneWork]
      by_cases free : (s.laneWork l).pendingRecall = none ∨ (s.laneWork l).pendingRecall = some .drawerRecall <;>
        simp [LaneWork.recalled, drawer, free]
  case refine_8 =>
    intro ps l s awake bytes lane opened drawer load
    refine yields_close awake bytes lane opened ⟨rfl, ?_, ?_, sessionEnded_closing (.inr (.inl drawer))⟩
    · rw [sessionEnded_lane]
      simp [Drawer.recalled, drawer]
    · rw [sessionEnded_laneWork]
      simp [LaneWork.recalled, drawer]
  case refine_9 =>
    intro ps l i o s awake bytes lane opened head load order aborting
    refine yields_close awake bytes lane opened ⟨rfl, sessionEnded_order_still order ?_, ?_, ?_,
      sessionEnded_closing (.inl (by simp [head]))⟩
    · simp [State.closeFate, Order.waitsOn, aborting, load]
    · rw [sessionEnded_lane, head]
    · rw [sessionEnded_laneWork]
      simp [State.dumpsHead, head, order, aborting]
  case refine_10 =>
    intro ps l i o s awake bytes lane opened drawer load head order recalling
    refine yields_close awake bytes lane opened ⟨rfl, sessionEnded_order_still order ?_, ?_,
      sessionEnded_closing (.inr (.inr (.inl drawer)))⟩
    · simp [State.closeFate, Order.waitsOn, recalling, head, drawer]
    · rw [sessionEnded_lane, load]
  case refine_11 =>
    intro ps l s awake bytes lane opened notOpen notExtending
    refine yields_close awake bytes lane opened ⟨rfl, ?_, ?_, ?_, ?_⟩
    · rw [sessionEnded_lane]
      simp [Drawer.recalled, notOpen]
    · rw [sessionEnded_lane]
    · rw [sessionEnded_laneWork]
      simp [LaneWork.recalled, notOpen, notExtending]
    · rw [sessionEnded_laneWork]
      simp [LaneWork.recalled, notOpen, notExtending]
  case refine_12 =>
    intro ps l s awake bytes lane shut
    exact refuses_of rfl (takes_of_awake awake) bytes
      ((sessionClose_reply (s := s.released.written) (quietChecks_of_awake awake) lane).trans
        (if_neg (by simpa using shut)))

end Sys2Proof.Machine
end

section
/-! A cassette taken out: the attempt, the leveling session and the orders that it stops. -/

namespace Sys2Proof.Machine
set_option Elab.async false

variable {s t : State} {f : Footprint} {c d : CassetteId} {i k : OrderSlot} {o : Order} {l : LaneId} {v : Leveling}

/-! ### The attempt and the leveling session -/

/-- The attempt on a cassette and its leveling session have ended, and its orders are still to be dealt with. -/
def levelingGone (c : CassetteId) (s : State) : State := endGone c (stopAttempt c s)

theorem stopAttempt_path (c : CassetteId) (s : State) : (stopAttempt c s).path =
    { s.path with attempt := if s.pickTarget = some c then none else s.path.attempt } := by
  unfold stopAttempt
  split <;> rfl

theorem stopAttempt_alone (c : CassetteId) (s : State) : Touches { path := true } s (stopAttempt c s) := by
  unfold stopAttempt
  split
  · exact .modPath rfl _
  · exact .refl _ s

theorem stopAttempt_holdsNote (c : CassetteId) (s : State) : (stopAttempt c s).holdsNote c = s.holdsNote c := by
  simp [State.holdsNote, stopAttempt_path]

theorem gaugeHolds_eq (s : State) (c : CassetteId) :
    s.gaugeHolds c = ((s.cassette c).leveling.isSome && s.holdsNote c) := by
  simp [State.gaugeHolds, State.holdsNote, Bool.and_assoc]

theorem levelingGone_none (idle : (s.cassette c).leveling = none) : levelingGone c s = stopAttempt c s :=
  endGone_of_no_session (by rw [stopAttempt_cassette, idle])

theorem levelingGone_some (leveling : (s.cassette c).leveling = some v) :
    levelingGone c s = endLeveling c (stopAttempt c s) := by
  rw [levelingGone, endGone, stopAttempt_cassette, leveling]

/-- The end of the session touches the bins only if a note stands at the gauge for it. -/
theorem levelingGone_touches (cs : c ∈ f.cassettes) (b : s.gaugeHolds c = true → f.bins = true) (p : f.path = true) :
    Touches f s (levelingGone c s) := by
  have attempt : Touches f s (stopAttempt c s) := by
    unfold stopAttempt
    split
    · exact .modPath p _
    · exact .refl _ s
  cases leveling : (s.cassette c).leveling with
  | none => rwa [levelingGone_none leveling]
  | some v =>
    rw [levelingGone_some leveling]
    refine attempt.trans ?_
    cases held : s.holdsNote c with
    | true => exact endLeveling_touches cs (b (by simp [gaugeHolds_eq, leveling, held])) p _
    | false => exact endLeveling_noteless_touches cs p (by rw [stopAttempt_holdsNote, held])

theorem levelingGone_alone (c : CassetteId) (s : State) :
    Touches { cassettes := [c], bins := true, path := true } s (levelingGone c s) :=
  levelingGone_touches (by simp) (fun _ => rfl) rfl

@[simp] theorem levelingGone_order (c : CassetteId) (s : State) (k : OrderSlot) : (levelingGone c s).order k = s.order k :=
  ((levelingGone_alone c s).orders k).resolve_left (by simp)

@[simp] theorem levelingGone_placement (c : CassetteId) (s : State) :
    (levelingGone c s).custody.placement = s.custody.placement :=
  (levelingGone_alone c s).placement.resolve_left (by simp)

@[simp] theorem levelingGone_settings (c : CassetteId) (s : State) :
    (levelingGone c s).custody.settings = s.custody.settings :=
  (levelingGone_alone c s).settings.resolve_left (by simp)

/-- The cassette as the end of its session leaves it. -/
theorem levelingGone_cassette (c d : CassetteId) (s : State) : (levelingGone c s).cassette d =
    if c = d ∧ (s.cassette d).leveling.isSome then ((s.cassette d).spent (s.gaugeHolds c)).returned else s.cassette d := by
  cases leveling : (s.cassette c).leveling with
  | none =>
    rw [levelingGone_none leveling, stopAttempt_cassette, if_neg]
    rintro ⟨rfl, some⟩
    simp [leveling] at some
  | some v =>
    rw [levelingGone_some leveling, endLeveling_cassette, stopAttempt_cassette, stopAttempt_holdsNote, gaugeHolds_eq]
    by_cases here : c = d
    · subst here; simp [leveling]
    · simp [here]

theorem levelingGone_bins (c : CassetteId) (s : State) : (levelingGone c s).custody.bins =
    if s.gaugeHolds c then s.custody.bins.rejected 1 else s.custody.bins := by
  have same : (stopAttempt c s).custody.bins = s.custody.bins := (stopAttempt_alone c s).bins.resolve_left (by simp)
  cases leveling : (s.cassette c).leveling with
  | none => rw [levelingGone_none leveling, same]; simp [gaugeHolds_eq, leveling]
  | some v =>
    rw [levelingGone_some leveling, endLeveling_bins, stopAttempt_holdsNote, same]
    simp [gaugeHolds_eq, leveling]

/-- The claim of the leveling session of a removed cassette. -/
def State.levelingClaim (s : State) (c : CassetteId) : Claim → Bool
  | .order _ => false
  | .leveling k => k == c && (s.cassette c).leveling.isSome

theorem dequeue_levelingClaim (leveling : (s.cassette c).leveling = some v) (p : NotePath) :
    { p with queue := p.queue.filter (· != .leveling c) } = p.dequeue (s.levelingClaim c) :=
  NotePath.dequeue_eq fun q => by
    cases q with
    | order k => simp [State.levelingClaim]
    | leveling k => by_cases here : k = c <;> simp [State.levelingClaim, leveling, here, bne]

/-- The transport as the end of a session that does not hold it leaves it. -/
theorem levelingGone_path (holder : s.path.holder ≠ some (.leveling c)) :
    (levelingGone c s).path = (stopAttempt c s).path.dequeue (s.levelingClaim c) := by
  cases leveling : (s.cassette c).leveling with
  | none =>
    rw [levelingGone_none leveling]
    exact (NotePath.dequeue_none fun q => by cases q <;> simp [State.levelingClaim, leveling]).symm
  | some v =>
    rw [levelingGone_some leveling, endLeveling_path_waiting (by rw [stopAttempt_path]; exact holder),
      dequeue_levelingClaim leveling]

/-- The queue loses the claim of the session, whether it held the transport or waited. -/
theorem levelingGone_queue (c : CassetteId) (s : State) :
    (levelingGone c s).path.queue = s.path.queue.filter fun q => !s.levelingClaim c q := by
  by_cases holder : s.path.holder = some (.leveling c)
  · cases leveling : (s.cassette c).leveling with
    | none =>
      rw [levelingGone_none leveling, stopAttempt_path]
      symm
      rw [List.filter_eq_self]
      intro q _
      cases q <;> simp [State.levelingClaim, leveling]
    | some v =>
      have holder' : (stopAttempt c s).path.holder = some (.leveling c) := by rw [stopAttempt_path]; exact holder
      have queue : (endLeveling c (stopAttempt c s)).path.queue = s.path.queue.filter (· != .leveling c) := by
        cases reading : (stopAttempt c s).path.heldReading with
        | none => rw [endLeveling_path_empty holder' reading, stopAttempt_path]
        | some g => rw [endLeveling_path_spent holder' (by simp [reading]), stopAttempt_path]
      rw [levelingGone_some leveling, queue]
      exact congrArg NotePath.queue (dequeue_levelingClaim leveling s.path)
  · rw [levelingGone_path holder, stopAttempt_path]
    rfl

/-- The session of a cassette decides nothing about which order picks. -/
theorem levelingGone_picking (c : CassetteId) (s : State) : (levelingGone c s).pickingOrder = s.pickingOrder := by
  by_cases holder : s.path.holder = some (.leveling c)
  · have before : s.pickingOrder = none := by
      rw [State.pickingOrder, holder]
      cases s.path.state <;> rfl
    rw [before]
    have holder' : (levelingGone c s).path.holder = some (.leveling c) ∨ (levelingGone c s).path.holder = none := by
      cases leveling : (s.cassette c).leveling with
      | none => rw [levelingGone_none leveling, stopAttempt_path]; exact .inl holder
      | some v =>
        have holder' : (stopAttempt c s).path.holder = some (.leveling c) := by rw [stopAttempt_path]; exact holder
        rw [levelingGone_some leveling]
        cases reading : (stopAttempt c s).path.heldReading with
        | none => rw [endLeveling_path_empty holder' reading]; exact .inr rfl
        | some g => rw [endLeveling_path_spent holder' (by simp [reading])]; exact .inr rfl
    rw [State.pickingOrder]
    rcases holder' with holder' | holder' <;> rw [holder'] <;> cases (levelingGone c s).path.state <;> rfl
  · rw [State.pickingOrder, levelingGone_path holder, stopAttempt_path, State.pickingOrder]
    simp only [NotePath.dequeue, levelingGone_order]

/-! ### The orders -/

/-- A waiting order that needs notes from a cassette. -/
def Order.waitsFor (c : CassetteId) (o : Order) : Bool := (o.state == .held || o.state == .queued) && decide (0 < o.need c)

theorem failGone_eq (c : CassetteId) : failGone c = stopIf (Order.waitsFor c) .failed .cassetteGone := by
  funext i s
  unfold failGone stopIf
  cases order : s.order i with
  | none => rfl
  | some o => simp [Order.waitsFor]

/-- The orders of a removed cassette have been stopped. -/
def ordersGone (c : CassetteId) (s : State) : State := forEach (failGone c) (abortGone c (levelingGone c s))

theorem picks_iff : s.picks i = true ↔ s.path.state = .picking ∧ s.path.holder = some (.order i) := by
  simp [State.picks]

theorem losesTo_iff : s.losesTo c i = true ↔
    ∃ o, s.order i = some o ∧ 0 < o.need c ∧ (s.picks i = true ∨ o.state = .held ∨ o.state = .queued) := by
  rw [State.losesTo, Option.any_eq_true]
  simp [or_assoc]

/-- Either the order that picks still needs notes from the cassette, or no order that picks loses anything. -/
theorem gone_cases (c : CassetteId) (s : State) : (∃ i o, s.pickingOrder = some (i, o) ∧ 0 < o.need c) ∨
    (∀ i, s.picks i = true → s.losesTo c i = false) := by
  by_cases loser : ∃ i o, s.pickingOrder = some (i, o) ∧ 0 < o.need c
  · exact .inl loser
  · refine .inr fun i picks => Bool.eq_false_iff.mpr fun loses => ?_
    obtain ⟨o, order, needs, -⟩ := losesTo_iff.mp loses
    obtain ⟨state, holder⟩ := picks_iff.mp picks
    exact loser ⟨i, o, pickingOrder_of state holder order, needs⟩

theorem abortGone_loser (picking : s.pickingOrder = some (i, o)) (needs : 0 < o.need c) :
    abortGone c (levelingGone c s) = abortPicking .cassetteGone (levelingGone c s) := by
  rw [abortGone, levelingGone_picking, picking]
  exact if_pos needs

theorem abortGone_safe (safe : ∀ i, s.picks i = true → s.losesTo c i = false) :
    abortGone c (levelingGone c s) = levelingGone c s := by
  rw [abortGone, levelingGone_picking]
  cases picking : s.pickingOrder with
  | none => rfl
  | some p =>
    obtain ⟨i, o⟩ := p
    obtain ⟨state, holder, order⟩ := pickingOrder_some picking
    refine if_neg fun needs => ?_
    have picks := picks_iff.mpr ⟨state, holder⟩
    exact absurd (losesTo_iff.mpr ⟨o, order, needs, .inl picks⟩) (by simp [safe i picks])

/-! #### When no order that picks loses anything -/

theorem losesTo_of_not_picks (idle : s.picks k = false) : s.losesTo c k = (s.order k).any (Order.waitsFor c) := by
  unfold State.losesTo
  cases order : s.order k <;> simp [idle, Order.waitsFor, Bool.and_comm]

theorem losesTo_safe (safe : ∀ i, s.picks i = true → s.losesTo c i = false) (k : OrderSlot) :
    s.losesTo c k = (s.order k).any (Order.waitsFor c) := by
  cases picks : s.picks k with
  | false => exact losesTo_of_not_picks picks
  | true =>
    rw [safe k picks]
    symm
    refine Bool.eq_false_iff.mpr fun waits => ?_
    obtain ⟨o, order, waits⟩ := any_stops.mp waits
    simp only [Order.waitsFor, Bool.and_eq_true, decide_eq_true_eq] at waits
    have loses : s.losesTo c k = true := losesTo_iff.mpr ⟨o, order, waits.2, .inl picks⟩
    simp [safe k picks] at loses

theorem endsBy_safe (safe : ∀ i, s.picks i = true → s.losesTo c i = false) (k : OrderSlot) :
    s.endsBy c k = (s.order k).any (Order.waitsFor c) := by
  rw [← losesTo_safe safe, State.endsBy]
  cases picks : s.picks k with
  | false => simp
  | true => simp [safe k picks]

theorem ordersGone_safe (safe : ∀ i, s.picks i = true → s.losesTo c i = false) :
    ordersGone c s = forEach (stopIf (Order.waitsFor c) .failed .cassetteGone) (levelingGone c s) := by
  rw [ordersGone, abortGone_safe safe, failGone_eq]

/-! #### When the order that picks loses -/

theorem ordersGone_loser (picking : s.pickingOrder = some (i, o)) (needs : 0 < o.need c) : ordersGone c s =
    forEach (stopIf (Order.waitsFor c) .failed .cassetteGone) (abortPicking .cassetteGone (levelingGone c s)) := by
  rw [ordersGone, abortGone_loser picking needs, failGone_eq]

theorem picks_loser (picking : s.pickingOrder = some (i, o)) (k : OrderSlot) : s.picks k = decide (k = i) := by
  obtain ⟨state, holder, -⟩ := pickingOrder_some picking
  by_cases here : k = i
  · subst here; simp [State.picks, state, holder]
  · simp [State.picks, state, holder, here, Ne.symm here]

theorem losesTo_loser (picking : s.pickingOrder = some (i, o)) (needs : 0 < o.need c) (k : OrderSlot) :
    s.losesTo c k = (decide (k = i) || (s.order k).any (Order.waitsFor c)) := by
  by_cases here : k = i
  · subst here
    rw [State.losesTo, picks_loser picking]
    simp [(pickingOrder_some picking).2.2, needs]
  · rw [losesTo_of_not_picks (by simp [picks_loser picking, here])]
    simp [here]

theorem endsBy_loser (picking : s.pickingOrder = some (i, o)) (needs : 0 < o.need c) (k : OrderSlot) :
    s.endsBy c k = if k = i then decide (o.acceptedTotal = 0) else (s.order k).any (Order.waitsFor c) := by
  rw [State.endsBy, losesTo_loser picking needs, picks_loser picking]
  by_cases here : k = i
  · subst here
    by_cases empty : o.acceptedTotal = 0 <;> simp [(pickingOrder_some picking).2.2, empty]
  · simp [here]

/-- The order that picks, once it is aborted, waits for nothing. -/
theorem aborted_waitsFor (picking : s.pickingOrder = some (i, o)) (k : OrderSlot) :
    ((abortPicking .cassetteGone (levelingGone c s)).order k).any (Order.waitsFor c) =
      (!decide (k = i) && (s.order k).any (Order.waitsFor c)) := by
  have picking' : (levelingGone c s).pickingOrder = some (i, o) := by rw [levelingGone_picking, picking]
  by_cases here : k = i
  · subst here
    have still := Order.aborted_still (r := .cassetteGone) (by decide) (by decide) o
    rw [abortPicking_order picking']
    simp only [not_or] at still
    simp [Order.waitsFor, still.1, still.2]
  · rw [abortPicking_order_other picking' here, levelingGone_order]
    simp [here]

end Sys2Proof.Machine
end

section
/-! The removal of a cassette as a whole. -/

namespace Sys2Proof.Machine
set_option Elab.async false

variable {s t u : State} {f : Footprint} {c d : CassetteId} {i k : OrderSlot} {o p : Order} {l : LaneId} {v : Leveling}
  {named access : Option RecordRef}

/-! ### What the stopped orders leave -/

theorem ordersGone_order_loser (picking : s.pickingOrder = some (i, o)) (needs : 0 < o.need c) :
    (ordersGone c s).order i = some (o.aborted .cassetteGone) := by
  have idle : ((abortPicking .cassetteGone (levelingGone c s)).order i).any (Order.waitsFor c) = false := by
    rw [aborted_waitsFor picking]
    simp
  rw [ordersGone_loser picking needs, stopEvery_order, idle,
    abortPicking_order (by rw [levelingGone_picking, picking])]
  simp

/-- An order that does not pick is stopped if it waits for notes from the cassette. -/
theorem ordersGone_order_other (idle : s.picks k = false) : (ordersGone c s).order k =
    if (s.order k).any (Order.waitsFor c) then (s.order k).map (Order.stopped .failed .cassetteGone) else s.order k := by
  rcases gone_cases c s with ⟨i, o, picking, needs⟩ | safe
  · have apart : k ≠ i := by simpa [picks_loser picking] using idle
    rw [ordersGone_loser picking needs, stopEvery_order,
      abortPicking_order_other (by rw [levelingGone_picking, picking]) apart, levelingGone_order]
  · rw [ordersGone_safe safe, stopEvery_order, levelingGone_order]

/-- An order that loses nothing stands. -/
theorem ordersGone_order_stands (stands : s.losesTo c k = false) : (ordersGone c s).order k = s.order k := by
  rcases gone_cases c s with ⟨i, o, picking, needs⟩ | safe
  · rw [losesTo_loser picking needs, Bool.or_eq_false_iff, decide_eq_false_iff_not] at stands
    have idle : s.picks k = false := by simpa [picks_loser picking] using stands.1
    rw [ordersGone_order_other idle, stands.2]
    simp
  · rw [losesTo_safe safe] at stands
    rw [ordersGone_safe safe, stopEvery_order, levelingGone_order, stands]
    simp

theorem ordersGone_placement (c : CassetteId) (s : State) :
    (ordersGone c s).custody.placement = s.custody.placement.filter fun k => !s.endsBy c k := by
  rcases gone_cases c s with ⟨i, o, picking, needs⟩ | safe
  · rw [ordersGone_loser picking needs, stopEvery_placement, abortPicking_placement (by rw [levelingGone_picking, picking]),
      levelingGone_placement]
    split
    next empty =>
      rw [List.filter_filter]
      refine List.filter_congr fun k _ => ?_
      rw [aborted_waitsFor picking, endsBy_loser picking needs]
      by_cases here : k = i <;> simp [here, empty]
    next notes =>
      refine List.filter_congr fun k _ => ?_
      rw [aborted_waitsFor picking, endsBy_loser picking needs]
      by_cases here : k = i <;> simp [here, notes]
  · rw [ordersGone_safe safe, stopEvery_placement, levelingGone_placement]
    refine List.filter_congr fun k _ => ?_
    rw [levelingGone_order, endsBy_safe safe]

theorem claimEnds_eq (s : State) (c : CassetteId) (q : Claim) : s.claimEnds c q =
    match q with
    | .order i => s.endsBy c i
    | .leveling k => s.levelingClaim c (.leveling k) := by
  cases q <;> rfl

theorem ordersGone_queue (c : CassetteId) (s : State) :
    (ordersGone c s).path.queue = s.path.queue.filter fun q => !s.claimEnds c q := by
  rcases gone_cases c s with ⟨i, o, picking, needs⟩ | safe
  · have aborts : (abortPicking .cassetteGone (levelingGone c s)).path.queue =
        (levelingGone c s).path.queue.filter fun q => !(decide (q = .order i) && decide (o.acceptedTotal = 0)) := by
      rw [abortPicking_path (by rw [levelingGone_picking, picking])]
      split
      next empty => simp [empty]; rfl
      next notes => simp [notes, NotePath.purged]
    rw [ordersGone_loser picking needs, stopEvery_path, NotePath.dequeue, aborts, levelingGone_queue, List.filter_filter,
      List.filter_filter]
    refine List.filter_congr fun q _ => ?_
    rw [claimEnds_eq]
    cases q with
    | leveling k => simp [State.claimOf]
    | order k =>
      simp only [State.claimOf, State.levelingClaim, aborted_waitsFor picking, endsBy_loser picking needs]
      by_cases here : k = i <;> simp [here]
  · rw [ordersGone_safe safe, stopEvery_path, NotePath.dequeue, levelingGone_queue, List.filter_filter]
    refine List.filter_congr fun q _ => ?_
    rw [claimEnds_eq]
    cases q with
    | leveling k => simp [State.claimOf]
    | order k => simp [State.claimOf, State.levelingClaim, endsBy_safe safe]

/-- A sum over the slots of a kind, with one of them apart. -/
theorem sum_filter_apart {P : OrderSlot → Bool} (g : OrderSlot → Nat) (member : P i = true) :
    (((positions _).filter P).map g).sum =
      g i + (((positions _).filter fun k => !decide (k = i) && P k).map g).sum := by
  have inside : i ∈ (positions _).filter P := List.mem_filter.mpr ⟨mem_positions i, member⟩
  rw [← List.sum_map_erase g inside, (positions_nodup.filter P).erase_eq_filter, List.filter_filter]
  congr 3

/-- What the stopped orders held reserved is released, and nothing else changes of a cassette than its session did. -/
theorem ordersGone_cassette (c d : CassetteId) (s : State) : (ordersGone c s).cassette d =
    { (levelingGone c s).cassette d with
      reserved := (s.cassette d).reserved - (((positions _).filter (s.losesTo c)).map (s.needOf d)).sum } := by
  have held : ((levelingGone c s).cassette d).reserved = (s.cassette d).reserved := by
    rw [levelingGone_cassette]
    split
    · exact Cassette.spent_reserved _ _
    · rfl
  rcases gone_cases c s with ⟨i, o, picking, needs⟩ | safe
  · have picking' : (levelingGone c s).pickingOrder = some (i, o) := by rw [levelingGone_picking, picking]
    have rest : (abortPicking .cassetteGone (levelingGone c s)).stoppedNeed (Order.waitsFor c) d (positions _) =
        (((positions _).filter fun k => !decide (k = i) && s.losesTo c k).map (s.needOf d)).sum := by
      unfold State.stoppedNeed
      have same : ((positions _).filter fun k =>
          ((abortPicking .cassetteGone (levelingGone c s)).order k).any (Order.waitsFor c)) =
          (positions _).filter fun k => !decide (k = i) && s.losesTo c k :=
        List.filter_congr fun k _ => by
          rw [aborted_waitsFor picking, losesTo_loser picking needs]
          by_cases here : k = i <;> simp [here]
      rw [same]
      refine congrArg List.sum (List.map_congr_left fun k m => ?_)
      have apart : k ≠ i := by
        have kept := (List.mem_filter.mp m).2
        simp only [Bool.and_eq_true, Bool.not_eq_true', decide_eq_false_iff_not] at kept
        exact kept.1
      rw [State.needOf, State.needOf, abortPicking_order_other picking' apart, levelingGone_order]
    have need : s.needOf d i = o.need d := by
      rw [State.needOf, (pickingOrder_some picking).2.2]
      rfl
    have loses : s.losesTo c i = true := by rw [losesTo_loser picking needs]; simp
    rw [ordersGone_loser picking needs, stopEvery_cassette, rest, abortPicking_cassette picking',
      sum_filter_apart (s.needOf d) loses, need, ← Nat.sub_sub, ← held]
  · have all : (levelingGone c s).stoppedNeed (Order.waitsFor c) d (positions _) =
        (((positions _).filter (s.losesTo c)).map (s.needOf d)).sum := by
      unfold State.stoppedNeed
      simp only [levelingGone_order, ← losesTo_safe safe]
      refine congrArg List.sum (List.map_congr_left fun k _ => ?_)
      rw [State.needOf, State.needOf, levelingGone_order]
    rw [ordersGone_safe safe, stopEvery_cassette, all, ← held]

/-- Beyond the session, the orders change the orders, the placement order and the transport. -/
theorem ordersGone_rest (c : CassetteId) (s : State) : Touches
    { cassettes := positions _, orders := positions _, placement := true, path := true } (levelingGone c s)
    (ordersGone c s) := by
  have stops : ∀ t, Touches { cassettes := positions _, orders := positions _, placement := true, path := true } t
      (forEach (failGone c) t) := fun t => by
    rw [failGone_eq]
    exact stopAll_touches mem_positions mem_positions rfl rfl _ t
  refine Touches.trans ?_ (stops _)
  unfold abortGone
  (repeat' split) <;> first | exact abortPicking_touches mem_positions mem_positions rfl rfl _ _ | exact .refl _ _

/-- Orders that need nothing of a cassette are left alone with all they hold. -/
theorem ordersGone_idle (idle : s.anyOrder (fun o => decide (0 < o.need c)) = false) :
    ordersGone c s = levelingGone c s := by
  have none : ∀ k, (s.order k).any (fun o => decide (0 < o.need c)) = false := (tableAny_false_iff _ _).mp idle
  have safe : ∀ i, s.picks i = true → s.losesTo c i = false := fun i _ => Bool.eq_false_iff.mpr fun loses => by
    obtain ⟨o, order, needs, -⟩ := losesTo_iff.mp loses
    simpa [order, needs] using none i
  rw [ordersGone_safe safe]
  refine forEach_keeps (fun t => t = levelingGone c s) _ (fun k t same => ?_) _ rfl
  subst same
  refine if_neg fun waits => ?_
  obtain ⟨o, order, waits⟩ := any_stops.mp waits
  simp only [Order.waitsFor, Bool.and_eq_true, decide_eq_true_eq] at waits
  rw [levelingGone_order] at order
  simpa [order, waits.2] using none k

/-! ### The cassette taken out -/

/-- The removal, with the sessions and the quiet entry that it completes. -/
def takenOut (c : CassetteId) (s : State) : State := completeQuiet (completeSessions (removeCassette c s))

/-- The cassette is gone, its shutter SHUT. -/
def slotEmptied (c : CassetteId) (s : State) : State := (shutNow c s).modCassette c fun r => { r with state := .absent }

theorem removeCassette_eq (c : CassetteId) (s : State) : removeCassette c s = slotEmptied c (ordersGone c s) := by
  rw [removeCassette, slotEmptied, ordersGone, levelingGone]

theorem slotEmptied_cassette (c d : CassetteId) (s : State) : (slotEmptied c s).cassette d =
    if c = d then (s.cassette d).removed else s.cassette d := by
  rw [slotEmptied, State.modCassette_cassette, shutNow_cassette]
  split <;> rfl

theorem slotEmptied_path (c : CassetteId) (s : State) : (slotEmptied c s).path =
    { s.path with shutterTravel := tableSet s.path.shutterTravel c none } := rfl

theorem slotEmptied_touches (cs : c ∈ f.cassettes) (p : f.path = true) (s : State) : Touches f s (slotEmptied c s) :=
  (shutNow_touches cs p s).trans (.modCassette cs _)

theorem removeCassette_path (c : CassetteId) (s : State) : (removeCassette c s).path =
    { (ordersGone c s).path with shutterTravel := tableSet (ordersGone c s).path.shutterTravel c none } := by
  rw [removeCassette_eq, slotEmptied_path]

/-- Beyond the session of the cassette, a removal leaves alone what its orders and its slot leave alone. -/
theorem removeCassette_rest (c : CassetteId) (s : State) : Touches
    { cassettes := positions _, orders := positions _, placement := true, path := true } (levelingGone c s)
    (removeCassette c s) := by
  rw [removeCassette_eq]
  exact (ordersGone_rest c s).trans (slotEmptied_touches (mem_positions c) rfl _)

theorem removeCassette_cassette (c d : CassetteId) (s : State) : (removeCassette c s).cassette d =
    if c = d then ((ordersGone c s).cassette d).removed else (ordersGone c s).cassette d := by
  rw [removeCassette_eq, slotEmptied_cassette]

theorem takenOut_cassette (c d : CassetteId) (s : State) : (takenOut c s).cassette d =
    if c = d then ((ordersGone c s).cassette d).removed else (ordersGone c s).cassette d := by
  rw [takenOut, completeQuiet_cassette, completeSessions_cassette, removeCassette_cassette]

theorem takenOut_path (c : CassetteId) (s : State) : (takenOut c s).path =
    { (ordersGone c s).path with shutterTravel := tableSet (ordersGone c s).path.shutterTravel c none } := by
  rw [takenOut, completeQuiet_path, completeSessions_path, removeCassette_path]

theorem completeQuiet_alone (s : State) : Touches { sup := true } s (completeQuiet s) := completeQuiet_touches rfl s

theorem takenOut_order (c : CassetteId) (s : State) (k : OrderSlot) : (takenOut c s).order k = (ordersGone c s).order k := by
  have slot : (slotEmptied c (ordersGone c s)).order k = (ordersGone c s).order k :=
    ((slotEmptied_touches (f := { cassettes := [c], path := true }) (by simp) rfl _).orders k).resolve_left (by simp)
  rw [takenOut, ((completeQuiet_alone _).orders k).resolve_left (by simp), completeSessions_order, removeCassette_eq, slot]

theorem takenOut_placement (c : CassetteId) (s : State) :
    (takenOut c s).custody.placement = s.custody.placement.filter fun k => !s.endsBy c k := by
  have slot : (slotEmptied c (ordersGone c s)).custody.placement = (ordersGone c s).custody.placement :=
    (slotEmptied_touches (f := { cassettes := [c], path := true }) (by simp) rfl _).placement.resolve_left (by simp)
  rw [takenOut, (completeQuiet_alone _).placement.resolve_left (by simp), completeSessions_placement, removeCassette_eq,
    slot, ordersGone_placement]

theorem takenOut_bins (c : CassetteId) (s : State) : (takenOut c s).custody.bins =
    if s.gaugeHolds c then s.custody.bins.rejected 1 else s.custody.bins := by
  rw [takenOut, (completeQuiet_alone _).bins.resolve_left (by simp), completeSessions_bins,
    (removeCassette_rest c s).bins.resolve_left (by simp), levelingGone_bins]

theorem takenOut_settings (c : CassetteId) (s : State) : (takenOut c s).custody.settings = s.custody.settings := by
  rw [takenOut, (completeQuiet_alone _).settings.resolve_left (by simp), completeSessions_settings,
    (removeCassette_rest c s).settings.resolve_left (by simp), levelingGone_settings]

/-- The shutters of the other cassettes stand. -/
theorem removeCassette_shutter (c d : CassetteId) (s : State) :
    ((removeCassette c s).cassette d).shutter = if c = d then .shut else (s.cassette d).shutter := by
  rw [removeCassette_cassette, ordersGone_cassette, levelingGone_cassette]
  by_cases here : c = d
  · simp [here, Cassette.removed]
  · simp [here]

theorem removeCassette_sup (c : CassetteId) (s : State) : (completeSessions (removeCassette c s)).sup = s.sup := by
  rw [completeSessions_sup, (removeCassette_rest c s).sup.resolve_left (by simp),
    (levelingGone_alone c s).sup.resolve_left (by simp)]

theorem takenOut_sup (c : CassetteId) (s : State) : (takenOut c s).sup =
    if s.sup.mode = .enteringQuiet ∧ ∀ k, k ≠ c → (s.cassette k).shutter = .shut
    then { s.sup with mode := .quiet, rails := false, quietDwell := some 1000 } else s.sup := by
  have sup := removeCassette_sup c s
  have shutter (d : CassetteId) : ((completeSessions (removeCassette c s)).cassette d).shutter =
      if c = d then .shut else (s.cassette d).shutter := by
    rw [completeSessions_cassette, removeCassette_shutter]
  rw [takenOut]
  split
  next ends =>
    rw [completeQuiet_sup_shut (by rw [sup]; exact ends.1) fun d => ?_, sup, quietDwellTime]
    rw [shutter]
    split
    · rfl
    · exact ends.2 d (Ne.symm ‹_›)
  next goes =>
    rw [completeQuiet_still fun entering => ?_, sup]
    rw [sup] at entering
    obtain ⟨k, stays⟩ := not_forall.mp fun all => goes ⟨entering, all⟩
    obtain ⟨apart, ajar⟩ := Classical.not_imp.mp stays
    exact ⟨k, by rw [shutter, if_neg (Ne.symm apart)]; exact ajar⟩

/-- The sessions settle though the event may complete a quiet entry. -/
theorem sessionSettles_quiet (same : (t.lane l).session = (s.lane l).session) :
    SessionSettles s (finish u (completeQuiet (completeSessions t)) named access) l := by
  have quiet : AtRest (completeQuiet (completeSessions t)) l ↔ AtRest (completeSessions t) l := by
    unfold completeQuiet
    split <;> exact Iff.rfl
  have kept : (completeQuiet (completeSessions t)).lane l = (completeSessions t).lane l :=
    (completeQuiet_alone _).lane rfl rfl l
  rw [SessionSettles, atRest_marks, finish_lane_rest, kept, quiet, atRest_completeSessions, ← same]
  exact completeSessions_settles l t

theorem removeCassette_lane (c : CassetteId) (s : State) (l : LaneId) : (removeCassette c s).lane l = s.lane l := by
  rw [(removeCassette_rest c s).lane rfl rfl, (levelingGone_alone c s).lane rfl rfl]

/-- The sessions settle at a removal. -/
theorem sessionSettles_takenOut (c : CassetteId) (l : LaneId) (same : (t.lane l).session = (s.lane l).session) :
    SessionSettles s (finish u (takenOut c t) named access) l := by
  rw [takenOut]
  exact sessionSettles_quiet (by rw [removeCassette_lane, same])

/-! ### What a removal may change -/

/-- A quiet entry is completed only in ENTERING_QUIET. -/
theorem completeQuiet_touches_entering (u : s.sup.mode = .enteringQuiet → f.sup = true) : Touches f s (completeQuiet s) := by
  by_cases entering : s.sup.mode = .enteringQuiet
  · exact completeQuiet_touches (u entering) s
  · rw [completeQuiet_still fun e => absurd e entering]
    exact .refl f s

/-- A removal of a cassette that no order needs. -/
theorem takenOut_touches_idle (idle : s.anyOrder (fun o => decide (0 < o.need c)) = false) (cs : c ∈ f.cassettes)
    (b : s.gaugeHolds c = true → f.bins = true) (p : f.path = true) (cl : f.closes = true)
    (u : s.sup.mode = .enteringQuiet → f.sup = true) : Touches f s (takenOut c s) := by
  have slot : Touches f s (removeCassette c s) := by
    rw [removeCassette_eq, ordersGone_idle idle]
    exact (levelingGone_touches cs b p).trans (slotEmptied_touches cs p _)
  exact (slot.trans (completeSessions_touches cl _)).trans
    (completeQuiet_touches_entering (by rw [removeCassette_sup]; exact u))

theorem takenOut_touches (cs : ∀ c, c ∈ f.cassettes) (os : ∀ i, i ∈ f.orders) (pl : f.placement = true)
    (b : f.bins = true) (p : f.path = true) (cl : f.closes = true) (u : f.sup = true) (c : CassetteId) (s : State) :
    Touches f s (takenOut c s) := by
  have stops (t : State) : Touches f t (forEach (failGone c) t) := by
    rw [failGone_eq]
    exact stopAll_touches cs os pl p _ t
  have aborts (t : State) : Touches f t (abortGone c t) := by
    unfold abortGone
    (repeat' split) <;> first | exact abortPicking_touches cs os pl p _ _ | exact .refl f t
  have slot : Touches f s (removeCassette c s) := by
    rw [removeCassette_eq, ordersGone]
    exact (((levelingGone_touches (cs c) (fun _ => b) p).trans (aborts _)).trans (stops _)).trans
      (slotEmptied_touches (cs c) p _)
  exact (slot.trans (completeSessions_touches cl _)).trans (completeQuiet_touches u _)

end Sys2Proof.Machine
end

section
/-! The removal of a cassette: what it leaves when its event has ended. -/

namespace Sys2Proof.Machine
set_option Elab.async false

variable {s t : State} {n : Nat} {f : Footprint} {c d : CassetteId} {i k : OrderSlot} {o p : Order} {l : LaneId} {v : Leveling}

/-! ### The event -/

/-- The seat sensor has reported the cassette gone. -/
def seatLost (c : CassetteId) (s : State) : State := s.modLevels fun v => { v with seated := tableSet v.seated c false }

/-- The state after a removal. -/
def removedState (c : CassetteId) (s : State) : State := finish s (takenOut c (seatLost c s)) none none

theorem yields_removed {P : State → Prop} (heeds : s.heeds = true) (present : (s.cassette c).state ≠ .absent)
    (ends : P (removedState c s)) : Yields (.cassetteRemoved c) s P := by
  refine yields_of (fieldEvent_heeded heeds) ?_
  have taken : cassetteRemoved c (seatLost c s) = takenOut c (seatLost c s) := if_neg present
  exact taken ▸ ends

theorem seatLost_touches (v : f.levels = true) (c : CassetteId) (s : State) : Touches f s (seatLost c s) := .modLevels v _

@[simp] theorem seatLost_cassette (c d : CassetteId) (s : State) : (seatLost c s).cassette d = s.cassette d := rfl
@[simp] theorem seatLost_order (c : CassetteId) (s : State) (i : OrderSlot) : (seatLost c s).order i = s.order i := rfl
@[simp] theorem seatLost_lane (c : CassetteId) (s : State) (l : LaneId) : (seatLost c s).lane l = s.lane l := rfl
@[simp] theorem seatLost_path (c : CassetteId) (s : State) : (seatLost c s).path = s.path := rfl
@[simp] theorem seatLost_sup (c : CassetteId) (s : State) : (seatLost c s).sup = s.sup := rfl
@[simp] theorem seatLost_custody (c : CassetteId) (s : State) : (seatLost c s).custody = s.custody := rfl
@[simp] theorem seatLost_losesTo (c d : CassetteId) (s : State) : (seatLost c s).losesTo d = s.losesTo d := rfl
@[simp] theorem seatLost_endsBy (c d : CassetteId) (s : State) : (seatLost c s).endsBy d = s.endsBy d := rfl
@[simp] theorem seatLost_claimEnds (c d : CassetteId) (s : State) : (seatLost c s).claimEnds d = s.claimEnds d := by
  funext q
  cases q <;> rfl
@[simp] theorem seatLost_needOf (c d : CassetteId) (s : State) : (seatLost c s).needOf d = s.needOf d := rfl
@[simp] theorem seatLost_gaugeHolds (c d : CassetteId) (s : State) : (seatLost c s).gaugeHolds d = s.gaugeHolds d := rfl
@[simp] theorem seatLost_pickTarget (c : CassetteId) (s : State) : (seatLost c s).pickTarget = s.pickTarget := rfl
@[simp] theorem seatLost_picks (c : CassetteId) (s : State) : (seatLost c s).picks = s.picks := rfl
@[simp] theorem seatLost_pickingOrder (c : CassetteId) (s : State) : (seatLost c s).pickingOrder = s.pickingOrder := rfl
@[simp] theorem seatLost_anyOrder (c : CassetteId) (s : State) (p : Order → Bool) :
    (seatLost c s).anyOrder p = s.anyOrder p := rfl

theorem removed_settles (c : CassetteId) (s : State) (l : LaneId) : SessionSettles s (removedState c s) l :=
  sessionSettles_takenOut c l rfl

/-- What a removal touches, when no order needs the cassette. -/
theorem removed_leaves_idle (idle : s.anyOrder (fun o => decide (0 < o.need c)) = false) (cs : c ∈ f.cassettes)
    (b : s.gaugeHolds c = true → f.bins = true) (p : f.path = true) (v : f.levels = true) (cl : f.closes = true)
    (u : s.sup.mode = .enteringQuiet → f.sup = true) : EventLeaves f s (removedState c s) := by
  rw [removedState]
  exact eventLeaves_finish ((seatLost_touches v c s).trans (takenOut_touches_idle (by simpa using idle) cs
    (by simpa using b) p cl (by simpa using u)))

theorem removed_leaves (c : CassetteId) (s : State) : EventLeaves
    { cassettes := positions _, orders := positions _, placement := true, bins := true, path := true, sup := true,
      levels := true, closes := true } s (removedState c s) := by
  rw [removedState]
  exact eventLeaves_finish ((seatLost_touches rfl c s).trans
    (takenOut_touches mem_positions mem_positions rfl rfl rfl rfl rfl c _))

/-! ### The cassettes -/

/-- A cassette record as the end of its leveling session leaves it, if it has one. -/
theorem levelingGone_record (c : CassetteId) (s : State) : ∃ state, (levelingGone c s).cassette c = { s.cassette c with
    state, leveling := none
    current := if s.gaugeHolds c then (s.cassette c).current - 1 else (s.cassette c).current
    testNotes := if s.gaugeHolds c then (s.cassette c).testNotes + 1 else (s.cassette c).testNotes
    lowFlag := (s.cassette c).lowFlag || s.gaugeHolds c && decide ((s.cassette c).lowMark ≤ (s.cassette c).current ∧
      (s.cassette c).current - 1 < (s.cassette c).lowMark) } := by
  rw [levelingGone_cassette]
  cases leveling : (s.cassette c).leveling with
  | none =>
    have free : s.gaugeHolds c = false := by simp [gaugeHolds_eq, leveling]
    exact ⟨(s.cassette c).state, by simp [free, ← leveling]⟩
  | some v =>
    rw [if_pos ⟨rfl, rfl⟩]
    cases held : s.gaugeHolds c with
    | true => exact ⟨_, by rw [spent_returned]; simp only [Bool.true_and, if_true]; rfl⟩
    | false => exact ⟨(s.cassette c).afterLeveling, by simp [Cassette.spent, Cassette.returned]⟩

theorem removed_reserved (c d : CassetteId) (s : State) : ((removedState c s).cassette d).reserved =
    (s.cassette d).reserved - (((positions _).filter (s.losesTo c)).map (s.needOf d)).sum := by
  have reserved : ((takenOut c (seatLost c s)).cassette d).reserved =
      (s.cassette d).reserved - (((positions _).filter (s.losesTo c)).map (s.needOf d)).sum := by
    rw [takenOut_cassette]
    split <;> simp only [Cassette.removed, ordersGone_cassette, seatLost_cassette, seatLost_losesTo, seatLost_needOf]
  obtain ⟨b, mark⟩ := finish_cassette_but_mark (before := s) (after := takenOut c (seatLost c s)) d
  rw [removedState, mark, reserved]

/-- The removed cassette is marked, since it was not ABSENT before. -/
theorem removed_cassette (present : (s.cassette c).state ≠ .absent) : (removedState c s).cassette c = { s.cassette c with
    state := .absent, shutter := .shut, leveling := none, reserved := ((removedState c s).cassette c).reserved, mark := true
    current := if s.gaugeHolds c then (s.cassette c).current - 1 else (s.cassette c).current
    testNotes := if s.gaugeHolds c then (s.cassette c).testNotes + 1 else (s.cassette c).testNotes
    lowFlag := (s.cassette c).lowFlag || s.gaugeHolds c && decide ((s.cassette c).lowMark ≤ (s.cassette c).current ∧
      (s.cassette c).current - 1 < (s.cassette c).lowMark) } := by
  obtain ⟨state, session⟩ := levelingGone_record c (seatLost c s)
  have moved : (s.cassette c).same ((takenOut c (seatLost c s)).cassette c) = false := by
    simp [takenOut_cassette, Cassette.same, Cassette.removed, present]
  rw [removed_reserved, removedState, finish_cassette_moved moved, takenOut_cassette, if_pos rfl, ordersGone_cassette, session]
  simp only [Cassette.removed, seatLost_cassette, seatLost_losesTo, seatLost_needOf, seatLost_gaugeHolds]
  rfl

/-- The other cassettes: what the stopped orders held of them is released. -/
theorem removed_cassette_other (apart : d ≠ c) : (removedState c s).cassette d = { s.cassette d with
    reserved := ((removedState c s).cassette d).reserved
    mark := (s.cassette d).mark || decide (((removedState c s).cassette d).reserved ≠ (s.cassette d).reserved) } := by
  have released : (takenOut c (seatLost c s)).cassette d = { s.cassette d with
      reserved := ((takenOut c (seatLost c s)).cassette d).reserved } := by
    rw [takenOut_cassette, if_neg (Ne.symm apart), ordersGone_cassette, levelingGone_cassette,
      if_neg fun both => apart both.1.symm, seatLost_cassette]
  rw [removedState, finish_cassette_reserved released (by simp)]
  simp [bne, beq_eq_decide]

/-- A cassette that no order needs costs none anything. -/
theorem losesTo_idle (idle : s.anyOrder (fun o => decide (0 < o.need c)) = false) (i : OrderSlot) :
    s.losesTo c i = false := by
  have none : ∀ k, (s.order k).any (fun o => decide (0 < o.need c)) = false := (tableAny_false_iff _ _).mp idle
  refine Bool.eq_false_iff.mpr fun loses => ?_
  obtain ⟨o, order, needs, -⟩ := losesTo_iff.mp loses
  simpa [order, needs] using none i

theorem removed_reserved_idle (idle : s.anyOrder (fun o => decide (0 < o.need c)) = false) (d : CassetteId) :
    ((removedState c s).cassette d).reserved = (s.cassette d).reserved := by
  rw [removed_reserved, List.filter_eq_nil_iff.mpr fun k _ => by simp [losesTo_idle idle]]
  rfl

theorem removed_bins (c : CassetteId) (s : State) : (removedState c s).custody.bins = { s.custody.bins with
    rejectCount := if s.gaugeHolds c && s.custody.bins.rejectCounted then s.custody.bins.rejectCount + 1
      else s.custody.bins.rejectCount } := by
  rw [removedState, finish_bins, takenOut_bins, seatLost_gaugeHolds]
  cases s.gaugeHolds c <;> rfl

theorem removed_sup (c : CassetteId) (s : State) : (removedState c s).sup =
    if s.sup.mode = .enteringQuiet ∧ ∀ k, k ≠ c → (s.cassette k).shutter = .shut
    then { s.sup with mode := .quiet, rails := false, quietDwell := some 1000 } else s.sup := by
  rw [removedState, finish_sup, takenOut_sup]
  split <;> simp_all

theorem removed_placement (c : CassetteId) (s : State) : (removedState c s).custody.placement =
    s.custody.placement.filter fun i => !s.endsBy c i := by
  rw [removedState, finish_placement, takenOut_placement]
  rfl

/-! ### The transport -/

theorem removed_path (c : CassetteId) (s : State) : (removedState c s).path =
    { (ordersGone c (seatLost c s)).path with
      shutterTravel := tableSet (ordersGone c (seatLost c s)).path.shutterTravel c none } := by
  rw [removedState, finish_path, takenOut_path]

theorem removed_queue (c : CassetteId) (s : State) :
    (removedState c s).path.queue = s.path.queue.filter fun q => !s.claimEnds c q := by
  rw [removed_path]
  simp only [ordersGone_queue, seatLost_path, seatLost_claimEnds]

/-- Without an order that picks and without the holder, only the attempt and the queue lose by a removal. -/
theorem removed_path_safe (holder : s.path.holder ≠ some (.leveling c))
    (safe : ∀ i, s.picks i = true → s.losesTo c i = false) : (removedState c s).path = { s.path with
      attempt := if s.pickTarget = some c then none else s.path.attempt
      queue := (s.path.queue.filter fun q => !s.claimEnds c q)
      shutterTravel := tableSet s.path.shutterTravel c none } := by
  rw [← removed_queue, removed_path, ordersGone_safe (by simpa using safe), stopEvery_path,
    levelingGone_path (by simpa using holder), stopAttempt_path]
  simp only [NotePath.dequeue, seatLost_path, seatLost_pickTarget]
  rfl

theorem removed_pauseDue (c : CassetteId) (s : State) :
    (removedState c s).pauseDue = (levelingGone c (seatLost c s)).pauseDue := by
  rw [removedState, finish_pauseDue]
  exact pauseDue_congr (by rw [takenOut_bins, levelingGone_bins]) (by rw [takenOut_settings, levelingGone_settings])

theorem stopAttempt_settings (c : CassetteId) (s : State) :
    (stopAttempt c s).custody.settings = s.custody.settings :=
  (stopAttempt_alone c s).settings.resolve_left (by simp)

theorem removed_path_spent (idle : s.anyOrder (fun o => decide (0 < o.need c)) = false)
    (leveling : (s.cassette c).leveling = some v) (holder : s.path.holder = some (.leveling c))
    (reading : s.path.heldReading.isSome = true) : (removedState c s).path = { s.path.freed s with
      queue := s.path.queue.filter (· != .leveling c), shutterTravel := tableSet s.path.shutterTravel c none
      rejectPause := (removedState c s).pauseDue } := by
  have leveling' : ((seatLost c s).cassette c).leveling = some v := leveling
  rw [removed_pauseDue, removed_path, ordersGone_idle (by simpa using idle), levelingGone_some leveling',
    endLeveling_path_spent (by rw [stopAttempt_path]; exact holder) (by rw [stopAttempt_path]; exact reading)]
  simp only [NotePath.freed, stopAttempt_path, stopAttempt_settings, seatLost_path, seatLost_custody]

theorem removed_path_empty (idle : s.anyOrder (fun o => decide (0 < o.need c)) = false)
    (leveling : (s.cassette c).leveling = some v) (holder : s.path.holder = some (.leveling c))
    (reading : s.path.heldReading = none) : (removedState c s).path = { s.path.freed s with
      queue := s.path.queue.filter (· != .leveling c), shutterTravel := tableSet s.path.shutterTravel c none } := by
  have leveling' : ((seatLost c s).cassette c).leveling = some v := leveling
  rw [removed_path, ordersGone_idle (by simpa using idle), levelingGone_some leveling',
    endLeveling_path_empty (by rw [stopAttempt_path]; exact holder) (by rw [stopAttempt_path]; exact reading)]
  simp only [NotePath.freed, stopAttempt_path, stopAttempt_settings, seatLost_path, seatLost_custody]

/-- The order that picks loses the cassette: the transport is freed, or its purge begins. -/
theorem removed_path_loser (picking : s.pickingOrder = some (i, o)) (needs : 0 < o.need c) : (removedState c s).path =
    { (if o.acceptedTotal = 0 then s.path.freed s else s.path.purged) with
      queue := (removedState c s).path.queue, shutterTravel := tableSet s.path.shutterTravel c none } := by
  obtain ⟨-, holder, -⟩ := pickingOrder_some picking
  have attempt : (levelingGone c (seatLost c s)).path =
      (stopAttempt c (seatLost c s)).path.dequeue ((seatLost c s).levelingClaim c) := levelingGone_path (by simp [holder])
  have settings : (levelingGone c (seatLost c s)).custody.settings = s.custody.settings := levelingGone_settings c _
  rw [removed_path, ordersGone_loser (by simpa using picking) needs, stopEvery_path,
    abortPicking_path (by rw [levelingGone_picking]; simpa using picking), attempt, stopAttempt_path]
  split <;> simp only [NotePath.freed, NotePath.purged, NotePath.dequeue, settings, seatLost_path]

/-! ### The orders -/

theorem removed_order_stands (stands : s.losesTo c k = false) : (removedState c s).order k = s.order k := by
  rw [removedState, finish_order_of_eq]
  rw [takenOut_order, ordersGone_order_stands (by simpa using stands), seatLost_order]

theorem removed_order_waiting (order : s.order i = some o) (waits : o.state = .held ∨ o.state = .queued)
    (needs : 0 < o.need c) (idle : s.picks i = false) : (removedState c s).order i = some { o with
      state := .failed, reason := some .cassetteGone, holdDeadline := none, presentDeadline := none, mark := true } := by
  have waiting : (s.order i).any (Order.waitsFor c) = true := by
    rcases waits with waits | waits <;> simp [order, Order.waitsFor, waits, needs]
  have ends : (takenOut c (seatLost c s)).order i = some (o.stopped .failed .cassetteGone) := by
    rw [takenOut_order, ordersGone_order_other (by simpa using idle), seatLost_order, if_pos waiting, order]
    rfl
  have moved : (o.stopped .failed .cassetteGone).state ≠ o.state := by
    rcases waits with waits | waits <;> simp [Order.stopped, waits]
  unfold removedState
  exact finish_order_moved order ends rfl moved

theorem removed_order_loser (picking : s.pickingOrder = some (i, o)) (state : o.state = .picking) (needs : 0 < o.need c) :
    (removedState c s).order i = some (if o.acceptedTotal = 0 then { o with
        state := .failed, reason := some .cassetteGone, unresolved := 0, holdDeadline := none, presentDeadline := none
        mark := true }
      else { o with state := .aborting, reason := some .cassetteGone, mark := true }) := by
  have ends : (takenOut c (seatLost c s)).order i = some (o.aborted .cassetteGone) := by
    rw [takenOut_order, ordersGone_order_loser (by simpa using picking) needs]
  unfold removedState
  exact finish_order_aborted (pickingOrder_some picking).2.2 state ends rfl (by decide) (by decide)

/-- Settles O19: a removed cassette goes ABSENT with its counts kept; orders that hold a reservation on it end
CASSETTE_GONE. -/
theorem cassetteRemovalFailsItsOrders : Obligations.CassetteRemovalFailsItsOrders := by
  refine ⟨?_, ?_, ?_, ?_, ?_, ?_, ?_, ?_, ?_, ?_⟩
  case refine_1 =>
    intro c s heeds present idle needless awake
    have free : s.gaugeHolds c = false := by simp [gaugeHolds_eq, idle]
    refine yields_removed heeds present ⟨removed_leaves_idle needless (by simp) (by simp [free]) rfl rfl rfl
      (by simp [awake]), removed_settles c s, ?_, ?_⟩
    · rw [removed_cassette present, removed_reserved_idle needless]
      simp [free, idle]
    · have gone : ordersGone c (seatLost c s) = stopAttempt c (seatLost c s) :=
        (ordersGone_idle (by simpa using needless)).trans (levelingGone_none idle)
      rw [removed_path, gone, stopAttempt_path, seatLost_path]
  case refine_2 =>
    intro c i o s heeds present order waits needs idle
    refine yields_removed heeds present ⟨by rw [removed_cassette present], by rw [removed_cassette present], ?_⟩
    exact removed_order_waiting order waits needs (by simp [State.picks, idle])
  case refine_3 =>
    intro c i o s heeds present order none
    refine yields_removed heeds present ⟨by rw [removed_cassette present], ?_⟩
    rw [removed_order_stands (by simp [State.losesTo, order, none]), order]
  case refine_4 =>
    intro c i o s heeds present state holder order picks needs
    have picking : s.pickingOrder = some (i, o) := pickingOrder_of state holder order
    refine yields_removed heeds present ?_
    split
    next empty => exact ⟨by rw [removed_order_loser picking picks needs, if_pos empty],
      by rw [removed_path_loser picking needs, if_pos empty]⟩
    next notes => exact ⟨by rw [removed_order_loser picking picks needs, if_neg notes],
      by rw [removed_path_loser picking needs, if_neg notes]⟩
  case refine_5 =>
    intro c v s heeds present leveling needless awake holder reading
    have held : s.gaugeHolds c = true := by simp [State.gaugeHolds, leveling, holder, reading]
    refine yields_removed heeds present ⟨removed_leaves_idle needless (by simp) (fun _ => rfl) rfl rfl rfl
      (by simp [awake]), removed_settles c s, ?_, ?_, removed_path_spent needless leveling holder reading⟩
    · rw [removed_cassette present, removed_reserved_idle needless]
      simp [held]
    · rw [removed_bins, held, Bool.true_and]
  case refine_6 =>
    intro c v s heeds present leveling needless awake holder reading
    have free : s.gaugeHolds c = false := by simp [State.gaugeHolds, reading]
    refine yields_removed heeds present ⟨removed_leaves_idle needless (by simp) (by simp [free]) rfl rfl rfl
      (by simp [awake]), removed_settles c s, ?_, removed_path_empty needless leveling holder reading⟩
    rw [removed_cassette present, removed_reserved_idle needless]
    simp [free]
  case refine_7 =>
    intro c v s heeds present leveling needless awake holder target
    have free : s.gaugeHolds c = false := by simp [State.gaugeHolds, holder]
    refine yields_removed heeds present ⟨removed_leaves_idle needless (by simp) (by simp [free]) rfl rfl rfl
      (by simp [awake]), removed_settles c s, ?_, ?_⟩
    · rw [removed_cassette present, removed_reserved_idle needless]
      simp [free]
    · have ends : ∀ q, s.claimEnds c q = s.levelingClaim c q := fun q => by
        cases q with
        | order i => simp [State.levelingClaim, State.claimEnds, State.endsBy, losesTo_idle needless]
        | leveling d => rfl
      rw [removed_path_safe holder (fun i _ => losesTo_idle needless i), if_neg target]
      simp only [ends]
      exact congrArg (fun p : NotePath => { p with shutterTravel := tableSet s.path.shutterTravel c none })
        (dequeue_levelingClaim leveling s.path).symm
  case refine_8 =>
    intro c s heeds present idle needless entering
    have free : s.gaugeHolds c = false := by simp [gaugeHolds_eq, idle]
    refine yields_removed heeds present ⟨removed_leaves_idle needless (by simp) (by simp [free]) rfl rfl rfl
      (fun _ => rfl), removed_settles c s, ?_, ?_⟩
    · rw [removed_cassette present, removed_reserved_idle needless]
      simp [free, idle]
    · rw [removed_sup]
      simp only [entering, true_and]
  case refine_9 =>
    intro c s heeds present
    exact yields_removed heeds present ⟨removed_leaves c s, removed_settles c s, fun _ => removed_order_stands,
      removed_placement c s, removed_queue c s, fun k => removed_reserved c k s, fun _ => removed_cassette_other,
      removed_cassette present, removed_bins c s, removed_sup c s⟩
  case refine_10 =>
    intro c s heeds present holder safe
    exact yields_removed heeds present (removed_path_safe holder safe)

end Sys2Proof.Machine
end

section
/-! SERVICE ENTER: the service zones go BYPASSED, and the shutters close but for that of a leveling claim. -/

namespace Sys2Proof.Machine
set_option Elab.async false

variable {s t : State} {f : Footprint} {c k : CassetteId} {z : ZoneId} {ps : List Byte}

/-! ### The zones -/

/-- The zone goes BYPASSED as service mode begins. -/
def Zone.servicing (z : ZoneId) (r : Zone) : Bool := serviceKind z && (r.state == .normal || r.state == .delay)

theorem Zone.servicing_iff (z : ZoneId) (r : Zone) :
    r.servicing z = true ↔ serviceKind z = true ∧ (r.state = .normal ∨ r.state = .delay) := by
  simp [Zone.servicing]

theorem enterServiceZone_eq (z : ZoneId) (s : State) : enterServiceZone z s =
    if (s.zone z).servicing z then stopDelay z (s.modZone z fun r => { r with state := .bypassed }) else s := by
  simp only [enterServiceZone, Zone.servicing_iff]

/-- The zones as service mode begins. -/
def zonesServiced (s : State) : State := forEach enterServiceZone (s.modAlarm fun a => { a with service := true })

/-- A zone and its entry delay, after the zone has been told that service mode begins. -/
def servicedView (z : ZoneId) (w : Zone × Option Nat) : Zone × Option Nat :=
  if w.1.servicing z then ({ w.1 with state := .bypassed }, none) else w

theorem enterServiceZones_view (s : State) (z : ZoneId) :
    ((forEach enterServiceZone s).zone z, (forEach enterServiceZone s).alarm.delays.get z) =
      servicedView z (s.zone z, s.alarm.delays.get z) := by
  refine forEach_at (fun s : State => (s.zone z, s.alarm.delays.get z)) enterServiceZone z (servicedView z) ?_ ?_ s
  · intro j t apart
    rw [enterServiceZone_eq]
    split <;> simp [stopDelay, State.modZone_zone, apart, tableSet_get]
  · intro t
    rw [enterServiceZone_eq, servicedView]
    split <;> simp [stopDelay]

theorem zonesServiced_zone (s : State) (z : ZoneId) :
    (zonesServiced s).zone z = if (s.zone z).servicing z then { s.zone z with state := .bypassed } else s.zone z := by
  have view := congrArg Prod.fst (enterServiceZones_view (s.modAlarm fun a => { a with service := true }) z)
  dsimp only at view
  rw [zonesServiced, view, servicedView, State.modAlarm_zone]
  split <;> rfl

theorem zonesServiced_delay (s : State) (z : ZoneId) :
    (zonesServiced s).alarm.delays.get z = if (s.zone z).servicing z then none else s.alarm.delays.get z := by
  have view := congrArg Prod.snd (enterServiceZones_view (s.modAlarm fun a => { a with service := true }) z)
  dsimp only at view
  rw [zonesServiced, view, servicedView, State.modAlarm_zone, State.modAlarm_alarm]
  split <;> rfl

theorem enterServiceZones_alarm (s : State) : (forEach enterServiceZone s).alarm =
    { s.alarm with delays := (forEach enterServiceZone s).alarm.delays } := by
  refine forEach_keeps (fun t => t.alarm = { s.alarm with delays := t.alarm.delays }) enterServiceZone ?_ s rfl
  intro z t alarm
  rw [enterServiceZone_eq]
  split
  · simp only [stopDelay, State.modAlarm_alarm, State.modZone_alarm]
    rw [alarm]
  · exact alarm

theorem zonesServiced_alarm (s : State) :
    (zonesServiced s).alarm = { s.alarm with service := true, delays := (zonesServiced s).alarm.delays } := by
  conv_lhs => rw [zonesServiced, enterServiceZones_alarm, State.modAlarm_alarm]
  rw [zonesServiced]

theorem zonesServiced_touches (s : State) : Touches { zones := positions _, alarm := true } s (zonesServiced s) :=
  (Touches.modAlarm rfl _).trans (.forEach (fun z t => enterServiceZone_touches (mem_positions z) rfl t) _)

@[simp] theorem zonesServiced_cassette (s : State) (c : CassetteId) : (zonesServiced s).cassette c = s.cassette c :=
  ((zonesServiced_touches s).cassettes c).resolve_left (by simp)

@[simp] theorem zonesServiced_path (s : State) : (zonesServiced s).path = s.path :=
  (zonesServiced_touches s).path.resolve_left (by simp)

/-- An event that takes a zone into service marks it. -/
theorem finish_zone_serviced {access : Option RecordRef}
    (moved : t.zone z = if (s.zone z).servicing z then { s.zone z with state := .bypassed } else s.zone z) :
    (finish s t none access).zone z =
      if (s.zone z).servicing z then { s.zone z with state := .bypassed, mark := true } else s.zone z := by
  cases goes : (s.zone z).servicing z with
  | false => rw [finish_zone_of_eq (by rw [moved, goes]; rfl)]; rfl
  | true =>
    have other : (s.zone z).state ≠ .bypassed := by
      rcases ((Zone.servicing_iff z _).mp goes).2 with state | state <;> simp [state]
    have apart : zoneMoved s t none z = true := by simp [zoneMoved, Zone.same, moved, goes, other]
    rw [finish_zone, apart, moved, goes]
    rfl

/-! ### The shutters -/

/-- The shutters as service mode begins, before that of a leveling claim is opened again. -/
def shuttersServiced (s : State) : State := closeShutters (zonesServiced s)

theorem shuttersServiced_touches (s : State) : Touches
    { cassettes := [0, 1, 2, 3, 4, 5], zones := positions _, path := true, alarm := true } s (shuttersServiced s) :=
  ((Touches.modAlarm rfl _).trans (.forEach (fun z t => enterServiceZone_touches (mem_positions z) rfl t) _)).trans
    (closeShutters_touches mem_everyCassette rfl _)

theorem closeShutters_alone (s : State) :
    Touches { cassettes := [0, 1, 2, 3, 4, 5], path := true } s (closeShutters s) :=
  closeShutters_touches mem_everyCassette rfl s

theorem shuttersServiced_zone (s : State) (z : ZoneId) : (shuttersServiced s).zone z = (zonesServiced s).zone z :=
  ((closeShutters_alone _).zones z).resolve_left (by simp)

theorem shuttersServiced_alarm (s : State) : (shuttersServiced s).alarm = (zonesServiced s).alarm :=
  (closeShutters_alone _).alarm.resolve_left (by simp)

theorem shuttersServiced_cassette (s : State) (c : CassetteId) :
    (shuttersServiced s).cassette c = (s.cassette c).shutting := by
  rw [shuttersServiced, closeShutters_cassette, zonesServiced_cassette]

theorem shuttersServiced_travel (s : State) (c : CassetteId) : (shuttersServiced s).path.shutterTravel.get c =
    if (s.cassette c).shutter.ajar then some shutterTravelTime else s.path.shutterTravel.get c := by
  rw [shuttersServiced, closeShutters_travel, zonesServiced_cassette, zonesServiced_path]

theorem shuttersServiced_path (s : State) :
    (shuttersServiced s).path = { s.path with shutterTravel := (shuttersServiced s).path.shutterTravel } := by
  conv_lhs => rw [shuttersServiced, closeShutters_path, zonesServiced_path]
  rw [shuttersServiced]

/-- The shutter of the leveling claim is opened again, and an attempt in flight counts no miss (R37, R84). -/
def reopened (c : CassetteId) (s : State) : State :=
  openShutter c (s.modPath fun p => { p with attempt := p.attempt.map fun a => { a with noMiss := true } })

theorem enterService_closed (closed : ∀ c, s.path.state = .leveling → s.path.holder = some (.leveling c) →
    (s.cassette c).shutter.ajar = false) : enterService s = shuttersServiced s := by
  change reopenLeveling s (shuttersServiced s) = _
  unfold reopenLeveling
  split
  next c state holder =>
    refine if_neg fun ajar => ?_
    have shut := closed c state holder
    rcases ajar with ajar | ajar <;> simp [Shutter.ajar, ajar] at shut
  · rfl

theorem enterService_leveling (state : s.path.state = .leveling) (holder : s.path.holder = some (.leveling c))
    (ajar : (s.cassette c).shutter.ajar = true) : enterService s = reopened c (shuttersServiced s) := by
  change reopenLeveling s (shuttersServiced s) = _
  rw [reopenLeveling, state, holder]
  exact if_pos (by simpa [Shutter.ajar] using ajar)

theorem reopened_alone (c : CassetteId) (s : State) :
    Touches { cassettes := [0, 1, 2, 3, 4, 5], path := true } s (reopened c s) :=
  (Touches.modPath rfl _).trans (openShutter_touches (mem_everyCassette c) rfl _)

theorem reopened_cassette_other (apart : k ≠ c) (s : State) : (reopened c s).cassette k = s.cassette k :=
  congrArg Prod.fst (openShutter_view_other (Ne.symm apart) (s.modPath _))

theorem reopened_travel_other (apart : k ≠ c) (s : State) :
    (reopened c s).path.shutterTravel.get k = s.path.shutterTravel.get k :=
  congrArg Prod.snd (openShutter_view_other (Ne.symm apart) (s.modPath _))

theorem reopened_view (closing : (s.cassette c).shutter = .closing) :
    ((reopened c s).cassette c, (reopened c s).path.shutterTravel.get c) =
      ({ s.cassette c with shutter := .opening }, some shutterTravelTime) := by
  rw [reopened, openShutter_view, openingView, if_neg (by simp [closing, Shutter.ajar])]
  rfl

theorem reopened_path (c : CassetteId) (s : State) : (reopened c s).path = { s.path with
    attempt := s.path.attempt.map fun a => { a with noMiss := true }
    shutterTravel := (reopened c s).path.shutterTravel } := by
  conv_lhs => rw [reopened, openShutter_path]
  rfl

/-- The cassette of the leveling claim ends OPENING. -/
theorem finish_cassette_reopened {access : Option RecordRef}
    (moved : t.cassette c = { s.cassette c with shutter := .opening }) : (finish s t none access).cassette c =
      { s.cassette c with shutter := .opening, mark := (s.cassette c).mark || (s.cassette c).shutter != .opening } := by
  by_cases still : (s.cassette c).shutter = .opening
  · rw [finish_cassette_of_eq (by rw [moved, ← still]), still]
    simp [← still]
  · rw [finish_cassette_shutter moved still]
    simp [still]

/-! ### The checks -/

theorem serviceChecks_pass (awake : s.awake = true) (out : s.alarm.service = false) (key : s.alarm.key = true)
    (sessions : ∀ l, (s.lane l).session = .closed) (orders : s.anyOrder (fun o => o.state.moving) = false) :
    serviceEnter ps s.released.written = .done (enterService s.released.written) .ok .empty none := by
  refine checked_pass (firstRefusal_none.mpr fun check member => ?_)
  have closed : tableAny (fun r => r.session != .closed) s.released.written.custody.lanes = false := by
    simpa [tableAny_false_iff, State.lane] using sessions
  have still : s.released.written.anyOrder (fun o => o.state.moving) = false :=
    (taken_reads (g := (State.anyOrder · _)) (fun _ _ => rfl) s).trans orders
  rcases List.mem_append.mp member with quiet | rest
  · exact firstRefusal_none.mp (quietChecks_of_awake awake) check quiet
  · simp only [List.mem_cons, List.not_mem_nil, or_false] at rest
    rcases rest with rfl | rfl | rfl | rfl
    · simpa using out
    · simpa using key
    · exact closed
    · exact still

theorem serviceChecks_fail (awake : s.awake = true) (barred : s.alarm.service = true ∨ s.alarm.key = false ∨
    (∃ l, (s.lane l).session ≠ .closed) ∨ s.anyOrder (fun o => o.state.moving) = true) :
    serviceEnter ps s.released.written = .refuse .wrongState .empty none := by
  have unclosed (l : LaneId) (session : (s.lane l).session ≠ .closed) :
      tableAny (fun r => r.session != .closed) s.released.written.custody.lanes = true :=
    (tableAny_iff _ _).mpr ⟨l, by simpa [State.lane] using session⟩
  have orders : s.released.written.anyOrder (fun o => o.state.moving) = s.anyOrder (fun o => o.state.moving) :=
    taken_reads (g := (State.anyOrder · _)) (fun _ _ => rfl) s
  refine checked_fail ?_
  have mode := awake_mode awake
  cases service : s.alarm.service with
  | true => simp [State.quietChecks, firstRefusal, mode, service]
  | false =>
    rcases barred with barred | key | ⟨l, session⟩ | moving
    · simp [service] at barred
    · simp [State.quietChecks, firstRefusal, mode, service, key]
    · have sessions := unclosed l session
      rw [taken_custody] at sessions
      simp [State.quietChecks, firstRefusal, mode, service, sessions]
    · simp [State.quietChecks, firstRefusal, mode, service, orders, moving]

end Sys2Proof.Machine
end

section
/-! The end of service mode: the zones leave their bypasses, and those that stand open are activated. -/

namespace Sys2Proof.Machine
set_option Elab.async false

variable {s t u : State} {f : Footprint} {z k : ZoneId} {g : ZoneId → Zone → Zone} {r : Zone}

/-! ### An activation keeps the alarm unit in its mode -/

theorem latch_service (z : ZoneId) (s : State) : (latch z s).alarm.service = s.alarm.service := by
  have alarm := congrArg AlarmUnit.service (respond_responds z s.lockdown (tripped z s)).alarm
  rw [latch_eq, State.raise_alarm]
  exact alarm

theorem activate_service (z : ZoneId) (s : State) : (activate z s).alarm.service = s.alarm.service := by
  unfold activate
  dsimp only
  split
  · exact latch_service z _
  · rfl

theorem activateIfOpen_service (z : ZoneId) (s : State) : (activateIfOpen z s).alarm.service = s.alarm.service := by
  unfold activateIfOpen
  split
  · exact activate_service z s
  · rfl

theorem leaveBypass_service (g : ZoneId → Zone → Zone) (z : ZoneId) (s : State) :
    (leaveBypass g z s).alarm.service = s.alarm.service := by
  unfold leaveBypass
  split
  · exact activateIfOpen_service z _
  · rfl

/-- What the end of a bypass may touch. -/
def bypassRoom : Footprint where
  cassettes := positions _
  orders := positions _
  placement := true
  zones := positions _
  trips := true
  alarm := true
  bins := true
  path := true
  lanes := positions _
  work := positions _

theorem leaveBypass_room (g : ZoneId → Zone → Zone) (z : ZoneId) (s : State) : Touches bypassRoom s (leaveBypass g z s) :=
  leaveBypass_touches ⟨mem_positions, mem_positions, rfl, mem_positions, mem_positions, rfl, rfl, rfl⟩ (mem_positions z)
    rfl g s

theorem Touches.armed (h : Touches f s t) (arms : f.arms = false) : t.groupArmed = s.groupArmed := by
  obtain ⟨day, night⟩ := h.arms.resolve_left (by simp [arms])
  funext v
  cases v <;> simp [State.groupArmed, day, night]

/-! ### A zone that leaves its bypass -/

/-- A zone record that leaves its bypass by g, activated if it stands open then. -/
def Zone.leaves (armed : Group → Bool) (g : ZoneId → Zone → Zone) (z : ZoneId) (r : Zone) : Zone :=
  if r.state = .bypassed then (g z r).activated (armed (g z r).group) else g z r

theorem leaveBypass_zone (outside : s.alarm.service = false) (z k : ZoneId) :
    (leaveBypass g z s).zone k = if z = k then (s.zone k).leaves s.groupArmed g k else s.zone k := by
  have left : (s.modZone z (g z)).zone k = if z = k then g k (s.zone k) else s.zone k := by
    rw [State.modZone_zone]
    split
    next here => rw [here]
    · rfl
  have out : (s.modZone z (g z)).alarm.service = false := outside
  unfold leaveBypass Zone.leaves
  by_cases here : z = k
  · subst here
    rw [if_pos rfl]
    split
    · rw [activateIfOpen_zone out, if_pos rfl, State.zoneArmed, left, if_pos rfl]
      rfl
    · rw [left, if_pos rfl]
  · rw [if_neg here]
    split
    · rw [activateIfOpen_zone out, if_neg here, left, if_neg here]
    · rw [left, if_neg here]

/-- Every zone leaves its bypass by g. -/
def bypassesLeft (g : ZoneId → Zone → Zone) (s : State) : State := forEach (leaveBypass g) s

/-- Service mode has ended, and nothing was armed or disarmed since. -/
def Outside (s t : State) : Prop := t.alarm.service = false ∧ t.groupArmed = s.groupArmed

theorem leaveBypass_outside (h : Outside s t) (g : ZoneId → Zone → Zone) (z : ZoneId) : Outside s (leaveBypass g z t) :=
  ⟨(leaveBypass_service g z t).trans h.1, ((leaveBypass_room g z t).armed rfl).trans h.2⟩

theorem bypassesLeft_outside (h : Outside s t) (g : ZoneId → Zone → Zone) : Outside s (bypassesLeft g t) :=
  forEach_keeps (Outside s) (leaveBypass g) (fun z _ k => leaveBypass_outside k g z) t h

theorem bypassesLeft_zone (outside : s.alarm.service = false) (g : ZoneId → Zone → Zone) (z : ZoneId) :
    (bypassesLeft g s).zone z = (s.zone z).leaves s.groupArmed g z := by
  have both : Outside s (bypassesLeft g s) ∧ (bypassesLeft g s).zone z = (s.zone z).leaves s.groupArmed g z := by
    refine forEach_turn (P := fun t => Outside s t ∧ t.zone z = s.zone z)
      (Q := fun t => Outside s t ∧ t.zone z = (s.zone z).leaves s.groupArmed g z) (f := leaveBypass g) z ?_ ?_ ?_
      ⟨⟨outside, rfl⟩, rfl⟩
    · rintro j t apart ⟨out, same⟩
      exact ⟨leaveBypass_outside out g j, by rw [leaveBypass_zone out.1, if_neg apart, same]⟩
    · rintro t ⟨out, same⟩
      exact ⟨leaveBypass_outside out g z, by rw [leaveBypass_zone out.1, if_pos rfl, same, out.2]⟩
    · rintro j t apart ⟨out, same⟩
      exact ⟨leaveBypass_outside out g j, by rw [leaveBypass_zone out.1, if_neg apart, same]⟩
  exact both.2

/-- Service mode is over, and the zones have not been told. -/
def serviceOver (s : State) : State := s.modAlarm fun a => { a with service := false }

theorem endService_eq (s : State) : endService s =
    bypassesLeft (fun _ => Zone.endManualBypass) (bypassesLeft Zone.endServiceBypass (serviceOver s)) := rfl

theorem endService_outside (s : State) : Outside s (endService s) := by
  rw [endService_eq]
  exact bypassesLeft_outside (bypassesLeft_outside (t := serviceOver s) ⟨rfl, rfl⟩ _) _

/-- A zone record as the end of service mode leaves it (R157). -/
theorem endService_zone (s : State) (z : ZoneId) : (endService s).zone z =
    ((s.zone z).leaves s.groupArmed Zone.endServiceBypass z).leaves s.groupArmed (fun _ => Zone.endManualBypass) z := by
  have first : Outside s (bypassesLeft Zone.endServiceBypass (serviceOver s)) :=
    bypassesLeft_outside (t := serviceOver s) ⟨rfl, rfl⟩ _
  rw [endService_eq, bypassesLeft_zone first.1, first.2, bypassesLeft_zone rfl]
  rfl

/-! ### Zones that nothing activates -/

/-- The end of its bypass does not open the zone. -/
def Zone.calm (z : ZoneId) (r : Zone) : Prop :=
  r.state = .bypassed →
    (serviceKind z = true ∧ r.manualBypass = false) ∨ (r.group = .always ∧ r.manualBypass = true) → r.input = .quiet

/-- The end of a bypass that opens no calm zone and leaves every calm zone so. -/
def Calms (g : ZoneId → Zone → Zone) : Prop :=
  ∀ z r, r.calm z → (g z r).calm z ∧ (r.state = .bypassed → (g z r).state = .normal → (g z r).input = .quiet)

theorem calms_endServiceBypass : Calms Zone.endServiceBypass := by
  intro z r calm
  by_cases ends : r.state = .bypassed ∧ serviceKind z = true ∧ r.manualBypass = false
  · have quiet : r.input = .quiet := calm ends.1 (.inl ends.2)
    exact ⟨fun _ _ => quiet, fun _ _ => quiet⟩
  · have same : r.endServiceBypass z = r := by simp [Zone.endServiceBypass, ends]
    rw [same]
    exact ⟨calm, fun bypassed normal => absurd (bypassed.symm.trans normal) (by decide)⟩

theorem calms_endManualBypass : Calms fun _ => Zone.endManualBypass := by
  intro z r calm
  by_cases ends : r.state = .bypassed ∧ r.group = .always ∧ r.manualBypass = true
  · have quiet : r.input = .quiet := calm ends.1 (.inr ends.2)
    exact ⟨fun _ _ => quiet, fun _ _ => quiet⟩
  · have state : r.endManualBypass.state = r.state := if_neg ends
    refine ⟨fun bypassed barred => calm (state.symm.trans bypassed) ?_, fun bypassed normal => ?_⟩
    · rw [state] at bypassed
      rcases barred with ⟨kind, manual⟩ | ⟨group, manual⟩
      · refine .inl ⟨kind, ?_⟩
        by_contra held
        simp only [Bool.not_eq_false] at held
        simp only [Zone.endManualBypass, held, Bool.true_and, bne_eq_false_iff_eq] at manual
        exact ends ⟨bypassed, manual, held⟩
      · simp only [Zone.endManualBypass] at group manual
        simp [group] at manual
    · exact absurd (bypassed.symm.trans (state.symm.trans normal)) (by decide)

theorem leaveBypass_calm (calms : Calms g) (calm : (s.zone z).calm z) : leaveBypass g z s = s.modZone z (g z) := by
  unfold leaveBypass
  split
  next bypassed =>
    refine if_neg ?_
    rintro ⟨normal, active, -⟩
    rw [State.modZone_zone, if_pos rfl] at normal active
    exact absurd (active.symm.trans ((calms z _ calm).2 bypassed normal)) (by decide)
  · rfl

/-- With every zone calm, the end of a bypass touches the zones alone. -/
theorem bypassesLeft_calm (zs : ∀ z, z ∈ f.zones) (calms : Calms g) (calm : ∀ z, (s.zone z).calm z) :
    Touches f s (bypassesLeft g s) ∧ ∀ z, ((bypassesLeft g s).zone z).calm z := by
  refine forEach_keeps (fun t => Touches f s t ∧ ∀ z, (t.zone z).calm z) _ ?_ s ⟨.refl _ s, calm⟩
  rintro z t ⟨touches, calm⟩
  rw [leaveBypass_calm calms (calm z)]
  refine ⟨touches.trans (.modZone (zs z) _), fun k => ?_⟩
  rw [State.modZone_zone]
  split
  next here => subst here; exact (calms z _ (calm z)).1
  · exact calm k

theorem endService_calm (zs : ∀ z, z ∈ f.zones) (calm : ∀ z, (s.zone z).calm z) :
    Touches f (serviceOver s) (endService s) := by
  obtain ⟨first, calm⟩ := bypassesLeft_calm (s := serviceOver s) zs calms_endServiceBypass calm
  rw [endService_eq]
  exact first.trans (bypassesLeft_calm zs calms_endManualBypass calm).1

/-- A calm zone only leaves its bypass. -/
theorem Zone.leaves_calm (calms : Calms g) (calm : r.calm z) (armed : Group → Bool) : r.leaves armed g z = g z r := by
  unfold Zone.leaves
  split
  next bypassed =>
    refine if_neg ?_
    simp only [Zone.opens, Bool.and_eq_true, beq_iff_eq]
    rintro ⟨⟨⟨normal, active⟩, -⟩, -⟩
    exact absurd (active.symm.trans ((calms z r calm).2 bypassed normal)) (by decide)
  · rfl

theorem endService_zone_calm (calm : (s.zone z).calm z) : (endService s).zone z = (s.zone z).endService z := by
  rw [endService_zone, Zone.leaves_calm calms_endServiceBypass calm,
    Zone.leaves_calm calms_endManualBypass (calms_endServiceBypass z _ calm).1]
  rfl

/-- The two bypasses that end with service mode, at once. -/
theorem Zone.endService_eq (z : ZoneId) (r : Zone) : r.endService z = { r with
    manualBypass := r.manualBypass && r.group != .always
    state := if r.state = .bypassed ∧ ((serviceKind z = true ∧ r.manualBypass = false) ∨
      (r.group = .always ∧ r.manualBypass = true)) then .normal else r.state } := by
  unfold Zone.endService Zone.endManualBypass Zone.endServiceBypass
  by_cases bypassed : r.state = .bypassed
  · by_cases service : serviceKind z = true ∧ r.manualBypass = false
    · simp [bypassed, service]
    · simp [bypassed, service]
  · simp [bypassed]

/-- An event marks the zones that it changes. -/
theorem finish_zone_changed {q : Zone} {access : Option RecordRef} (new : t.zone z = q) (mark : q.mark = (s.zone z).mark) :
    (finish s t none access).zone z = { q with mark := q.mark || decide (q ≠ s.zone z) } := by
  by_cases still : q = s.zone z
  · rw [finish_zone_of_eq (new.trans still)]
    simp [still]
  · have other : (s.zone z).same q = false := Bool.eq_false_iff.mpr fun same => still (Zone.eq_of_same same mark)
    have moved : zoneMoved s t none z = true := by simp [zoneMoved, new, other]
    rw [finish_zone, moved, new]
    simp [still]

/-! ### Zones that are activated -/

/-- A manual bypass stands through the end of the service bypasses. -/
theorem Zone.leaves_manual {armed : Group → Bool} (bypassed : r.state = .bypassed) (manual : r.manualBypass = true) :
    r.leaves armed Zone.endServiceBypass z = r := by
  have same : r.endServiceBypass z = r := by
    rw [Zone.endServiceBypass, if_neg fun ends => by simp [manual] at ends]
  rw [Zone.leaves, same, if_pos bypassed]
  simp [Zone.activated, Zone.opens, bypassed]

/-- A zone that a manual bypass held, of a group that is always armed, is activated at the end of service mode. -/
theorem endService_zone_manual (bypassed : (s.zone z).state = .bypassed) (manual : (s.zone z).manualBypass = true)
    (group : (s.zone z).group = .always) (active : (s.zone z).input = .active) : (endService s).zone z = { s.zone z with
      manualBypass := false, tripCount := bump (s.zone z).tripCount
      state := if (s.zone z).entryDelay = 0 then .latched else .delay } := by
  rw [endService_zone, Zone.leaves_manual bypassed manual]
  simp [Zone.leaves, Zone.endManualBypass, bypassed, group, manual, Zone.activated, Zone.opens, active, State.groupArmed]

/-- A zone that service mode alone held is activated if it stands open and is armed. -/
theorem endService_zone_service (kind : serviceKind z = true) (bypassed : (s.zone z).state = .bypassed)
    (manual : (s.zone z).manualBypass = false) (active : (s.zone z).input = .active)
    (armed : s.groupArmed (s.zone z).group = true) : (endService s).zone z = { s.zone z with
      tripCount := bump (s.zone z).tripCount
      state := if (s.zone z).entryDelay = 0 then .latched else .delay } := by
  have first : (s.zone z).leaves s.groupArmed Zone.endServiceBypass z = { s.zone z with
      tripCount := bump (s.zone z).tripCount
      state := if (s.zone z).entryDelay = 0 then .latched else .delay } := by
    simp [Zone.leaves, Zone.endServiceBypass, manual, bypassed, kind, Zone.activated, Zone.opens, active, armed]
  rw [endService_zone, first]
  by_cases now : (s.zone z).entryDelay = 0 <;> simp [Zone.leaves, Zone.endManualBypass, manual, now]

/-! ### The trip list -/

/-- The end of a bypass takes nothing from the trip list. -/
theorem leaveBypass_trips (g : ZoneId → Zone → Zone) (z : ZoneId) (s : State) :
    ∃ more, (leaveBypass g z s).custody.tripList = s.custody.tripList ++ more := by
  unfold leaveBypass
  split
  · unfold activateIfOpen
    split
    · exact ⟨_, activate_trips z _⟩
    · exact ⟨[], by simp⟩
  · exact ⟨[], by simp⟩

/-- A zone that latches at the end of its bypass joins the trip list. -/
theorem bypassesLeft_trips (outside : s.alarm.service = false) (bypassed : (s.zone z).state = .bypassed)
    (opens : (g z (s.zone z)).opens (s.groupArmed (g z (s.zone z)).group) = true)
    (now : (g z (s.zone z)).entryDelay = 0) : z ∈ (bypassesLeft g s).custody.tripList := by
  rw [bypassesLeft]
  refine forEach_turn (P := fun t => Outside s t ∧ t.zone z = s.zone z) (Q := fun t => z ∈ t.custody.tripList)
    (f := leaveBypass g) z ?_ ?_ ?_ ⟨⟨outside, rfl⟩, rfl⟩
  · rintro j t apart ⟨out, same⟩
    exact ⟨leaveBypass_outside out g j, by rw [leaveBypass_zone out.1, if_neg apart, same]⟩
  · rintro t ⟨out, same⟩
    have out' : (t.modZone z (g z)).alarm.service = false := out.1
    have armed : (t.modZone z (g z)).zoneArmed z = s.groupArmed (g z (s.zone z)).group := by
      rw [State.zoneArmed, State.modZone_zone, if_pos rfl, same, ← out.2]
      rfl
    rw [leaveBypass, if_pos (by rw [same]; exact bypassed), activateIfOpen_trips out', armed]
    simp [same, opens, now]
  · intro j t apart member
    obtain ⟨more, trips⟩ := leaveBypass_trips g j t
    rw [trips]
    exact List.mem_append_left _ member

theorem endService_trips_manual (bypassed : (s.zone z).state = .bypassed) (manual : (s.zone z).manualBypass = true)
    (group : (s.zone z).group = .always) (active : (s.zone z).input = .active) (now : (s.zone z).entryDelay = 0) :
    z ∈ (endService s).custody.tripList := by
  have first : Outside s (bypassesLeft Zone.endServiceBypass (serviceOver s)) :=
    bypassesLeft_outside (t := serviceOver s) ⟨rfl, rfl⟩ _
  have same : (bypassesLeft Zone.endServiceBypass (serviceOver s)).zone z = s.zone z := by
    rw [bypassesLeft_zone rfl]
    exact Zone.leaves_manual bypassed manual
  rw [endService_eq]
  refine bypassesLeft_trips first.1 ?_ ?_ ?_
  · rw [same, bypassed]
  · rw [same, first.2]
    simp [Zone.endManualBypass, bypassed, group, manual, Zone.opens, active, State.groupArmed]
  · rw [same]
    exact now

end Sys2Proof.Machine
end

section
/-! Service mode begins and ends. -/

namespace Sys2Proof.Machine
set_option Elab.async false

variable {s t u : State} {c k : CassetteId} {z : ZoneId} {ps : List Byte}

@[simp] theorem answering_alarm (r : ResultCode) (p : Payload) (s : State) : (s.answering r p).alarm = s.alarm := rfl

/-! ### SERVICE ENTER -/

theorem serviceEnter_alarm (s : State) :
    (shuttersServiced s).alarm = { s.alarm with service := true, delays := (shuttersServiced s).alarm.delays } := by
  rw [shuttersServiced_alarm]
  exact zonesServiced_alarm s

theorem serviceEnter_delay (s : State) (z : ZoneId) : (shuttersServiced s).alarm.delays.get z =
    if serviceKind z = true ∧ ((s.zone z).state = .normal ∨ (s.zone z).state = .delay) then none
    else s.alarm.delays.get z := by
  rw [shuttersServiced_alarm, zonesServiced_delay]
  simp only [Zone.servicing_iff]

theorem serviceEnter_zone {access : Option RecordRef} (same : t.zone z = (shuttersServiced s).zone z) :
    (finish s t none access).zone z =
      if serviceKind z = true ∧ ((s.zone z).state = .normal ∨ (s.zone z).state = .delay)
      then { s.zone z with state := .bypassed, mark := true } else s.zone z := by
  rw [finish_zone_serviced (by rw [same, shuttersServiced_zone, zonesServiced_zone])]
  simp only [Zone.servicing_iff]

theorem Shutter.ajar_iff (h : Shutter) : h.ajar = true ↔ h = .opened ∨ h = .opening := by
  simp [Shutter.ajar]

theorem serviceEnter_cassette {access : Option RecordRef} (same : t.cassette c = (shuttersServiced s).cassette c) :
    (finish s t none access).cassette c = if (s.cassette c).shutter = .opened ∨ (s.cassette c).shutter = .opening
      then { s.cassette c with shutter := .closing, mark := true } else s.cassette c := by
  rw [shutting_marked s t access (by rw [same, shuttersServiced_cassette])]
  simp only [Shutter.ajar_iff]

theorem serviceEnter_travel (s : State) (c : CassetteId) : (shuttersServiced s).path.shutterTravel.get c =
    if (s.cassette c).shutter = .opened ∨ (s.cassette c).shutter = .opening then some 300
    else s.path.shutterTravel.get c := by
  rw [shuttersServiced_travel]
  simp only [Shutter.ajar_iff, shutterTravelTime]

/-! ### SERVICE EXIT and the key drop -/

/-- The end of service mode with the sessions that it completes. -/
def serviceEnded (s : State) : State := completeSessions (endService s)

theorem serviceEnded_service (s : State) : (serviceEnded s).alarm.service = false := by
  rw [serviceEnded, completeSessions_alarm]
  exact (endService_outside s).1

theorem serviceEnded_zone (s : State) (z : ZoneId) : (serviceEnded s).zone z = (endService s).zone z :=
  completeSessions_zone _ z

/-- With every zone calm, service mode ends without an activation. -/
theorem serviceEnded_touches {f : Footprint} (zs : ∀ z, z ∈ f.zones) (a : f.alarm = true) (cl : f.closes = true)
    (calm : ∀ z, (s.zone z).calm z) : Touches f s (serviceEnded s) :=
  ((Touches.modAlarm a _).trans (endService_calm zs calm)).trans (completeSessions_touches cl _)

theorem serviceEnded_alarm (calm : ∀ z, (s.zone z).calm z) :
    (serviceEnded s).alarm = { s.alarm with service := false } := by
  have kept := (endService_calm (f := { zones := positions _ }) mem_positions calm).alarm.resolve_left (by simp)
  rw [serviceEnded, completeSessions_alarm, kept]
  rfl

theorem serviceEnded_lane (calm : ∀ z, (s.zone z).calm z) (l : LaneId) : (endService s).lane l = s.lane l :=
  (endService_calm (f := { zones := positions _ }) mem_positions calm).lane rfl rfl l

/-- A calm zone is marked if its bypass ends. -/
theorem finish_zone_ended {access : Option RecordRef} (calm : (u.zone z).calm z) (found : u.zone z = s.zone z)
    (same : t.zone z = (serviceEnded u).zone z) :
    let q : Zone := { s.zone z with
      manualBypass := (s.zone z).manualBypass && (s.zone z).group != .always
      state := if (s.zone z).state = .bypassed ∧
        ((serviceKind z = true ∧ (s.zone z).manualBypass = false) ∨ ((s.zone z).group = .always ∧
          (s.zone z).manualBypass = true)) then .normal else (s.zone z).state }
    (finish s t none access).zone z = { q with mark := q.mark || decide (q ≠ s.zone z) } := by
  refine finish_zone_changed ?_ rfl
  rw [same, serviceEnded_zone, endService_zone_calm calm, Zone.endService_eq, found]

theorem serviceExit_reply (service : s.alarm.service = true)
    (quiet : ∀ z, serviceKind z = true → (s.zone z).input = .quiet) :
    serviceExit ps s.released.written = .done (serviceEnded s.released.written) .ok .empty none := by
  have none : s.released.written.firstZone (fun z r => serviceKind z && r.input == .active) = none := by
    refine List.find?_eq_none.mpr fun z _ => ?_
    cases kind : serviceKind z with
    | false => simp [kind]
    | true => simp [quiet z kind]
  rw [serviceExit, checked_pass (by simp [firstRefusal, service]), none]
  rfl

/-- The key line has been reported, in the Alarm Unit and in the field levels. -/
def keyTaken (k : Bool) (s : State) : State :=
  (s.modLevels fun v => { v with key := k }).modAlarm fun a => { a with key := k }

theorem keyTaken_touches {f : Footprint} (a : f.alarm = true) (v : f.levels = true) (k : Bool) (s : State) :
    Touches f s (keyTaken k s) := (Touches.modLevels v _).trans (.modAlarm a _)

@[simp] theorem keyTaken_zone (k : Bool) (s : State) (z : ZoneId) : (keyTaken k s).zone z = s.zone z := rfl
@[simp] theorem keyTaken_lane (k : Bool) (s : State) (l : LaneId) : (keyTaken k s).lane l = s.lane l := rfl
@[simp] theorem keyTaken_alarm (k : Bool) (s : State) : (keyTaken k s).alarm = { s.alarm with key := k } := rfl
@[simp] theorem keyTaken_armed (k : Bool) (s : State) (g : Group) : (keyTaken k s).groupArmed g = s.groupArmed g := by
  cases g <;> rfl

/-- A drop of the key line in service mode ends service mode (R158). -/
theorem yields_keyDrop {P : State → Prop} (heeds : s.heeds = true) (service : s.alarm.service = true)
    (ends : P (finish s (serviceEnded (keyTaken false s)) none none)) : Yields (.keyLineReport false) s P := by
  refine yields_of (fieldEvent_heeded heeds) ?_
  have drops : keyReported false (s.modLevels fun v => { v with key := false }) = serviceEnded (keyTaken false s) :=
    if_pos ⟨rfl, service⟩
  exact drops ▸ ends

/-- A zone whose record changes its state is marked. -/
theorem finish_zone_moved {q : Zone} (new : t.zone z = q) (moved : q.state ≠ (s.zone z).state) :
    (finish s t none none).zone z = { q with mark := true } := by
  have marked := finish_zone_marked (before := s) (after := t) z (by rw [new]; exact moved)
  obtain ⟨b, record⟩ := finish_zone_but_mark (before := s) (after := t) z
  rw [record] at marked ⊢
  rw [new, show b = true from marked]

/-- Settles O49: SERVICE ENTER bypasses the service zones and closes the shutters; SERVICE EXIT and the key drop end
service mode. -/
theorem serviceModeBeginsAndEnds : Obligations.ServiceModeBeginsAndEnds := by
  refine ⟨?_, ?_, ?_, ?_, ?_, ?_, ?_, ?_, ?_, ?_, ?_⟩
  case refine_1 =>
    intro ps s awake bytes out key sessions orders closed
    have enters : enterService s.released.written = shuttersServiced s.released.written :=
      enterService_closed fun c state holder => by
        have shut := closed c (by simpa using state) (by simpa using holder)
        simpa [Shutter.ajar] using shut
    refine yields_done rfl (takes_of_awake awake) bytes
      ((serviceChecks_pass awake out key sessions orders).trans (by rw [enters])) ?_
    refine ⟨commandLeaves_finish (shuttersServiced_touches _) (by simp), ?_, ?_, ?_, ?_, ?_, ?_⟩
    · rw [answering_alarm, finish_alarm, serviceEnter_alarm, taken_alarm]
    · intro z
      rw [answering_alarm, finish_alarm, serviceEnter_delay, taken_alarm, taken_zone]
    · intro z
      rw [answering_zone, serviceEnter_zone rfl, taken_zone]
    · intro c
      rw [answering_cassette, serviceEnter_cassette rfl, taken_cassette]
    · intro c
      rw [answering_path, finish_path, serviceEnter_travel, taken_cassette, taken_path]
    · rw [answering_path, finish_path, shuttersServiced_path, taken_path]
  case refine_2 =>
    intro ps c s awake bytes out key sessions orders state holder ajar
    have ajar' : (s.released.written.cassette c).shutter.ajar = true := by simpa [Shutter.ajar] using ajar
    have closing : ((shuttersServiced s.released.written).cassette c).shutter = .closing := by
      rw [shuttersServiced_cassette, Cassette.shutting, if_pos ajar']
    have view := reopened_view closing
    obtain ⟨cassette, travel⟩ := Prod.mk.inj view
    have alone := reopened_alone c (shuttersServiced s.released.written)
    have zones (z : ZoneId) := (alone.zones z).resolve_left (by simp)
    have alarm := alone.alarm.resolve_left (by simp)
    refine yields_done rfl (takes_of_awake awake) bytes
      ((serviceChecks_pass awake out key sessions orders).trans
        (by rw [enterService_leveling (by simpa using state) (by simpa using holder) ajar'])) ?_
    refine ⟨commandLeaves_finish ((shuttersServiced_touches _).trans ?_) (by simp), ?_, ?_, ?_, ?_, ?_, ?_, ?_⟩
    · exact (Touches.modPath rfl _).trans (openShutter_touches (mem_everyCassette c) rfl _)
    · rw [answering_alarm, finish_alarm, alarm, serviceEnter_alarm, taken_alarm]
    · intro z
      rw [answering_alarm, finish_alarm, alarm, serviceEnter_delay, taken_alarm, taken_zone]
    · intro z
      rw [answering_zone, serviceEnter_zone (zones z), taken_zone]
    · rw [answering_cassette, finish_cassette_reopened, taken_cassette]
      rw [cassette, shuttersServiced_cassette, Cassette.shutting, if_pos ajar']
    · intro k apart
      rw [answering_cassette, serviceEnter_cassette (reopened_cassette_other apart _), taken_cassette]
    · intro k
      rw [answering_path, finish_path]
      by_cases here : k = c
      · rw [here, travel, if_pos ajar, shutterTravelTime]
      · rw [reopened_travel_other here, serviceEnter_travel, taken_cassette, taken_path]
    · rw [answering_path, finish_path, reopened_path, shuttersServiced_path, taken_path]
  case refine_3 =>
    intro ps s awake bytes barred
    exact refuses_of rfl (takes_of_awake awake) bytes (serviceChecks_fail awake barred)
  case refine_4 =>
    intro ps s takes bytes service quiet manual
    have calm (z : ZoneId) : (s.released.written.zone z).calm z := by
      rw [taken_zone]
      rintro - (⟨kind, -⟩ | ⟨group, held⟩)
      · exact quiet z kind
      · exact manual z held group
    refine yields_done rfl takes bytes (serviceExit_reply service quiet)
      ⟨commandLeaves_finish (serviceEnded_touches mem_positions rfl rfl calm) (by simp), ?_, ?_, ?_⟩
    · intro l
      exact sessionSettles_finish (by rw [serviceEnded_lane calm, taken_lane])
    · rw [answering_alarm, finish_alarm, serviceEnded_alarm calm, taken_alarm]
    · intro z
      have ended := finish_zone_ended (s := s.released.written) (access := none) (calm z) rfl rfl
      rw [taken_zone] at ended
      exact ended
  case refine_5 =>
    intro ps z s takes bytes service active lower
    have first : s.released.written.firstZone (fun z r => serviceKind z && r.input == .active) = some z := by
      refine (List.find?_ofFn_eq_some_of_injective Function.injective_id).mpr ⟨by simp [active], fun y below => ?_⟩
      cases kind : serviceKind y with
      | false => simp [kind]
      | true => simp [kind, lower y below kind]
    have reply : serviceExit ps s.released.written =
        .refuse .wrongState (.bytes (byte1 (z.val + 1))) none := by
      rw [serviceExit, checked_pass (by simp [firstRefusal, service]), first]
    refine yields_of (station_carried takes bytes) ?_
    rw [reply]
    obtain ⟨custody, -, -, -, alarm, -⟩ := refuse_leaves 0x69 ps .wrongState (.bytes (byte1 (z.val + 1))) none s
    exact ⟨custody, alarm, rfl⟩
  case refine_6 =>
    intro ps s takes bytes service
    exact refuses_of rfl takes bytes (checked_fail (by simp [firstRefusal, service]))
  case refine_7 =>
    intro s heeds service quiet
    have calm (z : ZoneId) : ((keyTaken false s).zone z).calm z := fun bypassed _ => quiet z bypassed
    refine yields_keyDrop heeds service ⟨eventLeaves_finish ((keyTaken_touches rfl rfl false s).trans
      (serviceEnded_touches mem_positions rfl rfl calm)), ?_, ?_, ?_⟩
    · intro l
      exact sessionSettles_finish (by rw [serviceEnded_lane calm, keyTaken_lane])
    · rw [finish_alarm, serviceEnded_alarm calm, keyTaken_alarm]
    · intro z
      exact finish_zone_ended (calm z) rfl rfl
  case refine_8 =>
    intro ps z s takes bytes service quiet bypassed manual group active
    refine yields_done rfl takes bytes (serviceExit_reply service quiet) ⟨rfl, ?_, ?_, ?_⟩
    · rw [answering_alarm, finish_alarm, serviceEnded_service]
    · have ends := endService_zone_manual (s := s.released.written) (z := z) (by simpa using bypassed) (by simpa using manual)
        (by simpa using group) (by simpa using active)
      rw [taken_zone] at ends
      rw [answering_zone, finish_zone_moved ((serviceEnded_zone _ z).trans ends)]
      split <;> simp [bypassed]
    · intro now
      rw [answering_custody, finish_tripList, serviceEnded, completeSessions_tripList]
      exact endService_trips_manual (by simpa using bypassed) (by simpa using manual) (by simpa using group)
        (by simpa using active) (by simpa using now)
  case refine_9 =>
    intro z s heeds service bypassed manual group active
    refine yields_keyDrop heeds service ⟨by rw [finish_alarm, serviceEnded_service], ?_⟩
    have ends := endService_zone_manual (s := keyTaken false s) bypassed manual group active
    rw [keyTaken_zone] at ends
    rw [finish_zone_moved ((serviceEnded_zone _ z).trans ends)]
    split <;> simp [bypassed]
  case refine_10 =>
    intro z s heeds service kind bypassed manual active armed
    refine yields_keyDrop heeds service ⟨by rw [finish_alarm, serviceEnded_service], ?_⟩
    have ends := endService_zone_service (s := keyTaken false s) kind bypassed manual active (by simpa using armed)
    rw [keyTaken_zone] at ends
    rw [finish_zone_moved ((serviceEnded_zone _ z).trans ends)]
    · exact ⟨rfl, rfl, rfl⟩
    · split <;> simp [bypassed]
  case refine_11 =>
    intro k s heeds stands
    refine yields_of (fieldEvent_heeded heeds) ?_
    have kept : keyReported k (s.modLevels fun v => { v with key := k }) = keyTaken k s :=
      if_neg fun drop => by rcases stands with stands | stands <;> simp [stands] at drop
    rw [kept]
    refine ⟨eventLeaves_finish (keyTaken_touches rfl rfl k s), by rw [finish_alarm, keyTaken_alarm], ?_⟩
    rw [finish_levels]
    rfl

end Sys2Proof.Machine
end

section
/-! A zone latches: what stands of the state when the response of the latch acts, and what stands at the end. -/

namespace Sys2Proof.Machine
set_option Elab.async false

variable {s t u : State} {f : Footprint} {z : ZoneId} {c : Instr}

/-! ### The zone that latches -/

theorem completeSessions_port (s : State) : (completeSessions s).port = s.port :=
  forEach_keeps (fun t => t.port = s.port) completeSession (fun l t same => by
    unfold completeSession
    split
    · split
      · exact same
      · exact same
    all_goals exact same) s rfl

theorem State.lockdown_congr
    (same : ∀ z, (t.zone z).state = (s.zone z).state ∧ (t.zone z).response = (s.zone z).response) :
    t.lockdown = s.lockdown := by
  rw [Bool.eq_iff_iff, State.lockdown, State.lockdown, tableAny_iff, tableAny_iff]
  refine exists_congr fun z => ?_
  obtain ⟨state, response⟩ := same z
  simp only [State.zone] at state response
  rw [state, response]

theorem State.lockdown_iff (s : State) :
    s.lockdown = true ↔ ∃ z, (s.zone z).state = .latched ∧ (s.zone z).response = .lockdown := by
  rw [State.lockdown, tableAny_iff]
  simp [State.zone]

/-- The state in which the response of a latch acts: the zone has gone LATCHED and joined the trip list (R147, R149). -/
structure Struck (c : Instr) (z : ZoneId) (s u : State) : Prop where
  leaves : ∀ f : Footprint, z ∈ f.zones → f.trips = true → f.alarm = true → f.levels = true → Touches f s u
  unlatched : (s.zone z).state ≠ .latched
  zone : u.zone z = { s.zone z with
    input := if c = .zoneInputReport z .active then .active else (s.zone z).input
    tripCount := if c = .zoneInputReport z .active then bump (s.zone z).tripCount else (s.zone z).tripCount
    state := .latched }
  trips : u.custody.tripList = s.custody.tripList ++ [z]
  alarm : u.alarm = { s.alarm with delays := tableSet s.alarm.delays z none }

/-- The state at the end of the event in which a zone latches. -/
def latchEnded (z : ZoneId) (s u : State) : State :=
  finish s (completeSessions ((respond z s.lockdown u).raise .alarm)) none none

/-- The zone has been reported ACTIVE and its trip counted. -/
def struckOpen (z : ZoneId) (s : State) : State :=
  ((s.modLevels fun v => { v with zones := tableSet v.zones z .active }).modZone z fun r => { r with
    input := .active }).modZone z fun r => { r with tripCount := bump r.tripCount }

theorem struckOpen_zone (z k : ZoneId) (s : State) : (struckOpen z s).zone k =
    if z = k then { s.zone k with input := .active, tripCount := bump (s.zone k).tripCount } else s.zone k := by
  rw [struckOpen, State.modZone_zone, State.modZone_zone]
  split <;> rfl

theorem struckOpen_touches (h : z ∈ f.zones) (v : f.levels = true) (s : State) : Touches f s (struckOpen z s) :=
  ((Touches.modLevels v _).trans (.modZone h _)).trans (.modZone h _)

theorem struckOpen_lockdown (z : ZoneId) (s : State) : (struckOpen z s).lockdown = s.lockdown :=
  State.lockdown_congr fun k => by
    rw [struckOpen_zone]
    split <;> exact ⟨rfl, rfl⟩

theorem tripped_touches (h : z ∈ f.zones) (t : f.trips = true) (a : f.alarm = true) (s : State) :
    Touches f s (tripped z s) :=
  ((Touches.modZone h _).trans (stopDelay_touches a z _)).trans (.setTripList t _)

theorem struck_open (normal : (s.zone z).state = .normal) :
    Struck (.zoneInputReport z .active) z s (tripped z (struckOpen z s)) where
  leaves f h t a v := (struckOpen_touches h v s).trans (tripped_touches h t a _)
  unlatched := by simp [normal]
  zone := by rw [tripped_zone, struckOpen_zone]; simp
  trips := rfl
  alarm := rfl

theorem struck_delay (z : ZoneId) (delay : (s.zone z).state = .delay) :
    Struck (.entryDelayExpiry z) z s (tripped z s) where
  leaves f h t a _ := tripped_touches h t a s
  unlatched := by simp [delay]
  zone := by rw [tripped_zone]; simp
  trips := rfl
  alarm := rfl

/-- Whichever event makes a zone latch, it ends as its response leaves it. -/
theorem yields_latch {P : State → Prop} (heeds : s.heeds = true) (latches : Latches c z s)
    (ends : ∀ u, Struck c z s u → P (latchEnded z s u)) : Yields c s P := by
  rcases latches with ⟨rfl, normal, armed, unbypassed, now⟩ | ⟨rfl, delay⟩
  · refine yields_of (fieldEvent_heeded heeds) ?_
    generalize reported : ((s.modLevels fun v => { v with zones := tableSet v.zones z .active }).modZone z fun r =>
      { r with input := .active }) = w
    have opens : (w.zone z).state = .normal ∧ (w.zone z).input = .active ∧ w.groupArmed (w.zone z).group = true ∧
        w.bypassed z = false := by
      have zone : w.zone z = { s.zone z with input := .active } := by rw [← reported, State.modZone_zone, if_pos rfl]; rfl
      have groups : w.groupArmed (s.zone z).group = s.groupArmed (s.zone z).group := by
        rw [← reported]
        cases (s.zone z).group <;> rfl
      have bypass : w.bypassed z = s.bypassed z := by
        rw [State.bypassed, zone, ← reported]
        rfl
      rw [zone]
      exact ⟨normal, rfl, groups.trans armed, bypass.trans unbypassed⟩
    have now' : (w.zone z).entryDelay = 0 := by rw [← reported, State.modZone_zone, if_pos rfl]; exact now
    have run : zoneReported z .active (s.modLevels fun v => { v with zones := tableSet v.zones z .active }) =
        completeSessions (latch z (struckOpen z s)) := by
      rw [zoneReported, reported, if_pos rfl, activateIfOpen, if_pos opens, activate, struckOpen, reported]
      exact congrArg completeSessions (if_pos now')
    rw [run, latch_eq, struckOpen_lockdown]
    exact ends _ (struck_open normal)
  · refine yields_of (event_heeded heeds) ?_
    have run : delayExpiry z s = completeSessions (latch z s) := if_pos delay
    rw [run, latch_eq]
    exact ends _ (struck_delay z delay)

/-! ### What stands when the response acts -/

section
variable (k : Struck c z s u)
include k

theorem Struck.alone : Touches { zones := [z], trips := true, alarm := true, levels := true } s u :=
  k.leaves _ (by simp) rfl rfl rfl

theorem Struck.lane (l : LaneId) : u.lane l = s.lane l := k.alone.lane rfl rfl l

theorem Struck.response : (u.zone z).response = (s.zone z).response := by rw [k.zone]
theorem Struck.zoneLane : (u.zone z).lane = (s.zone z).lane := by rw [k.zone]

/-! ### What stands at the end -/

theorem Struck.ended_zone : (latchEnded z s u).zone z = { s.zone z with
    input := if c = .zoneInputReport z .active then .active else (s.zone z).input
    tripCount := if c = .zoneInputReport z .active then bump (s.zone z).tripCount else (s.zone z).tripCount
    state := .latched, mark := true } := by
  have new : (completeSessions ((respond z s.lockdown u).raise .alarm)).zone z = _ :=
    (completeSessions_zone _ z).trans ((State.raise_zone _ _ _).trans ((respond_responds z s.lockdown u).zones z))
  rw [latchEnded, finish_zone_moved (new.trans k.zone) (Ne.symm k.unlatched)]

theorem Struck.ended_trips : (latchEnded z s u).custody.tripList = s.custody.tripList ++ [z] := by
  rw [latchEnded, finish_tripList, completeSessions_tripList, State.raise_custody, (respond_responds z _ u).trips, k.trips]

/-- A latch starts lockdown, or finds it standing, if its response is LOCKDOWN. -/
theorem Struck.ended_lockdown (response : (s.zone z).response = .lockdown) : (latchEnded z s u).lockdown = true := by
  refine (State.lockdown_iff _).mpr ⟨z, ?_⟩
  rw [k.ended_zone]
  exact ⟨rfl, response⟩

/-- Whether notices are held is no matter of a latch. -/
theorem Struck.hushed : (respond z s.lockdown u).hushed = s.hushed := by
  have room : LockdownRoom { responseRoom with zones := [z], trips := true, alarm := true, levels := true } :=
    ⟨mem_positions, mem_positions, rfl, mem_positions, mem_positions, rfl, rfl, rfl⟩
  have touches := (k.leaves { responseRoom with zones := [z], trips := true, alarm := true, levels := true }
    (by simp) rfl rfl rfl).trans (respond_touches room z s.lockdown u)
  have sup := touches.sup.resolve_left (by simp [responseRoom])
  rw [State.hushed, State.hushed, sup, touches.settle]

/-- A latch raises ALARM (R149). -/
theorem Struck.ended_notice : (if s.hushed then (latchEnded z s u).port.heldNotices
    else (latchEnded z s u).port.notices) &&& Notice.alarm.bit = Notice.alarm.bit := by
  have raised : ((respond z s.lockdown u).raise .alarm).HasNotice .alarm := hasNotice_raiseIf (b := true) .alarm rfl _
  have kept : (completeSessions ((respond z s.lockdown u).raise .alarm)).HasNotice .alarm := by
    rw [State.HasNotice, State.hushed, completeSessions_sup, completeSessions_port]
    exact raised
  have ended : (latchEnded z s u).HasNotice .alarm := kept.finish s none none
  have hushed : (latchEnded z s u).hushed = s.hushed := by
    rw [latchEnded, finish_hushed, State.hushed, completeSessions_sup, completeSessions_port, ← State.hushed,
      State.raise_hushed, k.hushed]
  rw [State.HasNotice, hushed] at ended
  exact ended

end

/-- A latch leaves the Alarm Unit to its response. -/
theorem ended_alarm (z : ZoneId) (s u : State) : (latchEnded z s u).alarm = (respond z s.lockdown u).alarm := by
  rw [latchEnded, finish_alarm, completeSessions_alarm, State.raise_alarm]

end Sys2Proof.Machine
end

section
/-! A latch with the LANE_LOCK response: the lane is locked, and its OPEN session is closed. -/

namespace Sys2Proof.Machine
set_option Elab.async false

variable {s t u w : State} {f : Footprint} {z : ZoneId} {c : Instr} {l : LaneId} {d : CassetteId} {i : OrderSlot}
  {o q : Order}

/-! ### The lock -/

/-- A lane that a latched zone locks: an ALARM lock that stands keeps its zone (R116). -/
def Lane.locked (z : ZoneId) (r : Lane) : Lane :=
  { r with
    lock := match r.lock with
      | .alarm y => .alarm y
      | .none | .jam => .alarm z }

theorem lockLane_eq (l : LaneId) (z : ZoneId) (s : State) : lockLane l z s =
    if (s.lane l).session = .opened then closeSession l .laneLock (s.modLane l (Lane.locked z))
    else s.modLane l (Lane.locked z) := rfl

theorem respond_laneLock {stood : Bool} (response : (s.zone z).response = .laneLock) (lane : (s.zone z).lane = some l) :
    respond z stood s = lockLane l z s := by
  rw [respond, response]
  simp only [lane]

/-- The state in which the session of a locked lane is closed: its zone has gone LATCHED and its lock stands (R116). -/
structure Bolted (l : LaneId) (z : ZoneId) (s w : State) : Prop where
  leaves : ∀ f : Footprint, z ∈ f.zones → f.trips = true → f.alarm = true → f.levels = true → l ∈ f.lanes →
    Touches f s w
  lane : w.lane l = (s.lane l).locked z
  lanes : ∀ j, j ≠ l → w.lane j = s.lane j

theorem Struck.bolted (k : Struck c z s u) (l : LaneId) : Bolted l z s (u.modLane l (Lane.locked z)) where
  leaves f h t a v ls := (k.leaves f h t a v).trans (.modLane ls _)
  lane := by rw [State.modLane_lane, if_pos rfl, k.lane]
  lanes j apart := by rw [State.modLane_lane, if_neg (Ne.symm apart), k.lane]

section
variable (k : Bolted l z s w)
include k

theorem Bolted.alone : Touches { zones := [z], trips := true, alarm := true, levels := true, lanes := [l] } s w :=
  k.leaves _ (by simp) rfl rfl rfl (by simp)

theorem Bolted.cassette (d : CassetteId) : w.cassette d = s.cassette d := (k.alone.cassettes d).resolve_left (by simp)
theorem Bolted.order (i : OrderSlot) : w.order i = s.order i := (k.alone.orders i).resolve_left (by simp)
theorem Bolted.laneWork (j : LaneId) : w.laneWork j = s.laneWork j := (k.alone.work j).resolve_left (by simp)
theorem Bolted.path : w.path = s.path := k.alone.path.resolve_left (by simp)
theorem Bolted.placement : w.custody.placement = s.custody.placement := k.alone.placement.resolve_left (by simp)

theorem Bolted.waits (j : LaneId) (i : OrderSlot) : w.waits j i = s.waits j i := by
  rw [State.waits, State.waits, k.order]

theorem Bolted.claimWaits (j : LaneId) : w.claimWaits j = s.claimWaits j := by
  funext q
  cases q with
  | order i => exact k.waits j i
  | leveling d => rfl

theorem Bolted.heldNeed (d : CassetteId) (i : OrderSlot) : w.heldNeed d i = s.heldNeed d i := by
  rw [State.heldNeed, State.heldNeed, k.order]

theorem Bolted.closeFate (i : OrderSlot) : w.closeFate l .laneLock i = s.closeFate l .laneLock i := by
  funext o
  unfold State.closeFate
  rw [k.lane]
  rfl

theorem Bolted.dumpsHead : w.dumpsHead l = s.dumpsHead l := by
  unfold State.dumpsHead
  simp only [k.lane, k.order, Lane.locked]

end

/-! ### The lane whose session is not OPEN -/

/-- The state at the end of a latch that only locks its lane. -/
def boltEnded (s w : State) : State := finish s (completeSessions (w.raise .alarm)) none none

/-- The state at the end of a latch that closes the session of its lane. -/
def lockEnded (l : LaneId) (s w : State) : State :=
  finish s (completeSessions ((closeSession l .laneLock w).raise .alarm)) none none

theorem yields_bolt {P : State → Prop} (heeds : s.heeds = true) (latches : Latches c z s)
    (response : (s.zone z).response = .laneLock) (lane : (s.zone z).lane = some l) (shut : (s.lane l).session ≠ .opened)
    (ends : ∀ w, Bolted l z s w → P (boltEnded s w)) : Yields c s P := by
  refine yields_latch heeds latches fun u k => ?_
  have run : respond z s.lockdown u = u.modLane l (Lane.locked z) := by
    rw [respond_laneLock (k.response.trans response) (k.zoneLane.trans lane), lockLane_eq, if_neg (by rw [k.lane]; exact shut)]
  rw [latchEnded, run]
  exact ends _ (k.bolted l)

theorem yields_lock {P : State → Prop} (heeds : s.heeds = true) (latches : Latches c z s)
    (response : (s.zone z).response = .laneLock) (lane : (s.zone z).lane = some l) (opened : (s.lane l).session = .opened)
    (ends : ∀ w, Bolted l z s w → P (lockEnded l s w)) : Yields c s P := by
  refine yields_latch heeds latches fun u k => ?_
  have run : respond z s.lockdown u = closeSession l .laneLock (u.modLane l (Lane.locked z)) := by
    rw [respond_laneLock (k.response.trans response) (k.zoneLane.trans lane), lockLane_eq,
      if_pos (by rw [k.lane]; exact opened)]
  rw [latchEnded, run]
  exact ends _ (k.bolted l)

/-- A lane that has changed is marked at the end of the event. -/
theorem finish_lane_changed {r : Lane} (new : t.lane l = r) (mark : r.mark = (s.lane l).mark) :
    (finish s t none none).lane l = { r with mark := r.mark || decide (r ≠ s.lane l) } := by
  by_cases still : r = s.lane l
  · rw [finish_lane_of_eq (new.trans still)]
    simp [still]
  · have other : (s.lane l).same r = false := Bool.eq_false_iff.mpr fun same => still (Lane.eq_of_same same mark)
    have moved : laneMoved s t none l = true := by simp [laneMoved, new, other]
    rw [finish_lane, moved, new]
    simp [still]

theorem finish_lane_marked (moved : t.lane l ≠ s.lane l) (mark : (t.lane l).mark = (s.lane l).mark) :
    (finish s t none none).lane l = { t.lane l with mark := true } := by
  rw [finish_lane_changed rfl mark, decide_eq_true moved, Bool.or_true]

section
variable (k : Bolted l z s w)
include k

theorem Bolted.ended_leaves : EventLeaves
    { zones := [z], trips := true, alarm := true, lanes := [l], closes := true, levels := true } s (boltEnded s w) :=
  eventLeaves_finish (((k.leaves _ (by simp) rfl rfl rfl (by simp)).trans (.raise _)).trans (completeSessions_touches rfl _))

/-- The lane at the end of an event that only locks it. -/
theorem Bolted.ended_lane : (boltEnded s w).lane l = { (s.lane l).locked z with
    session := ((boltEnded s w).lane l).session, mark := ((boltEnded s w).lane l).mark } := by
  have rest : (completeSessions (w.raise .alarm)).lane l = { (s.lane l).locked z with
      session := ((completeSessions (w.raise .alarm)).lane l).session } := by
    conv_lhs => rw [completeSessions_lane_rest, State.raise_lane, k.lane]
  unfold boltEnded
  conv_lhs => rw [finish_lane_rest, rest]
  conv_rhs => rw [finish_lane_rest]

theorem Bolted.ended_settles (j : LaneId) : SessionSettles s (boltEnded s w) j := by
  refine sessionSettles_finish ?_
  rw [State.raise_lane]
  by_cases here : j = l
  · rw [here, k.lane]
    rfl
  · rw [k.lanes j here]

/-! ### The lane whose OPEN session is closed -/

theorem Bolted.closed_order (order : s.order i = some o) :
    (completeSessions ((closeSession l .laneLock w).raise .alarm)).order i = some (s.closeFate l .laneLock i o) := by
  rw [completeSessions_order, State.raise_order, closeSession_order, k.order, order, k.closeFate]
  rfl

theorem Bolted.locked_leaves : EventLeaves
    { cassettes := positions _, orders := positions _, placement := true, zones := [z], trips := true, alarm := true,
      lanes := [l], closes := true, path := true, work := [l], levels := true } s (lockEnded l s w) :=
  eventLeaves_finish ((((k.leaves _ (by simp) rfl rfl rfl (by simp)).trans
    (closeSession_touches mem_positions mem_positions rfl rfl (by simp) (by simp) _ _)).trans (.raise _)).trans
    (completeSessions_touches rfl _))

theorem Bolted.locked_order_moved (order : s.order i = some o) (fate : s.closeFate l .laneLock i o = q)
    (mark : q.mark = o.mark) (moved : q.state ≠ o.state) : (lockEnded l s w).order i = some { q with mark := true } :=
  finish_order_moved (q := q) order (fate ▸ k.closed_order order) mark moved

theorem Bolted.locked_order_still (order : s.order i = some o) (fate : s.closeFate l .laneLock i o = o) :
    (lockEnded l s w).order i = some o := by
  rw [lockEnded, finish_order_of_eq (by rw [k.closed_order order, fate, order]), order]

theorem Bolted.locked_lane (opened : (s.lane l).session = .opened) : (lockEnded l s w).lane l = { (s.lane l).locked z with
    session := ((lockEnded l s w).lane l).session, drawer := (s.lane l).drawer.recalled, mark := true } := by
  have rest : (completeSessions ((closeSession l .laneLock w).raise .alarm)).lane l = { (s.lane l).locked z with
      session := ((completeSessions ((closeSession l .laneLock w).raise .alarm)).lane l).session
      drawer := (s.lane l).drawer.recalled } := by
    conv_lhs => rw [completeSessions_lane_rest, State.raise_lane, closeSession_lane, k.lane]
    rfl
  have ended : ((completeSessions ((closeSession l .laneLock w).raise .alarm)).lane l).session ≠ .opened := by
    rw [completeSessions_lane_eq, State.raise_lane, closeSession_lane, Lane.completed]
    dsimp only
    split <;> simp
  have moved : (completeSessions ((closeSession l .laneLock w).raise .alarm)).lane l ≠ s.lane l := fun same =>
    ended (by rw [same, opened])
  have mark : ((completeSessions ((closeSession l .laneLock w).raise .alarm)).lane l).mark = (s.lane l).mark := by
    rw [rest]
    rfl
  rw [lockEnded, finish_lane_marked moved mark]
  conv_lhs => rw [rest]

theorem Bolted.locked_laneWork : (lockEnded l s w).laneWork l =
    { (s.laneWork l).recalled (s.lane l).drawer .laneLock with
      dump := if s.dumpsHead l then some 3000 else (s.laneWork l).dump } := by
  rw [lockEnded, finish_laneWork, completeSessions_laneWork, State.raise_laneWork, closeSession_laneWork, k.laneWork, k.lane,
    k.dumpsHead]
  rfl

theorem Bolted.locked_closes : SessionCloses (lockEnded l s w) l .laneLock :=
  sessionCloses_finish (by rw [State.raise_lane, closeSession_lane])

theorem Bolted.locked_settles {j : LaneId} (apart : j ≠ l) : SessionSettles s (lockEnded l s w) j :=
  sessionSettles_finish (by rw [State.raise_lane, closeSession_lane_other apart, k.lanes j apart])

theorem Bolted.locked_path :
    (lockEnded l s w).path = { s.path with queue := s.path.queue.filter fun q => !s.claimWaits l q } := by
  rw [lockEnded, finish_path, completeSessions_path, State.raise_path, closeSession_path, k.path, k.claimWaits]
  rfl

theorem Bolted.locked_placement :
    (lockEnded l s w).custody.placement = s.custody.placement.filter fun i => !s.waits l i := by
  rw [lockEnded, finish_placement, completeSessions_placement, State.raise_custody, closeSession_placement, k.placement]
  simp only [k.waits]

theorem Bolted.locked_cassette (d : CassetteId) : (lockEnded l s w).cassette d = { s.cassette d with
    reserved := (s.cassette d).reserved - (((positions _).filter (s.waits l)).map (s.heldNeed d)).sum
    mark := (s.cassette d).mark || decide (((lockEnded l s w).cassette d).reserved ≠ (s.cassette d).reserved) } := by
  have held : (((positions _).filter (w.waits l)).map (w.heldNeed d)).sum =
      (((positions _).filter (s.waits l)).map (s.heldNeed d)).sum := by
    rw [funext (k.waits l), funext (k.heldNeed d)]
  have ends : (lockEnded l s w).cassette d = { s.cassette d with
      reserved := (s.cassette d).reserved - (((positions _).filter (s.waits l)).map (s.heldNeed d)).sum
      mark := (s.cassette d).mark || (s.cassette d).reserved - (((positions _).filter (s.waits l)).map
        (s.heldNeed d)).sum != (s.cassette d).reserved } := by
    rw [← held, lockEnded]
    refine finish_cassette_reserved ?_ (by simp)
    rw [completeSessions_cassette, State.raise_cassette, closeSession_cassette, k.cassette]
  rw [ends]
  simp [bne, beq_eq_decide]

end

/-- A latch that locks its lane leaves the lock, and marks a lane that had none. -/
theorem Struck.ended_lock (k : Struck c z s u) (response : (s.zone z).response = .laneLock)
    (lane : (s.zone z).lane = some l) :
    ((latchEnded z s u).lane l).lock = ((s.lane l).locked z).lock ∧
      ((s.lane l).lock = .none → ((latchEnded z s u).lane l).mark = true) := by
  have run : respond z s.lockdown u = lockLane l z u :=
    respond_laneLock (k.response.trans response) (k.zoneLane.trans lane)
  have bolted := k.bolted l
  rw [latchEnded, run, lockLane_eq, k.lane]
  split
  next opened =>
    have ended := bolted.locked_lane opened
    rw [lockEnded] at ended
    rw [ended]
    exact ⟨rfl, fun _ => rfl⟩
  next shut =>
    have ended := bolted.ended_lane
    rw [boltEnded] at ended
    refine ⟨by rw [ended], fun none => ?_⟩
    have moved : (completeSessions ((u.modLane l (Lane.locked z)).raise .alarm)).lane l ≠ s.lane l := fun same => by
      have lock := congrArg Lane.lock same
      rw [completeSessions_lane_rest, State.raise_lane, bolted.lane] at lock
      simp [Lane.locked, none] at lock
    have mark : ((completeSessions ((u.modLane l (Lane.locked z)).raise .alarm)).lane l).mark = (s.lane l).mark := by
      rw [completeSessions_lane_rest, State.raise_lane, bolted.lane]
      rfl
    rw [finish_lane_marked moved mark]

/-- A latch that locks a lane leaves the Alarm Unit as it was. -/
theorem Struck.ended_alarm_laneLock (k : Struck c z s u) (response : (s.zone z).response = .laneLock)
    (lane : (s.zone z).lane = some l) :
    (latchEnded z s u).alarm = { s.alarm with delays := tableSet s.alarm.delays z none } := by
  have run : respond z s.lockdown u = lockLane l z u :=
    respond_laneLock (k.response.trans response) (k.zoneLane.trans lane)
  have touches : Touches
      { cassettes := positions _, orders := positions _, placement := true, path := true, lanes := [l], work := [l] } u
      (lockLane l z u) := lockLane_touches mem_positions mem_positions rfl rfl (by simp) (by simp) z u
  rw [ended_alarm, run, touches.alarm.resolve_left (by simp), k.alarm]

end Sys2Proof.Machine
end

section
/-! The start of lockdown: the order that picks, and the leveling sessions. -/

namespace Sys2Proof.Machine
set_option Elab.async false

variable {s t : State} {f : Footprint} {c d : CassetteId} {i k : OrderSlot} {o : Order} {v : Leveling} {a : Attempt}
  {x : Option Attempt} {q : List Claim}

/-! ### The order that picks -/

/-- An attempt in flight is made the last. -/
def NotePath.lastAttempt (p : NotePath) : NotePath :=
  { p with attempt := p.attempt.map fun a => { a with last := true } }

theorem modPath_lastAttempt (attempt : s.path.attempt = some a) : s.modPath NotePath.lastAttempt =
    s.modPath fun p => { p with attempt := some { a with last := true } } := by
  simp only [State.modPath, NotePath.lastAttempt, attempt, Option.map_some]

theorem stopsPicking_iff : s.stopsPicking i = true ↔
    (s.path.state = .picking ∧ s.path.holder = some (.order i)) ∧ s.path.attempt = none := by
  simp [State.stopsPicking, picks_iff]

/-- Lockdown stops the order that picks, or stops none: then it makes the attempt in flight the last at most. -/
theorem lockdownPicking_cases (s : State) :
    (∃ i o, s.pickingOrder = some (i, o) ∧ s.path.attempt = none ∧ lockdownPicking s = abortPicking .lockdown s) ∨
    ((∀ k, s.stopsPicking k = true → s.order k = none) ∧
      (lockdownPicking s = s ∨ lockdownPicking s = s.modPath NotePath.lastAttempt)) := by
  by_cases state : s.path.state = .picking
  · cases attempt : s.path.attempt with
    | some a =>
      refine .inr ⟨fun k stops => absurd (stopsPicking_iff.mp stops).2 (by simp [attempt]), .inr ?_⟩
      rw [lockdownPicking, state, attempt, modPath_lastAttempt attempt]
    | none =>
      have run : lockdownPicking s = abortPicking .lockdown s := by rw [lockdownPicking, state, attempt]
      cases picking : s.pickingOrder with
      | some p => exact .inl ⟨p.1, p.2, rfl, rfl, run⟩
      | none =>
        refine .inr ⟨fun k stops => ?_, .inl (by rw [run, abortPicking, picking])⟩
        obtain ⟨⟨state, holder⟩, -⟩ := stopsPicking_iff.mp stops
        cases order : s.order k with
        | none => rfl
        | some o =>
          rw [pickingOrder_of state holder order] at picking
          cases picking
  · refine .inr ⟨fun k stops => absurd (stopsPicking_iff.mp stops).1.1 state, .inl (lockdownPicking_idle state)⟩

theorem stopsPicking_of (picking : s.pickingOrder = some (i, o)) (none : s.path.attempt = none) (k : OrderSlot) :
    s.stopsPicking k = decide (k = i) := by
  rw [State.stopsPicking, picks_loser picking, none]
  simp

theorem lockdownPicking_order (s : State) (k : OrderSlot) : (lockdownPicking s).order k =
    if s.stopsPicking k then (s.order k).map (Order.aborted .lockdown) else s.order k := by
  rcases lockdownPicking_cases s with ⟨i, o, picking, none, run⟩ | ⟨still, run⟩
  · rw [run, stopsPicking_of picking none]
    by_cases here : k = i
    · subst here
      rw [abortPicking_order picking, (pickingOrder_some picking).2.2]
      simp
    · rw [abortPicking_order_other picking here]
      simp [here]
  · have same : (lockdownPicking s).order k = s.order k := by rcases run with run | run <;> rw [run] <;> rfl
    rw [same]
    split
    next stops => rw [still k stops]; rfl
    · rfl

/-- What the order in a slot lets go when it is stopped. -/
theorem lockdownPicking_cassette (s : State) (c : CassetteId) : (lockdownPicking s).cassette c = { s.cassette c with
    reserved := (s.cassette c).reserved - (((positions _).filter s.stopsPicking).map (s.needOf c)).sum } := by
  rcases lockdownPicking_cases s with ⟨i, o, picking, none, run⟩ | ⟨still, run⟩
  · have stops : s.stopsPicking i = true := by rw [stopsPicking_of picking none]; simp
    have rest : (positions _).filter (fun k => !decide (k = i) && s.stopsPicking k) = [] :=
      List.filter_eq_nil_iff.mpr fun k _ => by rw [stopsPicking_of picking none]; simp
    have need : s.needOf c i = o.need c := by
      rw [State.needOf, (pickingOrder_some picking).2.2]
      rfl
    rw [run, abortPicking_cassette picking, sum_filter_apart (s.needOf c) stops, rest, need]
    rfl
  · have same : (lockdownPicking s).cassette c = s.cassette c := by rcases run with run | run <;> rw [run] <;> rfl
    have nothing : (((positions _).filter s.stopsPicking).map (s.needOf c)).sum = 0 := by
      refine List.sum_eq_zero fun n member => ?_
      obtain ⟨k, inside, rfl⟩ := List.mem_map.mp member
      rw [State.needOf, still k (List.mem_filter.mp inside).2]
      rfl
    rw [same, nothing, Nat.sub_zero]

/-- The order in a slot ends at once: it is stopped, and has no notes to purge. -/
def State.stopEnds (s : State) (i : OrderSlot) : Bool := s.stopsPicking i && (s.order i).any fun o => o.acceptedTotal == 0

theorem stopEnds_of (picking : s.pickingOrder = some (i, o)) (none : s.path.attempt = none) (k : OrderSlot) :
    s.stopEnds k = (decide (k = i) && decide (o.acceptedTotal = 0)) := by
  rw [State.stopEnds, stopsPicking_of picking none]
  by_cases here : k = i
  · subst here
    simp [(pickingOrder_some picking).2.2, beq_eq_decide]
  · simp [here]

theorem stopEnds_still (still : ∀ k, s.stopsPicking k = true → s.order k = none) (k : OrderSlot) :
    s.stopEnds k = false := by
  rw [State.stopEnds]
  cases stops : s.stopsPicking k with
  | false => rfl
  | true => rw [still k stops]; rfl

theorem lockdownPicking_placement (s : State) :
    (lockdownPicking s).custody.placement = s.custody.placement.filter fun k => !s.stopEnds k := by
  rcases lockdownPicking_cases s with ⟨i, o, picking, none, run⟩ | ⟨still, run⟩
  · rw [run, abortPicking_placement picking]
    split
    next empty => exact List.filter_congr fun k _ => by rw [stopEnds_of picking none]; simp [empty, bne, beq_eq_decide]
    next notes =>
      symm
      rw [List.filter_eq_self]
      intro k _
      rw [stopEnds_of picking none]
      simp [notes]
  · have same : (lockdownPicking s).custody.placement = s.custody.placement := by
      rcases run with run | run <;> rw [run] <;> rfl
    symm
    rw [same, List.filter_eq_self]
    intro k _
    rw [stopEnds_still still]
    rfl

/-- The claims of orders that end at once. -/
def State.stopClaim (s : State) : Claim → Bool
  | .order i => s.stopEnds i
  | .leveling _ => false

theorem lockdownPicking_queue (s : State) :
    (lockdownPicking s).path.queue = s.path.queue.filter fun q => !s.stopClaim q := by
  rcases lockdownPicking_cases s with ⟨i, o, picking, none, run⟩ | ⟨still, run⟩
  · rw [run, abortPicking_path picking]
    split
    next empty =>
      refine List.filter_congr fun q _ => ?_
      cases q with
      | leveling d => simp [State.stopClaim]
      | order k => simp [State.stopClaim, stopEnds_of picking none, empty, bne, beq_eq_decide]
    next notes =>
      symm
      refine List.filter_eq_self.mpr fun q _ => ?_
      cases q with
      | leveling d => rfl
      | order k => simp [State.stopClaim, stopEnds_of picking none, notes]
  · have same : (lockdownPicking s).path.queue = s.path.queue := by rcases run with run | run <;> rw [run] <;> rfl
    symm
    rw [same, List.filter_eq_self]
    intro q _
    cases q with
    | leveling d => rfl
    | order k => simp [State.stopClaim, stopEnds_still still]

theorem lockdownPicking_travel (s : State) : (lockdownPicking s).path.shutterTravel = s.path.shutterTravel := by
  rcases lockdownPicking_cases s with ⟨i, o, picking, none, run⟩ | ⟨still, run⟩
  · rw [run, abortPicking_path picking]
    split <;> rfl
  · rcases run with run | run <;> rw [run] <;> rfl

theorem lockdownPicking_alone (s : State) : Touches
    { cassettes := positions _, orders := positions _, placement := true, path := true } s (lockdownPicking s) :=
  lockdownPicking_touches mem_positions mem_positions rfl rfl s

/-- No leveling session comes to hold the transport or a note when the order that picks is stopped. -/
theorem lockdownPicking_holder (s : State) :
    ((lockdownPicking s).path.holder = s.path.holder ∧ (lockdownPicking s).path.heldReading = s.path.heldReading) ∨
      (∀ c, (lockdownPicking s).path.holder ≠ some (.leveling c)) := by
  rcases lockdownPicking_cases s with ⟨i, o, picking, none, run⟩ | ⟨still, run⟩
  · refine .inr fun c => ?_
    rw [run, abortPicking_path picking]
    split
    · simp [NotePath.freed]
    · simp [NotePath.purged, (pickingOrder_some picking).2.1]
  · refine .inl ?_
    rcases run with run | run <;> rw [run] <;> exact ⟨rfl, rfl⟩

/-! ### The leveling sessions -/

/-- The leveling session runs on with its attempt as the last (R40). -/
def State.runsOn (s : State) (c : CassetteId) : Bool :=
  (s.cassette c).leveling.any fun v => v.phase == .fetching && s.path.attempt.isSome

theorem lockdownLeveling_eq (c : CassetteId) (s : State) : lockdownLeveling c s =
    if (s.cassette c).leveling = none then s
    else if s.runsOn c then s.modPath NotePath.lastAttempt else endLeveling c s := by
  unfold lockdownLeveling State.runsOn
  cases leveling : (s.cassette c).leveling with
  | none => rfl
  | some v =>
    rw [if_neg (Option.some_ne_none v), Option.any_some]
    cases attempt : s.path.attempt with
    | none => cases phase : v.phase <;> simp [phase]
    | some a =>
      rw [modPath_lastAttempt attempt]
      cases phase : v.phase <;> simp [phase]

/-- Every leveling session is dealt with. -/
def levelingsEnded (s : State) : State := forEach lockdownLeveling s

theorem levelingsEnded_touches (cs : ∀ c, c ∈ f.cassettes) (b : f.bins = true) (p : f.path = true) (s : State) :
    Touches f s (levelingsEnded s) :=
  .forEach (fun c t => lockdownLeveling_touches (cs c) b p t) s

theorem levelingsEnded_alone (s : State) :
    Touches { cassettes := positions _, bins := true, path := true } s (levelingsEnded s) :=
  levelingsEnded_touches mem_positions rfl rfl s

/-- A cassette record as lockdown may leave it in the place of another. -/
theorem lockdownLeveling_cassette (c d : CassetteId) (s : State) : (lockdownLeveling c s).cassette d = s.cassette d ∨
    c = d ∧ (s.cassette d).leveling.isSome = true ∧
      (lockdownLeveling c s).cassette d = ((s.cassette d).spent (s.holdsNote d)).returned := by
  rw [lockdownLeveling_eq]
  split
  · exact .inl rfl
  next session =>
    split
    · exact .inl rfl
    · rw [endLeveling_cassette]
      by_cases here : c = d
      · subst here
        exact .inr ⟨rfl, Option.isSome_iff_ne_none.mpr session, by rw [if_pos rfl]⟩
      · exact .inl (if_neg here)

theorem Cassette.ended_keeps (r : Cassette) (note : Bool) : (r.spent note).returned.shutter = r.shutter ∧
    (r.spent note).returned.reserved = r.reserved ∧ (r.spent note).returned.mark = r.mark ∧
    (r.spent note).returned.leveling = none := by
  cases note <;> exact ⟨rfl, rfl, rfl, rfl⟩

/-- What every cassette keeps through the end of its session. -/
theorem levelingsEnded_keeps (s : State) (d : CassetteId) :
    ((levelingsEnded s).cassette d).shutter = (s.cassette d).shutter ∧
    ((levelingsEnded s).cassette d).reserved = (s.cassette d).reserved ∧
    ((levelingsEnded s).cassette d).mark = (s.cassette d).mark ∧
    (((levelingsEnded s).cassette d).leveling = none ∨ (levelingsEnded s).cassette d = s.cassette d) := by
  refine forEach_keeps (fun t => (t.cassette d).shutter = (s.cassette d).shutter ∧
    (t.cassette d).reserved = (s.cassette d).reserved ∧ (t.cassette d).mark = (s.cassette d).mark ∧
    ((t.cassette d).leveling = none ∨ t.cassette d = s.cassette d)) lockdownLeveling ?_ s ⟨rfl, rfl, rfl, .inr rfl⟩
  rintro c t ⟨shutter, reserved, mark, session⟩
  rcases lockdownLeveling_cassette c d t with same | ⟨-, -, ended⟩
  · rw [same]
    exact ⟨shutter, reserved, mark, session⟩
  · obtain ⟨shutter', reserved', mark', none⟩ := Cassette.ended_keeps (t.cassette d) (t.holdsNote d)
    rw [ended]
    exact ⟨shutter'.trans shutter, reserved'.trans reserved, mark'.trans mark, .inl none⟩

theorem levelingsEnded_none (none : (s.cassette d).leveling = none) : (levelingsEnded s).cassette d = s.cassette d := by
  refine forEach_keeps (fun t => t.cassette d = s.cassette d) lockdownLeveling ?_ s rfl
  intro c t same
  rcases lockdownLeveling_cassette c d t with still | ⟨-, session, -⟩
  · exact still.trans same
  · rw [same, none] at session
    cases session

/-- The claims of the sessions that have ended between two states. -/
def claimGone (s t : State) : Claim → Bool
  | .order _ => false
  | .leveling c => (s.cassette c).leveling.isSome && (t.cassette c).leveling.isNone

/-- The queue loses the claims of the sessions that end. -/
theorem endLeveling_queue (c : CassetteId) (s : State) :
    (endLeveling c s).path.queue = s.path.queue.filter (· != .leveling c) := by
  by_cases holder : s.path.holder = some (.leveling c)
  · cases reading : s.path.heldReading with
    | none => rw [endLeveling_path_empty holder reading]
    | some g => rw [endLeveling_path_spent holder (by simp [reading])]
  · rw [endLeveling_path_waiting holder]

theorem levelingsEnded_queue (s : State) :
    (levelingsEnded s).path.queue = s.path.queue.filter fun q => !claimGone s (levelingsEnded s) q := by
  have start : s.path.queue = s.path.queue.filter fun q => !claimGone s s q := by
    refine (List.filter_eq_self.mpr fun q _ => ?_).symm
    cases q with
    | order i => rfl
    | leveling d => cases session : (s.cassette d).leveling <;> simp [claimGone, session]
  refine (forEach_keeps (fun t => (t.path.queue = s.path.queue.filter fun q => !claimGone s t q) ∧
    ∀ d, (t.cassette d).leveling = none ∨ t.cassette d = s.cassette d) lockdownLeveling ?_ s
    ⟨start, fun _ => .inr rfl⟩).1
  rintro c t ⟨queue, sessions⟩
  have sessions' (d : CassetteId) : ((lockdownLeveling c t).cassette d).leveling = none ∨
      (lockdownLeveling c t).cassette d = s.cassette d := by
    rcases lockdownLeveling_cassette c d t with same | ⟨-, -, ended⟩
    · rw [same]
      exact sessions d
    · rw [ended]
      exact .inl (Cassette.ended_keeps _ _).2.2.2
  refine ⟨?_, sessions'⟩
  rw [lockdownLeveling_eq]
  split
  · exact queue
  next session =>
    split
    · exact queue
    · rw [endLeveling_queue, queue, List.filter_filter]
      refine List.filter_congr fun q _ => ?_
      cases q with
      | order i => rfl
      | leveling d =>
        simp only [claimGone, endLeveling_cassette]
        by_cases here : c = d
        · subst here
          have found : (s.cassette c).leveling.isSome = true := by
            rw [← (sessions c).resolve_left session]
            exact Option.isSome_iff_ne_none.mpr session
          have none := (Cassette.ended_keeps (t.cassette c) (t.holdsNote c)).2.2.2
          simp [found, none]
        · simp [here, Ne.symm here, bne]

theorem levelingsEnded_travel (s : State) : (levelingsEnded s).path.shutterTravel = s.path.shutterTravel := by
  refine forEach_keeps (fun t => t.path.shutterTravel = s.path.shutterTravel) lockdownLeveling ?_ s rfl
  intro c t same
  rw [lockdownLeveling_eq]
  split
  · exact same
  · split
    · exact same
    · by_cases holder : t.path.holder = some (.leveling c)
      · cases reading : t.path.heldReading with
        | none => rw [endLeveling_path_empty holder reading]; exact same
        | some g => rw [endLeveling_path_spent holder (by simp [reading])]; exact same
      · rw [endLeveling_path_waiting holder]; exact same

/-! #### No session holds the transport -/

/-- Without a session that holds the transport, the attempt and the queue alone may change. -/
theorem levelingsEnded_path_idle (idle : ∀ c, s.path.holder ≠ some (.leveling c))
    (steady : s.path.lastAttempt = s.path ∨ ∀ c, (s.cassette c).leveling.any (fun v => v.phase == .fetching) = false) :
    (levelingsEnded s).path = { s.path with queue := (levelingsEnded s).path.queue } := by
  refine (forEach_keeps (fun t => t.path = { s.path with queue := t.path.queue } ∧
    ∀ d, (t.cassette d).leveling = none ∨ t.cassette d = s.cassette d) lockdownLeveling ?_ s
    ⟨rfl, fun _ => .inr rfl⟩).1
  rintro c t ⟨path, sessions⟩
  refine ⟨?_, fun d => ?_⟩
  · rw [lockdownLeveling_eq]
    split
    · exact path
    next session =>
      split
      next runs =>
        rw [State.modPath_path]
        rcases steady with steady | steady
        · have attempt := congrArg NotePath.attempt steady
          dsimp only [NotePath.lastAttempt] at attempt
          rw [path, NotePath.lastAttempt]
          dsimp only
          rw [attempt]
        · have still := steady c
          rw [← (sessions c).resolve_left session] at still
          rw [State.runsOn, Option.any_eq_true] at runs
          obtain ⟨v, leveling, fetching⟩ := runs
          simp only [Bool.and_eq_true] at fetching
          simp [leveling, fetching.1] at still
      · have holder : t.path.holder ≠ some (.leveling c) := by
          rw [path]
          exact idle c
        rw [endLeveling_path_waiting holder, path]
  · rcases lockdownLeveling_cassette c d t with same | ⟨-, -, ended⟩
    · rw [same]
      exact sessions d
    · rw [ended]
      exact .inl (Cassette.ended_keeps _ _).2.2.2

end Sys2Proof.Machine
end

section
/-! The start of lockdown: the leveling session that holds the transport, or waits for it. -/

namespace Sys2Proof.Machine
set_option Elab.async false

variable {s t : State} {c d j : CassetteId} {v : Leveling} {p p' p'' : NotePath} {q : List Claim}

/-! ### The gauge and the bins -/

/-- The transport that the session of a cassette held, at its end. -/
theorem endLeveling_path_holder (holder : s.path.holder = some (.leveling c)) : (endLeveling c s).path =
    { s.path.freed s with
      queue := s.path.queue.filter (· != .leveling c)
      rejectPause := if s.path.heldReading.isSome then (endLeveling c s).pauseDue else s.path.rejectPause } := by
  cases reading : s.path.heldReading with
  | none => rw [endLeveling_path_empty holder reading]; rfl
  | some g =>
    rw [endLeveling_path_spent holder (by simp [reading])]
    rfl

/-- The holder of the transport when a session has ended: none, if it was that session. -/
theorem endLeveling_holder (c : CassetteId) (s : State) :
    (endLeveling c s).path.holder = none ∨ (endLeveling c s).path.holder = s.path.holder := by
  by_cases holder : s.path.holder = some (.leveling c)
  · rw [endLeveling_path_holder holder]
    exact .inl rfl
  · rw [endLeveling_path_waiting holder]
    exact .inr rfl

theorem endLeveling_holdsNote (free : s.holdsNote d = false) (c : CassetteId) : (endLeveling c s).holdsNote d = false := by
  by_cases holder : s.path.holder = some (.leveling c)
  · rw [State.holdsNote, endLeveling_path_holder holder]
    simp [NotePath.freed]
  · rw [State.holdsNote, endLeveling_path_waiting holder]
    exact free

theorem endLeveling_settings (c : CassetteId) (s : State) : (endLeveling c s).custody.settings = s.custody.settings :=
  (endLeveling_touches (f := { cassettes := [c], bins := true, path := true }) (by simp) rfl rfl s).settings.resolve_left
    (by simp)

/-- Without a note at the gauge the bins stand. -/
theorem levelingsEnded_bins (free : ∀ c, s.gaugeHolds c = false) : (levelingsEnded s).custody.bins = s.custody.bins := by
  refine (forEach_keeps (fun t => t.custody.bins = s.custody.bins ∧
    ∀ d, (t.cassette d).leveling = none ∨ t.holdsNote d = false) lockdownLeveling ?_ s ⟨rfl, fun d => ?_⟩).1
  · rintro c t ⟨bins, free⟩
    rw [lockdownLeveling_eq]
    split
    · exact ⟨bins, free⟩
    next session =>
      split
      · exact ⟨bins, free⟩
      · have clear : t.holdsNote c = false := (free c).resolve_left session
        refine ⟨by rw [endLeveling_bins, clear]; exact bins, fun d => ?_⟩
        rcases free d with none | held
        · by_cases here : c = d
          · subst here
            exact absurd none session
          · exact .inl (by rw [endLeveling_cassette, if_neg here, none])
        · exact .inr (endLeveling_holdsNote held c)
  · cases session : (s.cassette d).leveling with
    | none => exact .inl rfl
    | some v => exact .inr (by simpa [gaugeHolds_eq, session] using free d)

/-! ### The transport as the sessions before the holder's leave it -/

/-- The transport but for its queue, and for an attempt in flight that is made the last. -/
def NotePath.Near (p p' : NotePath) : Prop := ∃ q, p' = { p with queue := q } ∨ p' = { p.lastAttempt with queue := q }

theorem NotePath.lastAttempt_twice (p : NotePath) : p.lastAttempt.lastAttempt = p.lastAttempt := by
  unfold NotePath.lastAttempt
  cases p.attempt <;> rfl

theorem NotePath.Near.trans (h : p.Near p') (k : p'.Near p'') : p.Near p'' := by
  obtain ⟨q, rfl | rfl⟩ := h <;> obtain ⟨r, rfl | rfl⟩ := k
  · exact ⟨r, .inl rfl⟩
  · exact ⟨r, .inr rfl⟩
  · exact ⟨r, .inr rfl⟩
  · exact ⟨r, .inr (congrArg (fun p : NotePath => { p with queue := r }) p.lastAttempt_twice)⟩

theorem NotePath.Near.holder (h : p.Near p') : p'.holder = p.holder := by
  obtain ⟨q, rfl | rfl⟩ := h <;> rfl

theorem NotePath.Near.heldReading (h : p.Near p') : p'.heldReading = p.heldReading := by
  obtain ⟨q, rfl | rfl⟩ := h <;> rfl

/-- A session that does not hold the transport does no more to it. -/
theorem lockdownLeveling_near (holder : s.path.holder ≠ some (.leveling c)) :
    s.path.Near (lockdownLeveling c s).path := by
  rw [lockdownLeveling_eq]
  split
  · exact ⟨s.path.queue, .inl rfl⟩
  · split
    · exact ⟨s.path.queue, .inr rfl⟩
    · rw [endLeveling_path_waiting holder]
      exact ⟨_, .inl rfl⟩

theorem lockdownLeveling_bins (free : s.holdsNote c = false) : (lockdownLeveling c s).custody.bins = s.custody.bins := by
  rw [lockdownLeveling_eq]
  split
  · rfl
  · split
    · rfl
    · rw [endLeveling_bins, free]
      rfl

theorem lockdownLeveling_settings (c : CassetteId) (s : State) :
    (lockdownLeveling c s).custody.settings = s.custody.settings :=
  (lockdownLeveling_touches (f := { cassettes := [c], bins := true, path := true }) (by simp) rfl rfl s).settings.resolve_left
    (by simp)

theorem lockdownLeveling_cassette_other (apart : j ≠ c) (s : State) : (lockdownLeveling j s).cassette c = s.cassette c :=
  (lockdownLeveling_cassette j c s).resolve_right fun h => apart h.1

/-! ### The session that holds the transport -/

/-- A session that fetches its note runs on with its attempt as the last (R40). -/
theorem levelingsEnded_runs {a : Attempt} (leveling : (s.cassette c).leveling = some v) (fetching : v.phase = .fetching)
    (holder : s.path.holder = some (.leveling c)) (attempt : s.path.attempt = some a) :
    (levelingsEnded s).cassette c = s.cassette c ∧
      ∃ q, (levelingsEnded s).path = { s.path.lastAttempt with queue := q } := by
  rw [levelingsEnded]
  refine forEach_turn (P := fun t => t.cassette c = s.cassette c ∧ s.path.Near t.path)
    (Q := fun t => t.cassette c = s.cassette c ∧ ∃ q, t.path = { s.path.lastAttempt with queue := q })
    (f := lockdownLeveling) c ?_ ?_ ?_ ⟨rfl, s.path.queue, .inl rfl⟩
  · rintro j t apart ⟨same, near⟩
    have other : t.path.holder ≠ some (.leveling j) := by
      rw [near.holder, holder]
      simp [Ne.symm apart]
    exact ⟨(lockdownLeveling_cassette_other apart t).trans same, near.trans (lockdownLeveling_near other)⟩
  · rintro t ⟨same, near⟩
    have flies : t.path.attempt.isSome = true := by
      obtain ⟨q, path | path⟩ := near <;> simp [path, NotePath.lastAttempt, attempt]
    have runs : t.runsOn c = true := by simp [State.runsOn, same, leveling, fetching, flies]
    rw [lockdownLeveling_eq, same, leveling, if_neg (Option.some_ne_none v), runs, if_pos rfl]
    refine ⟨same, ?_⟩
    rw [State.modPath_path]
    obtain ⟨q, path | path⟩ := near
    · exact ⟨q, by rw [path]; rfl⟩
    · refine ⟨q, ?_⟩
      rw [path]
      exact congrArg (fun p : NotePath => { p with queue := q }) s.path.lastAttempt_twice
  · rintro j t apart ⟨same, q, path⟩
    have other : t.path.holder ≠ some (.leveling j) := by
      rw [path]
      dsimp only [NotePath.lastAttempt]
      rw [holder]
      simp [Ne.symm apart]
    refine ⟨(lockdownLeveling_cassette_other apart t).trans same, ?_⟩
    obtain ⟨r, near | near⟩ := lockdownLeveling_near other
    · exact ⟨r, by rw [near, path]⟩
    · refine ⟨r, ?_⟩
      rw [near, path]
      exact congrArg (fun p : NotePath => { p with queue := r }) s.path.lastAttempt_twice

/-- Any other session that holds the transport ends, as it would alone (R40). -/
theorem levelingsEnded_ends (leveling : (s.cassette c).leveling = some v) (holder : s.path.holder = some (.leveling c))
    (ends : v.phase = .fetching → s.path.attempt = none) :
    (levelingsEnded s).cassette c = ((s.cassette c).spent (s.holdsNote c)).returned ∧
    (levelingsEnded s).custody.bins = (endLeveling c s).custody.bins ∧
    ∃ q, (levelingsEnded s).path = { (endLeveling c s).path with queue := q } := by
  rw [levelingsEnded]
  refine forEach_turn (P := fun t => t.cassette c = s.cassette c ∧ s.path.Near t.path ∧
      t.custody.bins = s.custody.bins ∧ t.custody.settings = s.custody.settings)
    (Q := fun t => t.cassette c = ((s.cassette c).spent (s.holdsNote c)).returned ∧
      t.custody.bins = (endLeveling c s).custody.bins ∧ ∃ q, t.path = { (endLeveling c s).path with queue := q })
    (f := lockdownLeveling) c ?_ ?_ ?_ ⟨rfl, ⟨s.path.queue, .inl rfl⟩, rfl, rfl⟩
  · rintro j t apart ⟨same, near, bins, settings⟩
    have other : t.path.holder ≠ some (.leveling j) := by
      rw [near.holder, holder]
      simp [Ne.symm apart]
    exact ⟨(lockdownLeveling_cassette_other apart t).trans same, near.trans (lockdownLeveling_near other),
      (lockdownLeveling_bins (by simp [State.holdsNote, other])).trans bins, (lockdownLeveling_settings j t).trans settings⟩
  · rintro t ⟨same, near, bins, settings⟩
    have note : t.holdsNote c = s.holdsNote c := by rw [State.holdsNote, State.holdsNote, near.holder, near.heldReading]
    have stops : t.runsOn c = false := by
      rw [State.runsOn, same, leveling, Option.any_some]
      cases phase : v.phase with
      | fetching =>
        obtain ⟨q, path | path⟩ := near <;> simp [path, NotePath.lastAttempt, ends phase]
      | waiting => rfl
      | holding => rfl
    have run : lockdownLeveling c t = endLeveling c t := by
      rw [lockdownLeveling_eq, same, leveling, if_neg (Option.some_ne_none v), stops]
      rfl
    have bins' : (endLeveling c t).custody.bins = (endLeveling c s).custody.bins := by
      rw [endLeveling_bins, endLeveling_bins, note, bins]
    have pause : (endLeveling c t).pauseDue = (endLeveling c s).pauseDue := by
      refine pauseDue_congr bins' ?_
      rw [endLeveling_settings, endLeveling_settings, settings]
    rw [run]
    refine ⟨by rw [endLeveling_cassette, if_pos rfl, note, same], bins', t.path.queue.filter (· != .leveling c), ?_⟩
    rw [endLeveling_path_holder (near.holder.trans holder), endLeveling_path_holder holder, pause, near.heldReading]
    obtain ⟨q, path | path⟩ := near <;> simp only [path, NotePath.freed, NotePath.lastAttempt, settings]
  · rintro j t apart ⟨same, bins, q, path⟩
    have free : t.path.holder = none := by
      rw [path, endLeveling_path_holder holder]
      rfl
    have other : t.path.holder ≠ some (.leveling j) := by simp [free]
    refine ⟨(lockdownLeveling_cassette_other apart t).trans same,
      (lockdownLeveling_bins (by simp [State.holdsNote, free])).trans bins, ?_⟩
    have idle : (endLeveling c s).path.lastAttempt = (endLeveling c s).path := by
      rw [endLeveling_path_holder holder]
      rfl
    obtain ⟨r, near | near⟩ := lockdownLeveling_near other
    · exact ⟨r, by rw [near, path]⟩
    · refine ⟨r, ?_⟩
      rw [near, path]
      exact congrArg (fun p : NotePath => { p with queue := r }) idle

/-! ### A session that waits -/

/-- A session that waits for the transport ends (R40). -/
theorem levelingsEnded_waiting (leveling : (s.cassette c).leveling = some v) (waits : v.phase ≠ .fetching)
    (holder : s.path.holder ≠ some (.leveling c)) : (levelingsEnded s).cassette c = (s.cassette c).returned := by
  rw [levelingsEnded]
  refine forEach_turn (P := fun t => t.cassette c = s.cassette c ∧ t.path.holder ≠ some (.leveling c))
    (Q := fun t => t.cassette c = (s.cassette c).returned) (f := lockdownLeveling) c ?_ ?_ ?_ ⟨rfl, holder⟩
  · rintro j t apart ⟨same, other⟩
    refine ⟨(lockdownLeveling_cassette_other apart t).trans same, ?_⟩
    rw [lockdownLeveling_eq]
    split
    · exact other
    · split
      · exact other
      · rcases endLeveling_holder j t with free | kept
        · simp [free]
        · rw [kept]
          exact other
  · rintro t ⟨same, other⟩
    have stops : t.runsOn c = false := by simp [State.runsOn, same, leveling, waits]
    have note : t.holdsNote c = false := by simp [State.holdsNote, other]
    rw [lockdownLeveling_eq, same, leveling, if_neg (Option.some_ne_none v), stops]
    simp only [Bool.false_eq_true, if_false]
    rw [endLeveling_cassette, if_pos rfl, note, same]
    rfl
  · intro j t apart same
    exact (lockdownLeveling_cassette_other apart t).trans same

end Sys2Proof.Machine
end

section
/-! The start of lockdown: the lanes, and the whole of it. -/

namespace Sys2Proof.Machine
set_option Elab.async false

variable {s t : State} {f : Footprint} {c d : CassetteId} {i k : OrderSlot} {o : Order} {l j : LaneId} {v : Leveling}
  {a : Attempt}

/-! ### One lane -/

/-- What lockdown makes of an order in the place where it stands in a lane (R117). -/
def State.lockFate (s : State) (l : LaneId) (k : OrderSlot) (o : Order) : Order :=
  if (s.lane l).head = some k ∧ o.state = .staged then o.dumped .lockdown
  else if (s.lane l).drawer = .opened ∧ (s.lane l).load = some k then o.toRecalling (some .lockdown)
  else o

theorem lockdownLane_order (l : LaneId) (s : State) (k : OrderSlot) :
    (lockdownLane l s).order k = (s.order k).map (s.lockFate l k) := by
  rw [lockdownLane, recallCause_order, dumpStaged_lane, dumpStaged_order]
  cases order : s.order k with
  | none => simp
  | some o =>
    unfold State.lockFate
    by_cases dumps : (s.lane l).head = some k ∧ o.state = .staged
    · simp [dumps, Order.dumped, Order.toRecalling]
    · have stands : ¬((s.lane l).head = some k ∧ (some o).any (fun o => o.state == .staged) = true) := by
        simpa using dumps
      rw [if_neg stands]
      by_cases recalls : (s.lane l).drawer = .opened ∧ (s.lane l).load = some k <;>
        simp [dumps, recalls, RecallCause.reason]

theorem lockdownLane_alone (l : LaneId) (s : State) :
    Touches { lanes := [l], work := [l], orders := positions _ } s (lockdownLane l s) :=
  lockdownLane_touches (by simp) (by simp) mem_positions s

theorem lockdownLane_lane_self (l : LaneId) (s : State) :
    (lockdownLane l s).lane l = { s.lane l with drawer := (s.lane l).drawer.recalled } := by
  rw [lockdownLane, recallCause_lane_eq, dumpStaged_lane]

theorem lockdownLane_lane_other (apart : j ≠ l) (s : State) : (lockdownLane j s).lane l = s.lane l := by
  rcases (lockdownLane_alone j s).lanes l with named | same | ⟨closes, -⟩
  · exact absurd (List.mem_singleton.mp named) (Ne.symm apart)
  · exact same
  · simp at closes

theorem lockdownLane_laneWork_self (l : LaneId) (s : State) : (lockdownLane l s).laneWork l =
    { (s.laneWork l).recalled (s.lane l).drawer .lockdown with
      dump := if s.dumpsHead l then some routeLimit else (s.laneWork l).dump } := by
  rw [lockdownLane, recallCause_laneWork_eq, dumpStaged_lane, dumpStaged_laneWork, LaneWork.recalled_dump]

theorem lockdownLane_laneWork_other (apart : j ≠ l) (s : State) : (lockdownLane j s).laneWork l = s.laneWork l :=
  ((lockdownLane_alone j s).work l).resolve_left (by simp [Ne.symm apart])

/-- Nothing comes to stand staged. -/
theorem lockdownLane_staged (staged : ((lockdownLane l s).order k).any (fun o => o.state == .staged) = true) :
    (s.order k).any (fun o => o.state == .staged) = true := by
  rw [lockdownLane_order] at staged
  cases order : s.order k with
  | none => simp [order] at staged
  | some o =>
    simp only [order, Option.map_some, Option.any_some, State.lockFate, Order.dumped, Order.toRecalling] at staged ⊢
    split at staged
    · simp at staged
    · split at staged
      · split at staged
        · simp at staged
        · exact staged
      · exact staged

/-! ### Every lane -/

/-- Every lane is reached by lockdown. -/
def lanesLocked (s : State) : State := forEach lockdownLane s

theorem lanesLocked_touches (ls : ∀ l, l ∈ f.lanes) (w : ∀ l, l ∈ f.work) (os : ∀ i, i ∈ f.orders) (s : State) :
    Touches f s (lanesLocked s) :=
  .forEach (fun l t => lockdownLane_touches (ls l) (w l) os t) s

theorem lanesLocked_alone (s : State) :
    Touches { lanes := positions _, work := positions _, orders := positions _ } s (lanesLocked s) :=
  lanesLocked_touches mem_positions mem_positions mem_positions s

theorem lanesLocked_lane (s : State) (l : LaneId) :
    (lanesLocked s).lane l = { s.lane l with drawer := (s.lane l).drawer.recalled } :=
  forEach_at (fun s : State => s.lane l) lockdownLane l (fun r => { r with drawer := r.drawer.recalled })
    (fun _ t apart => lockdownLane_lane_other apart t) (fun t => lockdownLane_lane_self l t) s

/-- The work of a lane once lockdown has reached it: the recall, and a dump if the head was staged. -/
theorem lanesLocked_laneWork (s : State) (l : LaneId) : ∃ x, (lanesLocked s).laneWork l =
    { (s.laneWork l).recalled (s.lane l).drawer .lockdown with dump := x } ∧
    (s.dumpsHead l = false → x = (s.laneWork l).dump) := by
  rw [lanesLocked]
  refine forEach_turn (P := fun t => t.lane l = s.lane l ∧ t.laneWork l = s.laneWork l ∧
      ∀ k, (t.order k).any (fun o => o.state == .staged) = true → (s.order k).any (fun o => o.state == .staged) = true)
    (Q := fun t => ∃ x, t.laneWork l = { (s.laneWork l).recalled (s.lane l).drawer .lockdown with dump := x } ∧
      (s.dumpsHead l = false → x = (s.laneWork l).dump)) (f := lockdownLane) l ?_ ?_ ?_ ⟨rfl, rfl, fun _ h => h⟩
  · rintro j t apart ⟨lane, work, staged⟩
    exact ⟨(lockdownLane_lane_other apart t).trans lane, (lockdownLane_laneWork_other apart t).trans work,
      fun k h => staged k (lockdownLane_staged h)⟩
  · rintro t ⟨lane, work, staged⟩
    refine ⟨_, by rw [lockdownLane_laneWork_self, lane, work], fun idle => ?_⟩
    rw [if_neg]
    intro dumps
    rw [State.dumpsHead, Option.any_eq_true] at dumps
    obtain ⟨k, head, at_head⟩ := dumps
    rw [lane] at head
    simp [State.dumpsHead, head, staged k at_head] at idle
  · rintro j t apart ⟨x, work, idle⟩
    exact ⟨x, (lockdownLane_laneWork_other apart t).trans work, idle⟩

/-- An order that is neither staged in a head nor presented in an OPEN drawer stands. -/
theorem lanesLocked_order_still
    (heads : ∀ l, (s.lane l).head = some k → (s.order k).any (fun o => o.state == .staged) = false)
    (loads : ∀ l, (s.lane l).load = some k → (s.lane l).drawer = .opened →
      (s.order k).any (fun o => o.state == .presented) = false) : (lanesLocked s).order k = s.order k := by
  rw [lanesLocked]
  refine (forEach_keeps (fun t => t.order k = s.order k ∧ ∀ l, (t.lane l).head = (s.lane l).head ∧
    (t.lane l).load = (s.lane l).load ∧ ((t.lane l).drawer = .opened → (s.lane l).drawer = .opened)) lockdownLane ?_ s
    ⟨rfl, fun _ => ⟨rfl, rfl, id⟩⟩).1
  rintro j t ⟨order, lanes⟩
  refine ⟨?_, fun l => ?_⟩
  · rw [lockdownLane_order, order]
    cases found : s.order k with
    | none => rfl
    | some o =>
      obtain ⟨head, load, drawer⟩ := lanes j
      have fate : t.lockFate j k o = o := by
        rw [State.lockFate, if_neg, Order.toRecalling]
        · split
          next recalls =>
            have gone := loads j (load.symm.trans recalls.2) (drawer recalls.1)
            rw [found] at gone
            exact if_neg (by simpa using gone)
          · rfl
        · rintro ⟨held, staged⟩
          have gone := heads j (head.symm.trans held)
          simp [found, staged] at gone
      rw [Option.map_some, fate]
  · by_cases here : j = l
    · subst here
      obtain ⟨head, load, drawer⟩ := lanes j
      rw [lockdownLane_lane_self]
      refine ⟨head, load, fun opened => ?_⟩
      simp only [Drawer.recalled] at opened
      split at opened
      · cases opened
      · exact drawer opened
    · rw [lockdownLane_lane_other here]
      exact lanes l

/-- A staged order in one head is dumped (R117). -/
theorem lanesLocked_order_dumped (head : (s.lane l).head = some i) (alone : ∀ k, k ≠ l → (s.lane k).head ≠ some i)
    (order : s.order i = some o) (staged : o.state = .staged) :
    (lanesLocked s).order i = some (o.dumped .lockdown) ∧ ((lanesLocked s).laneWork l).dump = some routeLimit := by
  rw [lanesLocked]
  have unpresented (r : Option Reason) : o.toRecalling r = o := by simp [Order.toRecalling, staged]
  refine forEach_turn (P := fun t => t.order i = some o ∧ ∀ j, (t.lane j).head = (s.lane j).head)
    (Q := fun t => t.order i = some (o.dumped .lockdown) ∧ (t.laneWork l).dump = some routeLimit)
    (f := lockdownLane) l ?_ ?_ ?_ ⟨order, fun _ => rfl⟩
  · rintro j t apart ⟨order, heads⟩
    refine ⟨?_, fun m => ?_⟩
    · rw [lockdownLane_order, order, Option.map_some, State.lockFate,
        if_neg fun dumps => alone j apart ((heads j).symm.trans dumps.1), unpresented, ite_self]
    · by_cases here : j = m
      · subst here
        rw [lockdownLane_lane_self]
        exact heads j
      · rw [lockdownLane_lane_other here]
        exact heads m
  · rintro t ⟨order, heads⟩
    have held : (t.lane l).head = some i := (heads l).trans head
    refine ⟨?_, ?_⟩
    · rw [lockdownLane_order, order, Option.map_some, State.lockFate, if_pos ⟨held, staged⟩]
    · rw [lockdownLane_laneWork_self]
      simp [State.dumpsHead, held, order, staged]
  · rintro j t apart ⟨order, dump⟩
    refine ⟨?_, by rw [lockdownLane_laneWork_other apart]; exact dump⟩
    rw [lockdownLane_order, order, Option.map_some, State.lockFate]
    simp [Order.dumped, Order.toRecalling]

/-- A presented order in an OPEN drawer is recalled (R117). -/
theorem lanesLocked_order_recalled (drawer : (s.lane l).drawer = .opened) (load : (s.lane l).load = some i)
    (order : s.order i = some o) (presented : o.state = .presented) :
    (lanesLocked s).order i = some (o.toRecalling (some .lockdown)) := by
  rw [lanesLocked]
  have recalled : o.toRecalling (some .lockdown) =
      { o with state := .recalling, reason := some .lockdown, presentDeadline := none } := if_pos presented
  have again (t : State) (j : LaneId) : t.lockFate j i (o.toRecalling (some .lockdown)) = o.toRecalling (some .lockdown) := by
    rw [recalled, State.lockFate]
    simp [Order.toRecalling]
  refine forEach_turn (P := fun t => (t.order i = some o ∨ t.order i = some (o.toRecalling (some .lockdown))) ∧
      t.lane l = s.lane l)
    (Q := fun t => t.order i = some (o.toRecalling (some .lockdown))) (f := lockdownLane) l ?_ ?_ ?_ ⟨.inl order, rfl⟩
  · rintro j t apart ⟨found, lane⟩
    refine ⟨?_, (lockdownLane_lane_other apart t).trans lane⟩
    rcases found with found | found
    · rw [lockdownLane_order, found, Option.map_some, State.lockFate, if_neg fun dumps => by simp [presented] at dumps]
      split
      · exact .inr rfl
      · exact .inl rfl
    · rw [lockdownLane_order, found, Option.map_some, again]
      exact .inr rfl
  · rintro t ⟨found, lane⟩
    rcases found with found | found
    · rw [lockdownLane_order, found, Option.map_some, State.lockFate, if_neg fun dumps => by simp [presented] at dumps,
        if_pos ⟨by rw [lane, drawer], by rw [lane, load]⟩]
    · rw [lockdownLane_order, found, Option.map_some, again]
  · intro j t apart found
    rw [lockdownLane_order, found, Option.map_some, again]

end Sys2Proof.Machine
end

section
/-! The start of lockdown as a whole, and the state at the end of its event. -/

namespace Sys2Proof.Machine
set_option Elab.async false

variable {s t u w : State} {f : Footprint} {c : Instr} {z : ZoneId} {d : CassetteId} {i k : OrderSlot} {o q : Order}
  {l j : LaneId} {v : Leveling} {a : Attempt}

/-! ### The stages -/

/-- The order that picks has been stopped, and the shutters close. -/
def lockdownShut (s : State) : State := closeShutters (lockdownPicking s)

/-- The leveling sessions have ended too. -/
def lockdownHalted (s : State) : State := levelingsEnded (lockdownShut s)

/-- The start of lockdown, the siren aside. -/
def lockdownRun (s : State) : State := lanesLocked (lockdownHalted s)

theorem startLockdown_eq (s : State) : startLockdown s = lockdownRun (sounded s) := rfl

theorem lockdownShut_touches (s : State) : Touches
    { cassettes := positions _, orders := positions _, placement := true, path := true } s (lockdownShut s) :=
  (lockdownPicking_alone s).trans (closeShutters_touches mem_positions rfl _)

theorem lockdownShut_order (s : State) (k : OrderSlot) : (lockdownShut s).order k = (lockdownPicking s).order k := by
  rw [lockdownShut, ((closeShutters_alone _).orders k).resolve_left (by simp)]

theorem lockdownShut_placement (s : State) :
    (lockdownShut s).custody.placement = (lockdownPicking s).custody.placement := by
  rw [lockdownShut, (closeShutters_alone _).placement.resolve_left (by simp)]

theorem Cassette.shutting_eq (r : Cassette) :
    r.shutting = { r with shutter := if r.shutter.ajar then .closing else r.shutter } := by
  unfold Cassette.shutting
  split <;> rfl

theorem lockdownShut_cassette (s : State) (d : CassetteId) : (lockdownShut s).cassette d = { s.cassette d with
    shutter := if (s.cassette d).shutter.ajar then .closing else (s.cassette d).shutter
    reserved := (s.cassette d).reserved - (((positions _).filter s.stopsPicking).map (s.needOf d)).sum } := by
  rw [lockdownShut, closeShutters_cassette, lockdownPicking_cassette, Cassette.shutting_eq]

theorem lockdownShut_path (s : State) : (lockdownShut s).path =
    { (lockdownPicking s).path with shutterTravel := (lockdownShut s).path.shutterTravel } := by
  conv_lhs => rw [lockdownShut, closeShutters_path]
  rw [lockdownShut]

theorem lockdownShut_travel (s : State) (d : CassetteId) : (lockdownShut s).path.shutterTravel.get d =
    if (s.cassette d).shutter.ajar then some shutterTravelTime else s.path.shutterTravel.get d := by
  rw [lockdownShut, closeShutters_travel, lockdownPicking_cassette, lockdownPicking_travel]

theorem lockdownHalted_order (s : State) (k : OrderSlot) : (lockdownHalted s).order k =
    if s.stopsPicking k then (s.order k).map (Order.aborted .lockdown) else s.order k := by
  rw [lockdownHalted, ((levelingsEnded_alone _).orders k).resolve_left (by simp), lockdownShut_order,
    lockdownPicking_order]

theorem lockdownHalted_lane (s : State) (l : LaneId) : (lockdownHalted s).lane l = s.lane l := by
  rw [lockdownHalted, (levelingsEnded_alone _).lane rfl rfl, (lockdownShut_touches s).lane rfl rfl]

theorem lockdownHalted_laneWork (s : State) (l : LaneId) : (lockdownHalted s).laneWork l = s.laneWork l := by
  rw [lockdownHalted, ((levelingsEnded_alone _).work l).resolve_left (by simp),
    ((lockdownShut_touches s).work l).resolve_left (by simp)]

theorem lockdownRun_cassette (s : State) (d : CassetteId) : (lockdownRun s).cassette d = (lockdownHalted s).cassette d := by
  rw [lockdownRun, ((lanesLocked_alone _).cassettes d).resolve_left (by simp)]

theorem lockdownRun_path (s : State) : (lockdownRun s).path = (lockdownHalted s).path := by
  rw [lockdownRun, (lanesLocked_alone _).path.resolve_left (by simp)]

theorem lockdownRun_bins (s : State) : (lockdownRun s).custody.bins = (lockdownHalted s).custody.bins := by
  rw [lockdownRun, (lanesLocked_alone _).bins.resolve_left (by simp)]

theorem lockdownRun_settings (s : State) : (lockdownRun s).custody.settings = s.custody.settings := by
  rw [lockdownRun, (lanesLocked_alone _).settings.resolve_left (by simp), lockdownHalted,
    (levelingsEnded_alone _).settings.resolve_left (by simp), (lockdownShut_touches s).settings.resolve_left (by simp)]

theorem lockdownRun_alarm (s : State) : (lockdownRun s).alarm = s.alarm := by
  rw [lockdownRun, (lanesLocked_alone _).alarm.resolve_left (by simp), lockdownHalted,
    (levelingsEnded_alone _).alarm.resolve_left (by simp), (lockdownShut_touches s).alarm.resolve_left (by simp)]

theorem lockdownRun_touches (r : LockdownRoom f) (s : State) : Touches f s (lockdownRun s) :=
  (((lockdownPicking_touches r.cassettes r.orders r.placement r.path s).trans
    (closeShutters_touches r.cassettes r.path _)).trans (levelingsEnded_touches r.cassettes r.bins r.path _)).trans
    (lanesLocked_touches r.lanes r.work r.orders _)

/-! ### What it leaves -/

theorem lockdownRun_lane (s : State) (l : LaneId) :
    (lockdownRun s).lane l = { s.lane l with drawer := (s.lane l).drawer.recalled } := by
  rw [lockdownRun, lanesLocked_lane, lockdownHalted_lane]

/-- An order that is stopped is staged no more, nor is it presented. -/
theorem lockdownHalted_moved {p : Order → Bool} (gone : ∀ o : Order, p (o.aborted .lockdown) = false)
    (still : (s.order k).any p = false) : ((lockdownHalted s).order k).any p = false := by
  rw [lockdownHalted_order]
  split
  · cases s.order k <;> simp [gone]
  · exact still

theorem aborted_unstaged (o : Order) : ((o.aborted .lockdown).state == .staged) = false := by
  rw [Order.aborted_eq (by decide) (by decide)]
  split <;> rfl

theorem aborted_unpresented (o : Order) : ((o.aborted .lockdown).state == .presented) = false := by
  rw [Order.aborted_eq (by decide) (by decide)]
  split <;> rfl

theorem lockdownRun_laneWork (s : State) (l : LaneId) : ∃ x, (lockdownRun s).laneWork l =
    { (s.laneWork l).recalled (s.lane l).drawer .lockdown with dump := x } ∧
    (s.dumpsHead l = false → x = (s.laneWork l).dump) := by
  obtain ⟨x, work, idle⟩ := lanesLocked_laneWork (lockdownHalted s) l
  rw [lockdownHalted_laneWork, lockdownHalted_lane] at work
  rw [lockdownHalted_laneWork] at idle
  rw [lockdownRun]
  refine ⟨x, work, fun dumps => idle ?_⟩
  rw [State.dumpsHead, lockdownHalted_lane]
  cases head : (s.lane l).head with
  | none => rfl
  | some i =>
    rw [State.dumpsHead, head, Option.any_some] at dumps
    rw [Option.any_some]
    exact lockdownHalted_moved (p := fun o => o.state == .staged) aborted_unstaged dumps

theorem lockdownRun_order_still (stands : s.stopsPicking k = false)
    (heads : ∀ l, (s.lane l).head = some k → (s.order k).any (fun o => o.state == .staged) = false)
    (loads : ∀ l, (s.lane l).load = some k → (s.lane l).drawer = .opened →
      (s.order k).any (fun o => o.state == .presented) = false) : (lockdownRun s).order k = s.order k := by
  have same : (lockdownHalted s).order k = s.order k := by rw [lockdownHalted_order, stands]; rfl
  rw [lockdownRun, lanesLocked_order_still, same]
  · intro l
    rw [lockdownHalted_lane, same]
    exact heads l
  · intro l
    rw [lockdownHalted_lane, same]
    exact loads l

/-- The order that is stopped goes its way to the end of its purge, wherever else it stands. -/
theorem lockdownRun_order_stopped (stops : s.stopsPicking k = true) (order : s.order k = some o) :
    (lockdownRun s).order k = some (o.aborted .lockdown) := by
  have moved : (lockdownHalted s).order k = some (o.aborted .lockdown) := by
    rw [lockdownHalted_order, stops, order]
    rfl
  rw [lockdownRun, lanesLocked_order_still, moved]
  · exact fun l _ => by rw [moved]; exact aborted_unstaged o
  · exact fun l _ _ => by rw [moved]; exact aborted_unpresented o

theorem lockdownRun_placement (s : State) :
    (lockdownRun s).custody.placement = s.custody.placement.filter fun k => !s.stopEnds k := by
  rw [lockdownRun, (lanesLocked_alone _).placement.resolve_left (by simp), lockdownHalted,
    (levelingsEnded_alone _).placement.resolve_left (by simp), lockdownShut_placement, lockdownPicking_placement]

theorem lockdownRun_queue (s : State) : (lockdownRun s).path.queue =
    s.path.queue.filter fun q => !(s.stopClaim q || claimGone s (lockdownRun s) q) := by
  rw [lockdownRun_path, lockdownHalted, levelingsEnded_queue, lockdownShut_path]
  dsimp only
  rw [lockdownPicking_queue, List.filter_filter]
  refine List.filter_congr fun q _ => ?_
  cases q with
  | order i => simp [claimGone]
  | leveling d =>
    simp only [claimGone, lockdownShut_cassette, lockdownRun_cassette, lockdownHalted, State.stopClaim, Bool.false_or,
      Bool.not_false, Bool.and_true]

theorem lockdownRun_travel (s : State) (d : CassetteId) : (lockdownRun s).path.shutterTravel.get d =
    if (s.cassette d).shutter.ajar then some shutterTravelTime else s.path.shutterTravel.get d := by
  rw [lockdownRun_path, lockdownHalted, levelingsEnded_travel, lockdownShut_travel]

/-- What every cassette keeps but for its shutter and what the stopped order held. -/
theorem lockdownRun_keeps (s : State) (d : CassetteId) :
    ((lockdownRun s).cassette d).shutter = (if (s.cassette d).shutter.ajar then .closing else (s.cassette d).shutter) ∧
    ((lockdownRun s).cassette d).mark = (s.cassette d).mark := by
  obtain ⟨shutter, -, mark, -⟩ := levelingsEnded_keeps (lockdownShut s) d
  rw [lockdownShut_cassette] at shutter mark
  rw [lockdownRun_cassette]
  exact ⟨shutter, mark⟩

theorem lockdownRun_idle (idle : (s.cassette d).leveling = none) : (lockdownRun s).cassette d = { s.cassette d with
    shutter := if (s.cassette d).shutter.ajar then .closing else (s.cassette d).shutter
    reserved := (s.cassette d).reserved - (((positions _).filter s.stopsPicking).map (s.needOf d)).sum } := by
  rw [lockdownRun_cassette, lockdownHalted, levelingsEnded_none (by rw [lockdownShut_cassette]; exact idle),
    lockdownShut_cassette]

/-- Without a session that holds the transport, it is as the stop of the order leaves it. -/
theorem lockdownRun_path_idle (idle : ∀ d, (lockdownPicking s).path.holder ≠ some (.leveling d))
    (steady : (lockdownPicking s).path.lastAttempt = (lockdownPicking s).path ∨
      ∀ d, (s.cassette d).leveling.any (fun v => v.phase == .fetching) = false) : (lockdownRun s).path =
    { (lockdownPicking s).path with
      queue := (lockdownRun s).path.queue, shutterTravel := (lockdownRun s).path.shutterTravel } := by
  have holders : ∀ d, (lockdownShut s).path.holder ≠ some (.leveling d) := fun d => by
    rw [lockdownShut_path]
    exact idle d
  have attempts : (lockdownShut s).path.lastAttempt = (lockdownShut s).path ∨
      ∀ d, ((lockdownShut s).cassette d).leveling.any (fun v => v.phase == .fetching) = false := by
    refine steady.imp (fun same => ?_) fun none d => ?_
    · rw [lockdownShut_path]
      generalize (lockdownShut s).path.shutterTravel = travel
      exact congrArg (fun p : NotePath => { p with shutterTravel := travel }) same
    · rw [lockdownShut_cassette]
      exact none d
  have travel := levelingsEnded_travel (lockdownShut s)
  rw [lockdownRun_path, lockdownHalted, travel]
  conv_lhs => rw [levelingsEnded_path_idle holders attempts, lockdownShut_path]

/-- The transport of an order with an attempt in flight: the attempt is the last. -/
theorem lockdownRun_path_picks (state : s.path.state = .picking) (holder : s.path.holder = some (.order i))
    (attempt : s.path.attempt = some a) : (lockdownRun s).path = { s.path with
      attempt := some { a with last := true }
      queue := (lockdownRun s).path.queue, shutterTravel := (lockdownRun s).path.shutterTravel } := by
  have run : lockdownPicking s = s.modPath NotePath.lastAttempt := by
    rw [lockdownPicking, state, attempt, modPath_lastAttempt attempt]
  have path := lockdownRun_path_idle (s := s)
    (fun d => by rw [run, State.modPath_path]; simp [NotePath.lastAttempt, holder])
    (.inl (by rw [run, State.modPath_path]; exact s.path.lastAttempt_twice))
  rw [run, State.modPath_path] at path
  conv_lhs => rw [path]
  simp only [NotePath.lastAttempt, attempt, Option.map_some]

/-- The transport of an order that is stopped. -/
theorem lockdownRun_path_stopped (picking : s.pickingOrder = some (i, o)) (none : s.path.attempt = none) :
    (lockdownRun s).path = { (if o.acceptedTotal = 0 then s.path.freed s else s.path.purged) with
      queue := (lockdownRun s).path.queue, shutterTravel := (lockdownRun s).path.shutterTravel } := by
  obtain ⟨state, holder, -⟩ := pickingOrder_some picking
  have run : lockdownPicking s = abortPicking .lockdown s := by rw [lockdownPicking, state, none]
  have stopped := abortPicking_path (r := .lockdown) picking
  have path := lockdownRun_path_idle (s := s)
    (fun d => by
      rw [run, stopped]
      split
      · simp [NotePath.freed]
      · simp [NotePath.purged, holder])
    (.inl (by
      rw [run, stopped]
      split <;> rfl))
  rw [run, stopped] at path
  conv_lhs => rw [path]
  split <;> rfl

theorem lockdownRun_free_bins (free : ∀ d, s.gaugeHolds d = false) : (lockdownRun s).custody.bins = s.custody.bins := by
  rw [lockdownRun_bins, lockdownHalted, levelingsEnded_bins fun d => ?_,
    (lockdownShut_touches s).bins.resolve_left (by simp)]
  have still := free d
  rw [gaugeHolds_eq, State.holdsNote] at still ⊢
  rw [lockdownShut_cassette, lockdownShut_path]
  dsimp only
  rcases lockdownPicking_holder s with ⟨holder, reading⟩ | none
  · rw [holder, reading]
    exact still
  · simp [none d]

/-! #### A session that holds the transport -/

theorem lockdownPicking_leveling (holder : s.path.holder = some (.leveling d)) :
    lockdownPicking s = s ∨ lockdownPicking s = s.modPath NotePath.lastAttempt := by
  rcases lockdownPicking_cases s with ⟨i, o, picking, -⟩ | ⟨-, run⟩
  · have held := (pickingOrder_some picking).2.1
    rw [holder] at held
    cases held
  · exact run

theorem lockdownShut_leveling (holder : s.path.holder = some (.leveling d)) :
    (lockdownShut s).cassette d = { s.cassette d with
      shutter := if (s.cassette d).shutter.ajar then .closing else (s.cassette d).shutter } := by
  have same : (lockdownPicking s).cassette d = s.cassette d := by
    rcases lockdownPicking_leveling holder with run | run <;> rw [run] <;> rfl
  rw [lockdownShut, closeShutters_cassette, same, Cassette.shutting_eq]

theorem lockdownShut_holder (holder : s.path.holder = some (.leveling d)) :
    (lockdownShut s).path.holder = some (.leveling d) ∧ (lockdownShut s).path.heldReading = s.path.heldReading := by
  rw [lockdownShut_path]
  rcases lockdownPicking_leveling holder with run | run <;> rw [run] <;> exact ⟨holder, rfl⟩

/-- A session that holds the transport and does not run on ends, with the note at the gauge spent. -/
theorem lockdownRun_ends (leveling : (s.cassette d).leveling = some v) (holder : s.path.holder = some (.leveling d))
    (ends : v.phase = .fetching → s.path.attempt = none) :
    (lockdownRun s).cassette d = ({ s.cassette d with
      shutter := if (s.cassette d).shutter.ajar then .closing else (s.cassette d).shutter }.spent
        s.path.heldReading.isSome).returned ∧
    (lockdownRun s).custody.bins = (if s.path.heldReading.isSome then s.custody.bins.rejected 1 else s.custody.bins) ∧
    (lockdownRun s).path = { s.path.freed s with
      queue := (lockdownRun s).path.queue, shutterTravel := (lockdownRun s).path.shutterTravel
      rejectPause := if s.path.heldReading.isSome then (lockdownRun s).pauseDue else s.path.rejectPause } := by
  obtain ⟨holder', reading⟩ := lockdownShut_holder holder
  have session : ((lockdownShut s).cassette d).leveling = some v := by rw [lockdownShut_leveling holder]; exact leveling
  have none : v.phase = .fetching → (lockdownShut s).path.attempt = none := fun fetching => by
    rw [lockdownShut_path]
    rcases lockdownPicking_leveling holder with run | run <;> rw [run] <;> simp [NotePath.lastAttempt, ends fetching]
  have note : (lockdownShut s).holdsNote d = s.path.heldReading.isSome := by
    simp [State.holdsNote, holder', reading]
  obtain ⟨cassette, bins, q, path⟩ := levelingsEnded_ends session holder' none
  have settings : (lockdownShut s).custody.settings = s.custody.settings :=
    (lockdownShut_touches s).settings.resolve_left (by simp)
  have travel := levelingsEnded_travel (lockdownShut s)
  have bins' : (lockdownRun s).custody.bins =
      (if s.path.heldReading.isSome then s.custody.bins.rejected 1 else s.custody.bins) := by
    rw [lockdownRun_bins, lockdownHalted, bins, endLeveling_bins, note,
      (lockdownShut_touches s).bins.resolve_left (by simp)]
  have pause : (endLeveling d (lockdownShut s)).pauseDue = (lockdownRun s).pauseDue := by
    refine pauseDue_congr ?_ ?_
    · rw [lockdownRun_bins, lockdownHalted, bins]
    · rw [endLeveling_settings, settings, lockdownRun_settings]
  refine ⟨?_, bins', ?_⟩
  · rw [lockdownRun_cassette, lockdownHalted, cassette, note, lockdownShut_leveling holder]
  · have queue := congrArg NotePath.queue path
    dsimp only at queue
    rw [← pause, lockdownRun_path, lockdownHalted, travel, queue]
    conv_lhs => rw [path, endLeveling_path_holder holder']
    rw [reading, lockdownShut_path]
    rcases lockdownPicking_leveling holder with run | run <;>
      simp only [run, NotePath.freed, settings, State.modPath_path, NotePath.lastAttempt]

/-- A session that fetches its note runs on with the attempt in flight as the last. -/
theorem lockdownRun_runs (state : s.path.state = .leveling) (leveling : (s.cassette d).leveling = some v)
    (fetching : v.phase = .fetching) (holder : s.path.holder = some (.leveling d)) (attempt : s.path.attempt = some a) :
    ((lockdownRun s).cassette d).leveling = some v ∧ (lockdownRun s).path = { s.path with
      attempt := some { a with last := true }
      queue := (lockdownRun s).path.queue, shutterTravel := (lockdownRun s).path.shutterTravel } := by
  have picking : lockdownPicking s = s := lockdownPicking_idle (by simp [state])
  have path : (lockdownShut s).path = { s.path with shutterTravel := (lockdownShut s).path.shutterTravel } := by
    conv_lhs => rw [lockdownShut_path, picking]
  obtain ⟨same, q, runs⟩ := levelingsEnded_runs (s := lockdownShut s) (c := d) (v := v) (a := a)
    (by rw [lockdownShut_leveling holder]; exact leveling) fetching (lockdownShut_holder holder).1
    (by rw [path]; exact attempt)
  refine ⟨by rw [lockdownRun_cassette, lockdownHalted, same, lockdownShut_leveling holder]; exact leveling, ?_⟩
  have travel := levelingsEnded_travel (lockdownShut s)
  have queue := congrArg NotePath.queue runs
  dsimp only at queue
  rw [lockdownRun_path, lockdownHalted, travel, queue]
  conv_lhs => rw [runs, path]
  simp only [NotePath.lastAttempt, attempt, Option.map_some]

/-- A session that waits ends, wherever its claim stands. -/
theorem lockdownRun_waiting (leveling : (s.cassette d).leveling = some v) (waits : v.phase ≠ .fetching)
    (holder : s.path.holder ≠ some (.leveling d)) :
    (lockdownRun s).cassette d = ((lockdownShut s).cassette d).returned := by
  refine (lockdownRun_cassette s d).trans (levelingsEnded_waiting (v := v) ?_ waits ?_)
  · rw [lockdownShut_cassette]
    exact leveling
  · rw [lockdownShut_path]
    rcases lockdownPicking_holder s with ⟨kept, -⟩ | none
    · dsimp only
      rw [kept]
      exact holder
    · exact none d

end Sys2Proof.Machine
end

section
/-! The state at the end of the event in which lockdown starts. -/

namespace Sys2Proof.Machine
set_option Elab.async false

variable {s t u w : State} {f : Footprint} {c : Instr} {z : ZoneId} {d : CassetteId} {i : OrderSlot} {o q : Order}
  {l j : LaneId} {v : Leveling} {a : Attempt}

/-- The state in which lockdown starts: its zone has gone LATCHED, and the siren sounds (R153). -/
structure Alarmed (z : ZoneId) (s w : State) : Prop where
  leaves : ∀ f : Footprint, z ∈ f.zones → f.trips = true → f.alarm = true → f.levels = true → Touches f s w

theorem Struck.alarmed (k : Struck c z s u) : Alarmed z s (sounded u) where
  leaves f h t a v := ((k.leaves f h t a v).trans (.modAlarm a _)).trans (.raise _)

/-- The state at the end of the event in which lockdown starts. -/
def lockdownEnded (s w : State) : State := finish s (completeSessions ((lockdownRun w).raise .alarm)) none none

theorem respond_lockdown (response : (s.zone z).response = .lockdown) (stood : Bool) :
    respond z stood s = if stood then s.modAlarm fun a => { a with siren := true } else startLockdown s := by
  rw [respond, response]

theorem yields_lockdown {P : State → Prop} (heeds : s.heeds = true) (starts : StartsLockdown c z s)
    (ends : ∀ w, Alarmed z s w → P (lockdownEnded s w)) : Yields c s P := by
  obtain ⟨latches, response, unlocked⟩ := starts
  refine yields_latch heeds latches fun u k => ?_
  rw [latchEnded, respond_lockdown (k.response.trans response), unlocked, startLockdown_eq]
  exact ends _ k.alarmed

/-- A latch with the LOCKDOWN response sounds the siren, whether lockdown stood before or not. -/
theorem Struck.ended_siren (k : Struck c z s u) (response : (s.zone z).response = .lockdown) :
    (latchEnded z s u).alarm = { s.alarm with delays := tableSet s.alarm.delays z none, siren := true } := by
  rw [ended_alarm, respond_lockdown (k.response.trans response)]
  split
  · rw [State.modAlarm_alarm, k.alarm]
  · rw [startLockdown_eq, lockdownRun_alarm, sounded, State.raise_alarm, State.modAlarm_alarm, k.alarm]

theorem ended_path (s w : State) : (lockdownEnded s w).path = (lockdownRun w).path := by
  rw [lockdownEnded, finish_path, completeSessions_path, State.raise_path]

theorem ended_leveling (s w : State) (d : CassetteId) :
    ((lockdownEnded s w).cassette d).leveling = ((lockdownRun w).cassette d).leveling := by
  obtain ⟨b, mark⟩ := finish_cassette_but_mark (before := s) (after := completeSessions ((lockdownRun w).raise .alarm)) d
  rw [lockdownEnded, mark, completeSessions_cassette, State.raise_cassette]

theorem claimStops_eq (s t : State) (q : Claim) : s.claimStops t q = (s.stopClaim q || claimGone s t q) := by
  cases q with
  | order i => simp [State.claimStops, State.stopClaim, State.stopEnds, claimGone]
  | leveling d => simp [State.claimStops, State.stopClaim, claimGone]

/-- A cassette record that has changed is marked at the end of the event. -/
theorem finish_cassette_changed {r : Cassette} (new : t.cassette d = r) (mark : r.mark = (s.cassette d).mark) :
    (finish s t none none).cassette d = { r with mark := r.mark || decide (r ≠ s.cassette d) } := by
  by_cases still : r = s.cassette d
  · rw [finish_cassette_of_eq (new.trans still)]
    simp [still]
  · have other : (s.cassette d).same r = false := Bool.eq_false_iff.mpr fun same => still (Cassette.eq_of_same same mark)
    have moved : cassetteMoved s t none d = true := by simp [cassetteMoved, new, other]
    rw [finish_cassette, moved, new]
    simp [still]

/-- A cassette whose session has ended is marked. -/
theorem ended_cassette_moved {r : Cassette} (ends : (lockdownRun w).cassette d = r)
    (moved : r.leveling ≠ (s.cassette d).leveling) : (lockdownEnded s w).cassette d = { r with mark := true } := by
  have new : (completeSessions ((lockdownRun w).raise .alarm)).cassette d = r := by
    rw [completeSessions_cassette, State.raise_cassette, ends]
  have apart : (s.cassette d).same ((completeSessions ((lockdownRun w).raise .alarm)).cassette d) = false := by
    rw [new]
    refine Bool.eq_false_iff.mpr fun same => moved ?_
    simp only [Cassette.same, beq_iff_eq] at same
    exact (congrArg Cassette.leveling same).symm
  rw [lockdownEnded, finish_cassette_moved apart, new]

theorem ended_pauseDue (s w : State) : (lockdownEnded s w).pauseDue = (lockdownRun w).pauseDue := by
  rw [lockdownEnded, finish_pauseDue, completeSessions_pauseDue]
  exact pauseDue_congr (by rw [State.raise_custody]) (by rw [State.raise_custody])

/-! ### What stands when lockdown starts -/

section
variable (k : Alarmed z s w)
include k

theorem Alarmed.alone : Touches { zones := [z], trips := true, alarm := true, levels := true } s w :=
  k.leaves _ (by simp) rfl rfl rfl

theorem Alarmed.cassette (d : CassetteId) : w.cassette d = s.cassette d := (k.alone.cassettes d).resolve_left (by simp)
theorem Alarmed.order (i : OrderSlot) : w.order i = s.order i := (k.alone.orders i).resolve_left (by simp)
theorem Alarmed.lane (l : LaneId) : w.lane l = s.lane l := k.alone.lane rfl rfl l
theorem Alarmed.laneWork (l : LaneId) : w.laneWork l = s.laneWork l := (k.alone.work l).resolve_left (by simp)
theorem Alarmed.path : w.path = s.path := k.alone.path.resolve_left (by simp)
theorem Alarmed.placement : w.custody.placement = s.custody.placement := k.alone.placement.resolve_left (by simp)
theorem Alarmed.bins : w.custody.bins = s.custody.bins := k.alone.bins.resolve_left (by simp)
theorem Alarmed.settings : w.custody.settings = s.custody.settings := k.alone.settings.resolve_left (by simp)

theorem Alarmed.stopsPicking (i : OrderSlot) : w.stopsPicking i = s.stopsPicking i := by
  rw [State.stopsPicking, State.stopsPicking, State.picks, State.picks, k.path]

theorem Alarmed.stopEnds (i : OrderSlot) : w.stopEnds i = s.stopEnds i := by
  rw [State.stopEnds, State.stopEnds, k.stopsPicking, k.order]

theorem Alarmed.needOf (d : CassetteId) (i : OrderSlot) : w.needOf d i = s.needOf d i := by
  rw [State.needOf, State.needOf, k.order]

theorem Alarmed.gaugeHolds (d : CassetteId) : w.gaugeHolds d = s.gaugeHolds d := by
  rw [State.gaugeHolds, State.gaugeHolds, k.cassette, k.path]

theorem Alarmed.dumpsHead (l : LaneId) : w.dumpsHead l = s.dumpsHead l := by
  unfold State.dumpsHead
  simp only [k.lane, k.order]

theorem Alarmed.pickingOrder : w.pickingOrder = s.pickingOrder := by
  unfold State.pickingOrder
  simp only [k.path, k.order]

theorem Alarmed.freed : w.path.freed w = s.path.freed s := by
  rw [NotePath.freed, NotePath.freed, k.path, k.settings]

/-! ### The lanes and the orders at the end -/

theorem Alarmed.leaves_ended : EventLeaves
    { cassettes := positions _, orders := positions _, placement := true, zones := [z], trips := true, alarm := true,
      lanes := positions _, closes := true, bins := true, path := true, work := positions _, levels := true } s
    (lockdownEnded s w) :=
  eventLeaves_finish ((((k.leaves _ (by simp) rfl rfl rfl).trans (lockdownRun_touches
    ⟨mem_positions, mem_positions, rfl, mem_positions, mem_positions, rfl, rfl, rfl⟩ w)).trans (.raise _)).trans
    (completeSessions_touches rfl _))

theorem Alarmed.settles (l : LaneId) : SessionSettles s (lockdownEnded s w) l :=
  sessionSettles_finish (by rw [State.raise_lane, lockdownRun_lane, k.lane])

theorem Alarmed.ended_lane (l : LaneId) : (lockdownEnded s w).lane l = { s.lane l with
    session := ((lockdownEnded s w).lane l).session, drawer := (s.lane l).drawer.recalled
    mark := (s.lane l).mark || (s.lane l).drawer == .opened ||
      decide (((lockdownEnded s w).lane l).session ≠ (s.lane l).session) } := by
  have rest : (completeSessions ((lockdownRun w).raise .alarm)).lane l = { s.lane l with
      session := ((completeSessions ((lockdownRun w).raise .alarm)).lane l).session
      drawer := (s.lane l).drawer.recalled } := by
    conv_lhs => rw [completeSessions_lane_rest, State.raise_lane, lockdownRun_lane, k.lane]
  have session : ((lockdownEnded s w).lane l).session =
      ((completeSessions ((lockdownRun w).raise .alarm)).lane l).session := by
    rw [lockdownEnded, finish_lane_rest]
  rw [session]
  generalize ((completeSessions ((lockdownRun w).raise .alarm)).lane l).session = x at rest
  rw [lockdownEnded, finish_lane_changed rest rfl]
  have moved : ({ s.lane l with session := x, drawer := (s.lane l).drawer.recalled } : Lane) ≠ s.lane l ↔
      (s.lane l).drawer = .opened ∨ x ≠ (s.lane l).session := by
    cases lane : s.lane l
    cases drawer : (s.lane l).drawer <;> simp_all [Drawer.recalled]
  simp only [moved, Bool.decide_or, Bool.or_assoc, beq_eq_decide]

theorem Alarmed.ended_laneWork (l : LaneId) : (lockdownEnded s w).laneWork l =
      { (s.laneWork l).recalled (s.lane l).drawer .lockdown with dump := ((lockdownEnded s w).laneWork l).dump } ∧
    (s.dumpsHead l = false → ((lockdownEnded s w).laneWork l).dump = (s.laneWork l).dump) := by
  obtain ⟨x, work, idle⟩ := lockdownRun_laneWork w l
  rw [k.laneWork, k.lane] at work
  rw [k.dumpsHead, k.laneWork] at idle
  rw [lockdownEnded, finish_laneWork, completeSessions_laneWork, State.raise_laneWork, work]
  exact ⟨rfl, idle⟩

/-- An order of the table at the end, from what lockdown makes of it. -/
theorem Alarmed.order_moved (order : s.order i = some o) (ends : (lockdownRun w).order i = some q) (mark : q.mark = o.mark)
    (moved : q.state ≠ o.state) : (lockdownEnded s w).order i = some { q with mark := true } := by
  have new : (completeSessions ((lockdownRun w).raise .alarm)).order i = some q := by
    rw [completeSessions_order, State.raise_order, ends]
  rw [lockdownEnded, finish_order_moved (q := q) order new mark moved]

theorem Alarmed.order_still (stands : s.stopsPicking i = false)
    (heads : ∀ l, (s.lane l).head = some i → (s.order i).any (fun o => o.state == .staged) = false)
    (loads : ∀ l, (s.lane l).load = some i → (s.lane l).drawer = .opened →
      (s.order i).any (fun o => o.state == .presented) = false) : (lockdownEnded s w).order i = s.order i := by
  have still : (lockdownRun w).order i = w.order i := by
    refine lockdownRun_order_still (by rw [k.stopsPicking, stands]) ?_ ?_
    · intro l
      rw [k.lane, k.order]
      exact heads l
    · intro l
      rw [k.lane, k.order]
      exact loads l
  rw [lockdownEnded, finish_order_of_eq]
  rw [completeSessions_order, State.raise_order, still, k.order]

theorem Alarmed.not_stopped (holder : s.path.holder ≠ some (.order i)) : s.stopsPicking i = false :=
  Bool.eq_false_iff.mpr fun stops => holder (stopsPicking_iff.mp stops).1.2

theorem Alarmed.order_dumped (head : (s.lane l).head = some i) (alone : ∀ j, j ≠ l → (s.lane j).head ≠ some i)
    (order : s.order i = some o) (staged : o.state = .staged) (holder : s.path.holder ≠ some (.order i)) :
    (lockdownEnded s w).order i = some { o with state := .aborting, reason := some .lockdown, mark := true } ∧
      ((lockdownEnded s w).laneWork l).dump = some 3000 := by
  have found : (lockdownHalted w).order i = some o := by
    rw [lockdownHalted_order, k.stopsPicking, k.not_stopped holder, k.order, order]
    rfl
  obtain ⟨ends, dump⟩ := lanesLocked_order_dumped (s := lockdownHalted w) (l := l)
    (by rw [lockdownHalted_lane, k.lane, head]) (fun j apart => by rw [lockdownHalted_lane, k.lane]; exact alone j apart)
    found staged
  refine ⟨k.order_moved order ends rfl (by simp [Order.dumped, staged]), ?_⟩
  rw [lockdownEnded, finish_laneWork, completeSessions_laneWork, State.raise_laneWork, lockdownRun, dump, routeLimit]

theorem Alarmed.order_recalled (drawer : (s.lane l).drawer = .opened) (load : (s.lane l).load = some i)
    (order : s.order i = some o) (presented : o.state = .presented) (holder : s.path.holder ≠ some (.order i)) :
    (lockdownEnded s w).order i = some { o with
      state := .recalling, reason := some .lockdown, presentDeadline := none, mark := true } := by
  have found : (lockdownHalted w).order i = some o := by
    rw [lockdownHalted_order, k.stopsPicking, k.not_stopped holder, k.order, order]
    rfl
  have recalled : o.toRecalling (some .lockdown) =
      { o with state := .recalling, reason := some .lockdown, presentDeadline := none } := if_pos presented
  have ends := lanesLocked_order_recalled (s := lockdownHalted w) (l := l) (by rw [lockdownHalted_lane, k.lane, drawer])
    (by rw [lockdownHalted_lane, k.lane, load]) found presented
  rw [recalled] at ends
  exact k.order_moved order ends rfl (by simp [presented])

theorem Alarmed.order_stopped (stops : s.stopsPicking i = true) (order : s.order i = some o) (picks : o.state = .picking) :
    (lockdownEnded s w).order i = some (if o.acceptedTotal = 0 then
      { o with
        state := .failed, reason := some .lockdown, unresolved := 0, holdDeadline := none, presentDeadline := none
        mark := true }
      else { o with state := .aborting, reason := some .lockdown, mark := true }) := by
  have ends : (lockdownRun w).order i = some (o.aborted .lockdown) :=
    lockdownRun_order_stopped (by rw [k.stopsPicking, stops]) (by rw [k.order, order])
  have new : (completeSessions ((lockdownRun w).raise .alarm)).order i = some (o.aborted .lockdown) := by
    rw [completeSessions_order, State.raise_order, ends]
  rw [lockdownEnded]
  exact finish_order_aborted order picks new rfl (by decide) (by decide)

theorem Alarmed.ended_placement :
    (lockdownEnded s w).custody.placement = s.custody.placement.filter fun i => !s.stopEnds i := by
  rw [lockdownEnded, finish_placement, completeSessions_placement, State.raise_custody, lockdownRun_placement, k.placement]
  simp only [k.stopEnds]

/-! ### The transport and the cassettes at the end -/

theorem Alarmed.ended_queue : (lockdownEnded s w).path.queue =
    s.path.queue.filter fun q => !s.claimStops (lockdownEnded s w) q := by
  rw [ended_path, lockdownRun_queue, k.path]
  refine List.filter_congr fun q _ => ?_
  rw [claimStops_eq]
  cases q with
  | order i => simp only [State.stopClaim, claimGone, k.stopEnds]
  | leveling d => simp only [State.stopClaim, claimGone, k.cassette, ended_leveling]

theorem Alarmed.ended_travel (d : CassetteId) : (lockdownEnded s w).path.shutterTravel.get d =
    if (s.cassette d).shutter = .opened ∨ (s.cassette d).shutter = .opening then some 300
    else s.path.shutterTravel.get d := by
  rw [ended_path, lockdownRun_travel, k.cassette, k.path]
  simp only [Shutter.ajar_iff, shutterTravelTime]

theorem Alarmed.ended_shutter (d : CassetteId) : ((lockdownEnded s w).cassette d).shutter =
    if (s.cassette d).shutter = .opened ∨ (s.cassette d).shutter = .opening then .closing else (s.cassette d).shutter := by
  obtain ⟨shutter, -⟩ := lockdownRun_keeps w d
  obtain ⟨b, mark⟩ := finish_cassette_but_mark (before := s) (after := completeSessions ((lockdownRun w).raise .alarm)) d
  rw [lockdownEnded, mark]
  dsimp only
  rw [completeSessions_cassette, State.raise_cassette, shutter, k.cassette]
  simp only [Shutter.ajar_iff]

theorem Alarmed.ended_bins (free : ∀ d, s.gaugeHolds d = false) :
    (lockdownEnded s w).custody.bins = s.custody.bins := by
  rw [lockdownEnded, finish_bins, completeSessions_bins, State.raise_custody,
    lockdownRun_free_bins fun d => (k.gaugeHolds d).trans (free d), k.bins]

/-- A cassette without a session. -/
theorem Alarmed.ended_cassette_idle (idle : (s.cassette d).leveling = none) :
    let r : Cassette := { s.cassette d with
      shutter := if (s.cassette d).shutter = .opened ∨ (s.cassette d).shutter = .opening then .closing
        else (s.cassette d).shutter
      reserved := (s.cassette d).reserved - (((positions _).filter s.stopsPicking).map (s.needOf d)).sum }
    (lockdownEnded s w).cassette d = { r with mark := r.mark || decide (r ≠ s.cassette d) } := by
  intro r
  rw [lockdownEnded]
  refine finish_cassette_changed ?_ rfl
  rw [completeSessions_cassette, State.raise_cassette, lockdownRun_idle (by rw [k.cassette]; exact idle), k.cassette,
    funext k.stopsPicking, funext (k.needOf d)]
  simp only [Shutter.ajar_iff]
  rfl

end

end Sys2Proof.Machine
end

section
/-! Zone reports, activations and latches with every response. -/

namespace Sys2Proof.Machine
set_option Elab.async false

variable {s t u w : State} {c : Instr} {z : ZoneId} {d : CassetteId} {i : OrderSlot} {o : Order} {l : LaneId}
  {v : Leveling} {a : Attempt} {x : ZoneInput}

/-! ### A report that makes nothing latch -/

/-- The input of a zone has been taken, in the records and in the field levels. -/
def inputTaken (z : ZoneId) (x : ZoneInput) (s : State) : State :=
  (s.modLevels fun v => { v with zones := tableSet v.zones z x }).modZone z fun r => { r with input := x }

theorem inputTaken_touches {f : Footprint} (h : z ∈ f.zones) (v : f.levels = true) (x : ZoneInput) (s : State) :
    Touches f s (inputTaken z x s) := (Touches.modLevels v _).trans (.modZone h _)

theorem inputTaken_zone (z : ZoneId) (x : ZoneInput) (s : State) :
    (inputTaken z x s).zone z = { s.zone z with input := x } := by
  rw [inputTaken, State.modZone_zone, if_pos rfl]
  rfl

theorem inputTaken_armed (z : ZoneId) (x : ZoneInput) (s : State) (g : Group) :
    (inputTaken z x s).groupArmed g = s.groupArmed g := by
  cases g <;> rfl

theorem inputTaken_bypassed (z : ZoneId) (x : ZoneInput) (s : State) : (inputTaken z x s).bypassed z = s.bypassed z := by
  rw [State.bypassed, inputTaken_zone]
  rfl

/-- A report is run on the state that has taken it. -/
theorem yields_report {P : State → Prop} (heeds : s.heeds = true) (ends : P (finish s (if x = .active
    then completeSessions (activateIfOpen z (inputTaken z x s)) else inputTaken z x s) none none)) :
    Yields (.zoneInputReport z x) s P :=
  yields_of (fieldEvent_heeded heeds) ends

theorem activateIfOpen_shut (shut : (s.zone z).state ≠ .normal ∨ s.groupArmed (s.zone z).group = false ∨
    s.bypassed z = true) (x : ZoneInput) : activateIfOpen z (inputTaken z x s) = inputTaken z x s := by
  refine if_neg ?_
  rintro ⟨normal, -, armed, unbypassed⟩
  rw [inputTaken_zone] at normal armed
  rw [inputTaken_armed] at armed
  rw [inputTaken_bypassed] at unbypassed
  rcases shut with state | group | bypass
  · exact state normal
  · exact absurd (armed.symm.trans group) (by decide)
  · exact absurd (unbypassed.symm.trans bypass) (by decide)

/-- The mark of a zone whose input alone may have changed. -/
theorem finish_zone_input (new : t.zone z = { s.zone z with input := x }) : (finish s t none none).zone z =
    { s.zone z with input := x, mark := (s.zone z).mark || decide ((s.zone z).input ≠ x) } := by
  rw [finish_zone_changed new rfl]
  have moved : ({ s.zone z with input := x } : Zone) ≠ s.zone z ↔ (s.zone z).input ≠ x := by
    refine not_congr ⟨fun same => ?_, fun same => by rw [← same]⟩
    exact (congrArg Zone.input same).symm
  simp only [moved]

/-- A zone that enters its delay. -/
def delayed (z : ZoneId) (s : State) : State :=
  ((s.modZone z fun r => { r with tripCount := bump r.tripCount }).modZone z fun r => { r with state := .delay }).modAlarm
    fun a => { a with delays := tableSet a.delays z (some ((s.zone z).entryDelay * second)) }

theorem activateIfOpen_delayed (normal : (s.zone z).state = .normal) (armed : s.groupArmed (s.zone z).group = true)
    (unbypassed : s.bypassed z = false) (delay : (s.zone z).entryDelay ≠ 0) :
    activateIfOpen z (inputTaken z .active s) = delayed z (inputTaken z .active s) := by
  have zone := inputTaken_zone z .active s
  rw [activateIfOpen, if_pos, activate, if_neg (by rw [zone]; exact delay), delayed]
  refine ⟨by rw [zone]; exact normal, by rw [zone], ?_, by rw [inputTaken_bypassed, unbypassed]⟩
  rw [inputTaken_armed, zone]
  exact armed

/-! ### A response that only sounds -/

/-- The REPORT and SILENT responses reach the Alarm Unit alone. -/
theorem respond_quiet (response : (s.zone z).response = .report ∨ (s.zone z).response = .silent) (stood : Bool) :
    respond z stood s = s.modAlarm fun a => { a with silent := a.silent || (s.zone z).response == .silent } := by
  have silent : (Response.report == Response.silent) = false := rfl
  rcases response with response | response <;> rw [respond, response] <;> simp [State.modAlarm, silent]

theorem latch_leaves_alarm (k : Struck c z s u) {g : AlarmUnit → AlarmUnit} (run : respond z s.lockdown u = u.modAlarm g) :
    EventLeaves { zones := [z], trips := true, alarm := true, closes := true, levels := true } s (latchEnded z s u) ∧
      ∀ j, SessionSettles s (latchEnded z s u) j := by
  rw [latchEnded, run]
  refine ⟨eventLeaves_finish ((((k.leaves _ (by simp) rfl rfl rfl).trans (.modAlarm rfl _)).trans (.raise _)).trans
    (completeSessions_touches rfl _)), fun j => sessionSettles_finish ?_⟩
  rw [State.raise_lane, State.modAlarm_lane, k.lane]

/-- Settles O50: a zone report sets the input; an armed NORMAL zone is activated, delays or latches, and the latch acts
by its response. -/
theorem zoneReportsActivateAndLatch : Obligations.ZoneReportsActivateAndLatch := by
  refine ⟨?_, ?_, ?_, ?_, ?_, ?_, ?_, ?_, ?_, ?_, ?_, ?_, ?_, ?_, ?_, ?_, ?_, ?_, ?_, ?_, ?_, ?_, ?_, ?_, ?_, ?_⟩
  case refine_1 =>
    intro z x s heeds shut
    refine yields_report heeds ?_
    split
    next active =>
      subst active
      have shut := shut.resolve_left (by decide)
      rw [activateIfOpen_shut shut]
      exact ⟨eventLeaves_finish ((inputTaken_touches (by simp) rfl _ s).trans (completeSessions_touches rfl _)),
        fun _ l => sessionSettles_finish rfl, finish_zone_input ((completeSessions_zone _ z).trans (inputTaken_zone z _ s))⟩
    next quiet =>
      exact ⟨eventLeaves_finish (inputTaken_touches (by simp) rfl _ s), fun active => absurd active quiet,
        finish_zone_input (inputTaken_zone z _ s)⟩
  case refine_2 =>
    intro z s heeds normal armed unbypassed delay
    refine yields_report heeds ?_
    rw [if_pos rfl, activateIfOpen_delayed normal armed unbypassed delay]
    have zone : (delayed z (inputTaken z .active s)).zone z = { s.zone z with
        input := .active, tripCount := bump (s.zone z).tripCount, state := .delay } := by
      rw [delayed, State.modAlarm_zone, State.modZone_zone, if_pos rfl, State.modZone_zone, if_pos rfl, inputTaken_zone]
    refine ⟨eventLeaves_finish (((inputTaken_touches (by simp) rfl _ s).trans
      (((Touches.modZone (by simp) _).trans (.modZone (by simp) _)).trans (.modAlarm rfl _))).trans
      (completeSessions_touches rfl _)), fun l => sessionSettles_finish rfl, ?_, ?_⟩
    · rw [finish_zone_moved ((completeSessions_zone _ z).trans zone) (by simp [normal])]
    · rw [finish_alarm, completeSessions_alarm, delayed, State.modAlarm_alarm, inputTaken_zone]
      rfl
  case refine_3 =>
    intro c z s heeds latches response
    refine yields_latch heeds latches fun u k => ?_
    have run : respond z s.lockdown u = _ := respond_quiet (by rw [k.response]; exact response) _
    obtain ⟨leaves, settles⟩ := latch_leaves_alarm k run
    refine ⟨leaves, settles, k.ended_zone, k.ended_trips, k.ended_notice, ?_⟩
    rw [ended_alarm, run, State.modAlarm_alarm, k.alarm, k.response]
  case refine_4 =>
    intro c z l s heeds latches response lane
    refine yields_latch heeds latches fun u k => ?_
    obtain ⟨lock, mark⟩ := k.ended_lock response lane
    exact ⟨k.ended_zone, k.ended_trips, k.ended_notice, lock, mark, k.ended_alarm_laneLock response lane⟩
  case refine_5 =>
    intro c z l s heeds latches response lane shut
    refine yields_bolt heeds latches response lane shut fun w k => ⟨k.ended_leaves, ?_, k.ended_settles⟩
    have lock := congrArg Lane.lock k.ended_lane
    dsimp only at lock
    rw [lock]
    exact k.ended_lane
  case refine_6 =>
    intro c z l s heeds latches response lane opened
    exact yields_lock heeds latches response lane opened fun w k => ⟨k.locked_leaves, k.locked_closes,
      fun j apart => k.locked_settles apart, k.locked_path, k.locked_placement, k.locked_cassette⟩
  case refine_7 =>
    intro c z l i o s heeds latches response lane opened order waits
    refine yields_lock heeds latches response lane opened fun w k => ?_
    have waiting : o.waitsOn l = true := by simpa [waits_eq, order] using waits
    have state : o.state = .held ∨ o.state = .queued := by
      simp only [Order.waitsOn, Bool.and_eq_true, Bool.or_eq_true, beq_iff_eq] at waiting
      exact waiting.2
    refine k.locked_order_moved (q := o.stopped .cancelled .laneLock) order (if_pos waiting) rfl ?_
    rcases state with state | state <;> simp [Order.stopped, state]
  case refine_8 =>
    intro c z l i o s heeds latches response lane opened order waits head load
    refine yields_lock heeds latches response lane opened fun w k => k.locked_order_still order ?_
    have waiting : ¬o.waitsOn l = true := by simpa [waits_eq, order] using waits
    rw [State.closeFate, if_neg waiting, if_neg fun dumps => head dumps.1 dumps.2]
    split
    next recalls => exact if_neg ((load recalls.2).resolve_right fun closed => closed recalls.1)
    · rfl
  case refine_9 =>
    intro c z l i o s heeds latches response lane opened head order staged
    refine yields_lock heeds latches response lane opened fun w k => ⟨?_, ?_⟩
    · rw [k.locked_laneWork]
      simp [State.dumpsHead, head, order, staged]
    · refine k.locked_order_moved (q := o.dumped .laneLock) order ?_ rfl (by simp [Order.dumped, staged])
      rw [State.closeFate, if_neg (by simp [Order.waitsOn, staged]), if_pos ⟨head, staged⟩]
      rfl
  case refine_10 =>
    intro c z l i o s heeds latches response lane opened drawer load order presented
    refine yields_lock heeds latches response lane opened fun w k => ?_
    have fate : s.closeFate l .laneLock i o =
        { o with state := .recalling, reason := some .laneLock, presentDeadline := none } := by
      rw [State.closeFate, if_neg (by simp [Order.waitsOn, presented]), if_neg fun dumps => by simp [presented] at dumps,
        if_pos ⟨drawer, load⟩, Order.toRecalling, if_pos presented]
      rfl
    exact k.locked_order_moved order fate rfl (by simp [presented])
  case refine_11 =>
    intro c z l s heeds latches response lane opened
    refine yields_lock heeds latches response lane opened fun w k => ⟨?_, k.locked_laneWork⟩
    have lock := congrArg Lane.lock (k.locked_lane opened)
    dsimp only at lock
    rw [lock]
    exact k.locked_lane opened
  case refine_12 =>
    intro c z s heeds latches response
    exact yields_latch heeds latches fun u k => ⟨k.ended_zone, k.ended_trips, k.ended_notice, k.ended_lockdown response,
      k.ended_siren response⟩
  case refine_13 =>
    intro c z s heeds latches response stood
    refine yields_latch heeds latches fun u k => latch_leaves_alarm k (g := fun a => { a with siren := true }) ?_
    rw [respond_lockdown (k.response.trans response), stood, if_pos rfl]
  case refine_14 =>
    intro c z s heeds starts
    refine yields_lockdown heeds starts fun w k => ⟨k.leaves_ended, k.settles, fun i stands heads loads =>
      k.order_still stands heads loads, ?_, k.ended_queue, k.ended_travel, ?_, k.ended_bins, fun d idle =>
      k.ended_cassette_idle idle⟩
    · rw [k.ended_placement]
      rfl
    · intro state idle
      have still : lockdownPicking w = w := lockdownPicking_idle (by rw [k.path]; exact state)
      have path := lockdownRun_path_idle (s := w) (fun d => by rw [still, k.path]; exact (idle d).1)
        (.inr fun d => by rw [k.cassette]; exact (idle d).2)
      rw [still, k.path] at path
      rw [ended_path]
      exact path
  case refine_15 =>
    intro c z d s heeds starts ajar
    exact yields_lockdown heeds starts fun w k => ⟨by rw [k.ended_shutter, if_pos ajar],
      by rw [k.ended_travel, if_pos ajar]⟩
  case refine_16 =>
    intro c z l s heeds starts
    exact yields_lockdown heeds starts fun w k => ⟨k.settles l, k.ended_lane l, k.ended_laneWork l⟩
  case refine_17 =>
    intro c z l i o s heeds starts head alone order staged holder
    exact yields_lockdown heeds starts fun w k => k.order_dumped head alone order staged holder
  case refine_18 =>
    intro c z l i o s heeds starts drawer load order presented holder
    exact yields_lockdown heeds starts fun w k => k.order_recalled drawer load order presented holder
  case refine_19 =>
    intro c z i o s heeds starts order state holder
    refine yields_lockdown heeds starts fun w k => ?_
    rw [k.order_still (k.not_stopped holder), order]
    · intro l _
      rcases state with state | state | state | state <;> simp [order, state]
    · intro l _ _
      rcases state with state | state | state | state <;> simp [order, state]
  case refine_20 =>
    intro c z i a s heeds starts state holder attempt
    refine yields_lockdown heeds starts fun w k => ?_
    rw [ended_path, ← k.path]
    exact lockdownRun_path_picks (by rw [k.path]; exact state) (by rw [k.path]; exact holder)
      (by rw [k.path]; exact attempt)
  case refine_21 =>
    intro c z i o s heeds starts state holder none order picks
    refine yields_lockdown heeds starts fun w k => ?_
    have stops : s.stopsPicking i = true := stopsPicking_iff.mpr ⟨⟨state, holder⟩, none⟩
    have path := lockdownRun_path_stopped (s := w) (i := i) (o := o)
      (by rw [k.pickingOrder]; exact pickingOrder_of state holder order) (by rw [k.path]; exact none)
    have ends := k.order_stopped stops order picks
    rw [k.freed, k.path] at path
    rw [ended_path]
    split
    next empty =>
      rw [if_pos empty] at ends path
      refine ⟨ends, path, ?_⟩
      rw [k.ended_placement]
      simp [State.stopEnds, stops, order, empty]
    next notes =>
      rw [if_neg notes] at ends path
      exact ⟨ends, path⟩
  case refine_22 =>
    intro c z d v s heeds starts leveling holding holder reading
    refine yields_lockdown heeds starts fun w k => ?_
    obtain ⟨cassette, bins, path⟩ := lockdownRun_ends (s := w) (d := d) (v := v) (by rw [k.cassette]; exact leveling)
      (by rw [k.path]; exact holder) (fun fetching => by simp [holding] at fetching)
    rw [k.path, reading, k.cassette, spent_returned] at cassette
    rw [k.path, reading, k.bins] at bins
    rw [k.freed, k.path, reading] at path
    refine ⟨?_, ?_, ?_⟩
    · rw [ended_cassette_moved cassette (by simp [leveling])]
    · rw [lockdownEnded, finish_bins, completeSessions_bins, State.raise_custody, bins]
      rfl
    · rw [ended_path, ended_pauseDue]
      generalize (lockdownRun w).path = p at path
      have diverter : p.rejectDiverter = s.path.rejectDiverter := by rw [path]; rfl
      rw [diverter]
      exact path
  case refine_23 =>
    intro c z d v s heeds starts leveling waiting holder
    refine yields_lockdown heeds starts fun w k => ?_
    have ends := lockdownRun_waiting (s := w) (d := d) (v := v) (by rw [k.cassette]; exact leveling)
      (by simp [waiting]) (by rw [k.path]; exact holder)
    rw [lockdownShut_cassette, k.cassette] at ends
    refine ⟨?_, ?_⟩
    · rw [ended_cassette_moved ends (by simp [Cassette.returned, leveling])]
      rfl
    · have gone : ((lockdownEnded s w).cassette d).leveling = none := by rw [ended_leveling, ends]; rfl
      rw [k.ended_queue]
      simp [State.claimStops, leveling, gone]
  case refine_24 =>
    intro c z d v a s heeds starts state leveling fetching holder attempt
    refine yields_lockdown heeds starts fun w k => ?_
    rw [ended_path, ended_leveling, ← k.path]
    exact lockdownRun_runs (by rw [k.path]; exact state) (by rw [k.cassette]; exact leveling) fetching
      (by rw [k.path]; exact holder) (by rw [k.path]; exact attempt)
  case refine_25 =>
    intro c z d v s heeds starts state leveling fetching holder none reading
    refine yields_lockdown heeds starts fun w k => ?_
    obtain ⟨cassette, -, path⟩ := lockdownRun_ends (s := w) (d := d) (v := v) (by rw [k.cassette]; exact leveling)
      (by rw [k.path]; exact holder) (fun _ => by rw [k.path]; exact none)
    rw [k.path, reading, k.cassette] at cassette
    rw [k.freed, k.path, reading] at path
    rw [ended_cassette_moved cassette (by simp [Cassette.returned, leveling])]
    refine ⟨rfl, rfl, rfl, ?_⟩
    rw [ended_path]
    conv_lhs => rw [path]
    rfl
  case refine_26 =>
    intro z s heeds idle
    refine yields_of (event_heeded heeds) ?_
    have still : delayExpiry z s = s := if_neg idle
    rw [still]
    exact eventLeaves_finish (.refl _ s)

end Sys2Proof.Machine
end
